-- ==== Sys2Proof/Word.lean ====
section
/-! DEFINITION. The unit both serial links carry: one byte (spec/12, 12.1). -/

namespace Sys2Proof

/-- One byte of a frame. Frames are the only place where the manual treats values as bits. -/
abbrev Byte := BitVec 8

end Sys2Proof
end

