-- ==== Sys2Proof/Config.lean ====
section
/-! DEFINITION. The fixed sizes of the part, and the values that the manual leaves open. -/

namespace Sys2Proof.Config

/-- R161: entries held by the incident trail. -/
def trailSize : Nat := 256
/-- R148: frames held by the inbound request buffer. -/
def inboundSize : Nat := 4
/-- R148, R154: frames held by the outbound queue. -/
def outboundSize : Nat := 40
/-- R154: an EVENT frame is taken into the outbound queue below this length. -/
def eventLimit : Nat := 32
/-- R153: a request is taken while the outbound queue is shorter than this. -/
def takeLimit : Nat := 38
/-- R127: entries of the forward queue. -/
def forwardSize : Nat := 8
/-- R2: sources in an alarm source set. -/
def sourceSetSize : Nat := 8
/-- R36: outputs in the run fault list. -/
def faultListSize : Nat := 16
/-- R177: the uptime counter counts modulo this number of seconds. -/
def uptimeModulus : Nat := 4294967296
/-- How many notices between blocks one command may lead to before the rest waits for the next command.
DESIGN CHOICE, log entry 4. -/
def cascadeFuel : Nat := 100000

/-- FREE VALUE, log entry 5. R174: a warm start or a loss of power during a write leaves the stored entry 'either as
it was or as written'. True means as written. Nothing says which. -/
opaque interruptedWriteStored : Nat → Bool

/-- FREE VALUE, log entry 5. R174 does not say what non-volatile memory holds after a write whose read-back differs.
True means the entry as written, false the entry as it was. -/
opaque failedWriteStored : Nat → Bool

/-- FREE VALUE, log entry 6. What an UNMAPPED_INPUT entry holds in a field that its owning rule does not state: the detail
of an ignored SUPPLY_STATE (R94), and a field that a malformed frame is too short to carry (R179). -/
opaque unstatedField : Nat → Nat

end Sys2Proof.Config
end

