-- ==== Sys2Proof/Syntax.lean ====
section
/-! DEFINITION. The commands of the PX-316: one constructor of Instr for each row of spec/opcode_table.json. -/

namespace Sys2Proof

/-- A frame between its SYNC byte and its CHECK (spec/12, 12.1): the four header bytes as numbers, and the payload. -/
structure Frame where
  dest : Nat
  src : Nat
  kind : Nat
  tag : Nat
  payload : List Byte
deriving DecidableEq, Repr

/-- Who asks, for a request frame (R150, R154): the requesting station (SRC), the TAG to echo, and the own address
the request was sent to (DEST). -/
structure Requester where
  station : Nat
  tag : Nat
  own : Nat
deriving DecidableEq, Repr

/-- The eight tables of R172. -/
inductive TableId where
  | output | zone | scenario | joint | step | board | window | link
deriving DecidableEq, Repr

/-- One entry of the tables in non-volatile memory: its table and its index (R172). -/
structure EntryRef where
  table : TableId
  index : Nat
deriving DecidableEq, Repr

/-- What Zone Intake may take while the Selector decides (R20): a ZONE_EVENT or a ZONE_RESET, with its frame's fields. -/
inductive IntakeArrival where
  | event (zone source cls : Nat)
  | reset (zone : Nat)
deriving DecidableEq, Repr

/-- The commands. A request row carries its requester and the fields of its payload (spec/12, 12.3). -/
inductive Instr where
  /-- R176: power-up. `bad` lists the entries whose integrity check fails when the tables are read. -/
  | powerUp (bad : List EntryRef)
  /-- R176: the reset line goes active. -/
  | resetLineAssert
  /-- R176: the reset line is released. `bad` as for power-up. -/
  | resetLineRelease (bad : List EntryRef)
  /-- R176: the warm start that follows the sending of the REPLY to an accepted RESTART. -/
  | warmStart (bad : List EntryRef)
  /-- R177: one second passes. -/
  | uptimeTick
  /-- R149: bytes arrive on the panel link, SYNC to CHECK. -/
  | panelFrameReceived (bytes : List Byte)
  /-- R153: a request frame reaches the inbound buffer. -/
  | requestArrival (frame : Frame)
  /-- R153: the head request is taken. -/
  | requestTaken
  /-- R154: the last byte of the head outbound frame has gone. -/
  | outboundFrameSent
  /-- R4: a ZONE_EVENT reaches Zone Intake. -/
  | zoneEvent (zone source cls : Nat)
  /-- R9: a ZONE_RESET reaches Zone Intake. -/
  | zoneReset (zone : Nat)
  /-- R94: a SUPPLY_STATE reaches the Start Scheduler. -/
  | supplyState (board source : Nat)
  /-- R116: an FF_STATE from station `src` reaches the Firefighter Control Unit. -/
  | ffState (src : Nat) (payload : List Byte)
  /-- R152: a BLD_CMD from station `src` reaches the Output Resolver. -/
  | bldCmd (src : Nat) (payload : List Byte)
  /-- R12: ZONE_ISOLATE on. -/
  | zoneIsolateOn (req : Requester) (zone : Nat)
  /-- R14: ZONE_ISOLATE off. -/
  | zoneIsolateOff (req : Requester) (zone : Nat)
  /-- R79: OUTPUT_RESET. -/
  | outputReset (req : Requester) (output : Nat)
  /-- R166: FAULT_ACK. -/
  | faultAck (req : Requester) (sequence later : Nat)
  /-- R167: TRAIL_READ. -/
  | trailRead (req : Requester) (start count : Nat)
  /-- R155: STATUS_ASK with selector SUMMARY. -/
  | statusAskSummary (req : Requester) (index part : Nat)
  /-- R155: STATUS_ASK with selector ZONE. -/
  | statusAskZone (req : Requester) (index part : Nat)
  /-- R155: STATUS_ASK with selector OUTPUT. -/
  | statusAskOutput (req : Requester) (index part : Nat)
  /-- R155: STATUS_ASK with selector RUN. -/
  | statusAskRun (req : Requester) (index part : Nat)
  /-- R155: STATUS_ASK with selector BOARD. -/
  | statusAskBoard (req : Requester) (index part : Nat)
  /-- R155: STATUS_ASK with selector FIRST_FAULT. -/
  | statusAskFirstFault (req : Requester) (index part : Nat)
  /-- R170: MODE ENTER_SERVICE. -/
  | enterService (req : Requester)
  /-- R170, R171: MODE ENTER_NORMAL. -/
  | enterNormal (req : Requester)
  /-- R171: the validation begun by ENTER_NORMAL ends. -/
  | validationComplete
  /-- R170: MODE RESTART. -/
  | modeRestart (req : Requester)
  /-- R172: TSEL. -/
  | tsel (req : Requester) (table index : Nat)
  /-- R173: TRD. -/
  | trd (req : Requester)
  /-- R173: TWR. -/
  | twr (req : Requester) (index : Nat) (entry : List Byte)
  /-- R174: the non-volatile write ends, its read-back equal or not. -/
  | nvWriteComplete (readBackEqual : Bool)
  /-- R31: TEST_RUN. -/
  | testRun (req : Requester) (scenario : Nat)
  /-- R32: TEST_END. -/
  | testEnd (req : Requester)
  /-- R142: HOLD_ASK. -/
  | holdAsk (req : Requester)
  /-- R145: HOLD_END. -/
  | holdEnd (req : Requester)
  /-- R156: a frame for a panel-side station reaches the Forwarding Map. -/
  | forwardCandidate (frame : Frame)
  /-- R23: the Selector takes its next notice. `during` are the arrivals that Zone Intake takes during the decision (R20), in
  groups: one group is taken before each request reaches Zone Intake and before each repeat of the decision reads the
  zones, and what is left is taken before the instruction to the Runner. While a validation is under way the groups are kept
  for the decision at its end (R171; log entry 19). -/
  | placementDecision (during : List (List IntakeArrival))
  /-- R43: the DELAY timer expires. -/
  | delayTimerExpiry
  /-- R45: the establish deadline expires. -/
  | establishDeadlineExpiry
  /-- R130: the last byte of a plant-link send has left the line. -/
  | plantSendComplete
  /-- R130: bytes arrive on the plant link, SYNC to CHECK. -/
  | plantFrameReceived (bytes : List Byte)
  /-- R132: a good CMD_ACK from the station and with the tag of the exchange in flight. -/
  | cmdAck (channel result : Nat)
  /-- R133: a good STATE from the station and with the tag of the exchange in flight. -/
  | stateReply (readings : List Byte)
  /-- R141: a good frame of any kind from the station and with the tag of the FORWARD exchange in flight. -/
  | forwardReply (kind : Nat) (payload : List Byte)
  /-- R71: the proof timer of an output expires. -/
  | proofTimerExpiry (output : Nat)
  /-- R131: the reply window expires. -/
  | replyWindowExpiry
  /-- R138: the pacer timer expires. -/
  | pacerTimerExpiry
  /-- R140: the wait timer of the forward entry at this place (0 is the head) expires. -/
  | forwardWaitExpiry (place : Nat)
  /-- R144: the hold timer expires. -/
  | holdTimerExpiry
  /-- R98: a waiting fan's waiting time is measured against hold_warn. -/
  | startHeld (output : Nat)
  /-- R124: the firefighter supervision timer expires. -/
  | supervisionTimerExpiry
  /-- R176: the supply to the module is lost. -/
  | powerFailure
deriving DecidableEq, Repr

end Sys2Proof
end

