-- ==== Sys2Proof/Machine/State.lean ====
section
/-! DEFINITION. The state of the PX-316 as plain data, block by block (spec/00, 1.4), and its values after reset. -/

namespace Sys2Proof.Machine

/-- The manual gives no command an outcome that stops the sequencer: a bad frame is counted or ignored, a bad request
is answered. No meaning raises a fault, so this type has no value. Safe: no state is called faulty that the part
goes on from. -/
inductive Fault where
deriving DecidableEq, Repr

/-- Why a command has no next state. -/
inductive Refusal where
  /-- Raised by exec for a row of the opcode table that has no meaning in this model. Every row has one, so no arm
  raises it. Safe: it claims nothing of the part. -/
  | notModelled (mnemonic : String)
deriving DecidableEq, Repr

/-! ### Tables (spec/12, 12.6): every field a number, as the entry's bytes hold it -/

/-- Sparse contents: rising keys, no value equal to what an unlisted key reads as. -/
abbrev Sparse (α : Type) := List (Nat × α)

/-- An OUTPUT entry (chapter 4, 4.1). -/
structure OutputEntry where
  kind : Nat
  module : Nat
  channel : Nat
  zone : Nat
  role : Nat
  safeDefault : Nat
  tMain : Nat
  tDown : Nat
  board : Nat
  startLoad : Nat
  runLow : Nat
  runHigh : Nat
  stepLoad : Nat
  extractHigh : Nat
  low16 : Nat
  standby : Nat
  path : List Nat
  interlock : Nat
deriving DecidableEq, Repr

/-- A ZONE entry (chapter 1, 1.1). -/
structure ZoneEntry where
  enabled : Nat
  priority : Nat
  threshold : Nat
  scenario : Nat
  extract : List Nat
  reserve : List Nat
deriving DecidableEq, Repr

/-- A SCENARIO entry (R34). -/
structure ScenarioEntry where
  firstStep : Nat
  stepCount : Nat
  establish : Nat
  requirement1 : Nat
  requirement2 : Nat
deriving DecidableEq, Repr

/-- A JOINT entry (R22). -/
structure JointEntry where
  zoneA : Nat
  zoneB : Nat
  scenario : Nat
deriving DecidableEq, Repr

/-- A STEP entry (R35). -/
structure StepEntry where
  output : Nat
  target : Nat
  gate : Nat
  delay : Nat
deriving DecidableEq, Repr

/-- A BOARD entry (R84). -/
structure BoardEntry where
  capMains : Nat
  capStandby : Nat
  startLimit : Nat
  holdWarn : Nat
deriving DecidableEq, Repr

/-- A WINDOW entry (R156). -/
structure WindowEntry where
  panelBase : Nat
  count : Nat
  plantBase : Nat
  permission : Nat
  fireBlock : Nat
deriving DecidableEq, Repr

/-- The link parameter record (R128). -/
structure LinkRecord where
  own : Nat
  firePanel : Nat
  ffPanel : Nat
  building : Nat
  commissioning : Nat
  plantMaster : Nat
  pacer : Nat
  fastPerSlow : Nat
  burstLimit : Nat
  replyWindow : Nat
  retryLimit : Nat
  busyLimit : Nat
  forwardWait : Nat
  holdLimit : Nat
  supervision : Nat
deriving DecidableEq, Repr

/-- The eight tables (R172). An unlisted index holds the table's blank entry (R176). -/
structure Tables where
  outputs : Sparse OutputEntry
  zones : Sparse ZoneEntry
  scenarios : Sparse ScenarioEntry
  joints : Sparse JointEntry
  steps : Sparse StepEntry
  boards : Sparse BoardEntry
  windows : Sparse WindowEntry
  link : LinkRecord
deriving DecidableEq, Repr

/-- R176: the blank output is UNUSED. Its other fields are 0, DESIGN CHOICE, log entry 8. -/
def blankOutput : OutputEntry :=
  { kind := 0, module := 0, channel := 0, zone := 0, role := 0, safeDefault := 0, tMain := 0, tDown := 0, board := 0,
    startLoad := 0, runLow := 0, runHigh := 0, stepLoad := 0, extractHigh := 0, low16 := 0, standby := 0,
    path := [0, 0, 0, 0], interlock := 0 }
/-- R176: the blank zone is disabled. Its other fields are 0, DESIGN CHOICE, log entry 8. -/
def blankZone : ZoneEntry :=
  { enabled := 0, priority := 0, threshold := 0, scenario := 0, extract := [0, 0, 0, 0, 0, 0, 0, 0],
    reserve := [0, 0, 0, 0] }
/-- R176: a blank scenario holds each field at the lowest value of its range (R34). -/
def blankScenario : ScenarioEntry :=
  { firstStep := 0, stepCount := 1, establish := 10, requirement1 := 0, requirement2 := 0 }
/-- R176: a blank joint entry is unused (zone A 0). Its other fields are 0, DESIGN CHOICE, log entry 8. -/
def blankJoint : JointEntry := { zoneA := 0, zoneB := 0, scenario := 0 }
/-- R176: a blank step holds each field at the lowest value of its range (R35). -/
def blankStep : StepEntry := { output := 1, target := 1, gate := 0, delay := 1 }
/-- R176: a blank board holds each field at the lowest value of its range (R84). -/
def blankBoard : BoardEntry := { capMains := 0, capStandby := 0, startLimit := 1, holdWarn := 10 }
/-- R176: a blank window is unused (count 0). Its other fields are 0, DESIGN CHOICE, log entry 8. -/
def blankWindow : WindowEntry := { panelBase := 0, count := 0, plantBase := 0, permission := 0, fireBlock := 0 }
/-- R128: the blank link record holds every parameter at its default. -/
def blankLink : LinkRecord :=
  { own := 200, firePanel := 1, ffPanel := 2, building := 210, commissioning := 230, plantMaster := 250, pacer := 25,
    fastPerSlow := 3, burstLimit := 4, replyWindow := 40, retryLimit := 2, busyLimit := 5, forwardWait := 20,
    holdLimit := 600, supervision := 10 }
/-- R176: a module as delivered holds every table blank. -/
def blankTables : Tables :=
  { outputs := [], zones := [], scenarios := [], joints := [], steps := [], boards := [], windows := [],
    link := blankLink }

/-! ### Zone Intake (R2) -/

/-- R2, 1.3: the zone states. -/
inductive ZoneState where
  | normal | prealarm | confirmed | active | secondary | isolated
deriving DecidableEq, Repr

/-- 1.4: the class of an alarm source. -/
inductive SourceClass where
  | detector | confirming
deriving DecidableEq, Repr

/-- R2: one entry of an alarm source set. -/
structure AlarmSource where
  address : Nat
  cls : SourceClass
deriving DecidableEq, Repr

/-- R2: why a zone was confirmed. -/
inductive ConfirmReason where
  | coincidence | confirmingSource | held
deriving DecidableEq, Repr

/-- R2: the confirm reason and the confirm stamp, which are present together. -/
structure Confirmation where
  reason : ConfirmReason
  stamp : Nat
deriving DecidableEq, Repr

/-- R2: a zone runtime record. While the zone is ISOLATED `sources` is the held set. -/
structure ZoneRec where
  state : ZoneState
  sources : List AlarmSource
  confirmation : Option Confirmation
  held : Bool
deriving DecidableEq, Repr

/-- R3: every zone runtime record after a start. -/
def coldZone : ZoneRec := { state := .normal, sources := [], confirmation := none, held := false }

/-! ### Scenario Selector (R19): what has reached it and waits -/

/-- R19, R20: a confirmation or a reset that has reached the Selector and is not yet taken. -/
inductive SelectorNotice where
  | confirmed (zone : Nat)
  | reset (zone : Nat)
deriving DecidableEq, Repr

/-! ### Scenario Runner (R36) -/

/-- R36: the state of the run context. -/
inductive RunState where
  | idle | staging | established
deriving DecidableEq, Repr

/-- R36: the run context. A timer of `some 0` has run out and its expiry is not yet taken (log entry 3). -/
structure Run where
  state : RunState
  test : Bool
  late : Bool
  degraded : Bool
  scenario : Nat
  served : List Nat
  cursor : Nat
  inFlight : List Nat
  lastIssued : Sparse (Option Nat)
  delay : Option Nat
  deadline : Option Nat
  faults : List Nat
  overflow : Bool
  startStamp : Option Nat
  stageStamp : Option Nat
deriving DecidableEq, Repr

/-- R37: the run context after a start. -/
def coldRun : Run :=
  { state := .idle, test := false, late := false, degraded := false, scenario := 0, served := [], cursor := 0,
    inFlight := [], lastIssued := [], delay := none, deadline := none, faults := [], overflow := false,
    startStamp := none, stageStamp := none }

/-! ### Extract Monitor (R102) -/

/-- R102: an extract watch. `watching` false is INACTIVE. `pending` is RESERVE_PENDING with its fan. -/
structure Watch where
  zone : Nat
  requirement : Nat
  watching : Bool
  deficit : Bool
  exhausted : Bool
  cursor : Nat
  pending : Option Nat
deriving DecidableEq, Repr

/-! ### Output Resolver (R57) -/

/-- A command to an output (12.7: 1 OPEN, 2 CLOSE, 3 STOP, 4 LOW, 5 HIGH). NONE is `none` of `Option Cmd`. -/
inductive Cmd where
  | opn | cls | stop | low | high
deriving DecidableEq, Repr

/-- R57: the actuation states. -/
inductive Act where
  | unknown | settled | queued | waitPath | waitStart | sent | moving | starting | stopping | fault
deriving DecidableEq, Repr

/-- R57: the fault codes. -/
inductive FaultCode where
  | noProof | stuck | conflict | noRun | noStop | lostProof | tripped | localControl | noResponse | busy | path
deriving DecidableEq, Repr

/-- 12.7: the cause given with NO_RESPONSE. -/
inductive Cause where
  | none | missing | badChannel
deriving DecidableEq, Repr

/-- R57: the fault code of an output in FAULT, with its cause. -/
structure OutputFault where
  code : FaultCode
  cause : Cause
deriving DecidableEq, Repr

/-- R59: a fan's running speed. -/
inductive Speed where
  | stopped | low | high
deriving DecidableEq, Repr

/-- R59: the feedback view of an output, without its validity mark. -/
inductive View where
  | none | atOpen | atClosed | travel | conflict
  | fan (speed : Speed) (trip localFlag : Bool)
deriving DecidableEq, Repr

/-- R65: until when a start slot is kept. -/
inductive SlotHold where
  /-- the present command needs it -/
  | needed
  /-- the start is on the link and its command was taken back: kept until the exchange ends -/
  | untilExchangeEnds
  /-- the start was accepted and its command was taken back: kept until the module accepts the replacing command -/
  | untilReplaced
deriving DecidableEq, Repr

/-- R57, R88: a start slot with its start demand. -/
structure Slot where
  demand : Nat
  hold : SlotHold
deriving DecidableEq, Repr

/-- R57: the engaged-as record. -/
inductive Engaged where
  | none
  | standbyFor (duty : Nat)
  | reserveFor (zone : Nat)
deriving DecidableEq, Repr

/-- R57: an output runtime record. The class of a fan is worked from its layers (log entry 2). A proof timer of
`some 0` has run out and its expiry is not yet taken (log entry 3). -/
structure OutRec where
  ff : Option Cmd
  fire : Option Cmd
  safe : Option Cmd
  bld : Option Cmd
  resolved : Option Cmd
  lastSent : Option Cmd
  act : Act
  fault : Option OutputFault
  view : View
  valid : Bool
  /-- R133: the last reading of the output's channel was unusable. -/
  unusable : Bool
  origin : Option View
  timer : Option Nat
  clean : Bool
  retried : Bool
  busy : Nat
  superseded : Nat
  slot : Option Slot
  joinTime : Option Nat
  heldWarned : Bool
  /-- R97: the fan's wait on its board has begun and has not ended, in its wait list or away from it. -/
  waitOpen : Bool
  engaged : Engaged
deriving DecidableEq, Repr

/-- R58: an output runtime record after a start, for a damper. -/
def coldOut : OutRec :=
  { ff := none, fire := none, safe := none, bld := none, resolved := none, lastSent := none, act := .unknown,
    fault := none, view := .none, valid := false, unusable := false, origin := none, timer := none, clean := false,
    retried := false, busy := 0, superseded := 0, slot := none, joinTime := none, heldWarned := false, waitOpen := false,
    engaged := .none }

/-- R66: an entry of the command queue. -/
structure QueueEntry where
  output : Nat
  cmd : Cmd
deriving DecidableEq, Repr

/-! ### Start Scheduler (R85) -/

/-- R85: a board's source. -/
inductive BoardSource where
  | unknown | mains | standby | dead
deriving DecidableEq, Repr

/-! ### Firefighter Control Unit (R115) -/

/-- R115: a zone switch position. -/
inductive ZoneSwitch where
  | auto | extract | off
deriving DecidableEq, Repr

/-- R115: an output switch position. -/
inductive OutputSwitch where
  | auto | opn | cls | off | low | on
deriving DecidableEq, Repr

/-- R115: the supervision state of the firefighter panel. -/
inductive PanelState where
  | unknown | present | lost
deriving DecidableEq, Repr

/-- R115: the parts of the Firefighter Control Unit. An unlisted switch is at AUTO. -/
structure FfUnit where
  zoneSwitches : Sparse ZoneSwitch
  outputSwitches : Sparse OutputSwitch
  allStop : Bool
  marks : List Nat
  panel : PanelState
  timer : Option Nat
  /-- R123, R124: the supervision time in force, at which the timer was last started. -/
  supervision : Nat
  lostStamp : Option Nat
deriving DecidableEq, Repr

/-! ### Plant Link Controller (R127) -/

/-- R127: the kind of an exchange. A command carries its output, a forward its origin and the panel-side station that
the origin addressed. -/
inductive ExchangeKind where
  | ownCommand (output : Nat)
  | ownPoll
  | forward (station tag addressed : Nat)
deriving DecidableEq, Repr

/-- R127: the exchange in flight. `window` is absent while a send is leaving the line, then the reply window. -/
structure Exchange where
  kind : ExchangeKind
  frame : Frame
  sends : Nat
  window : Option Nat
deriving DecidableEq, Repr

/-- R127: the state of a module. -/
inductive ModuleState where
  | unknown | present | missing
deriving DecidableEq, Repr

/-- R127: an entry of the module table. -/
structure ModuleRec where
  state : ModuleState
  misses : Nat
  missingStamp : Option Nat
deriving DecidableEq, Repr

/-- R129: every module after a start. -/
def coldModule : ModuleRec := { state := .unknown, misses := 0, missingStamp := none }

/-- R127: an entry of the forward queue. -/
structure ForwardEntry where
  frame : Frame
  station : Nat
  tag : Nat
  addressed : Nat
  wait : Nat
deriving DecidableEq, Repr

/-- R127: the hold states. -/
inductive HoldState where
  | free | pending | held | releasePending
deriving DecidableEq, Repr

/-- R144: why a hold is released. -/
inductive ReleaseReason where
  | none | revoked | timeout | ended
deriving DecidableEq, Repr

/-- R127: the hold. `ask` is the pending reply: the requester of the HOLD_ASK that is not yet answered. -/
structure Hold where
  state : HoldState
  ask : Option Requester
  reason : ReleaseReason
  timer : Option Nat
deriving DecidableEq, Repr

/-- R127: the parts of the Plant Link Controller. A ring cursor names a module of its ring, absent when it is empty. -/
structure Plant where
  exchange : Option Exchange
  modules : Sparse ModuleRec
  fastRing : List Nat
  fastCursor : Option Nat
  slowRing : List Nat
  slowCursor : Option Nat
  pacer : Option Nat
  ready : Bool
  fastCount : Nat
  burst : Nat
  tagCounter : Nat
  forward : List ForwardEntry
  hold : Hold
  errors : Nat
  strays : Nat
deriving DecidableEq, Repr

/-- R129: the Controller after a start, in START mode. -/
def coldPlant : Plant :=
  { exchange := none, modules := [], fastRing := [], fastCursor := none, slowRing := [], slowCursor := none,
    pacer := none, ready := false, fastCount := 0, burst := 0, tagCounter := 0, forward := [],
    hold := { state := .free, ask := none, reason := .none, timer := none }, errors := 0, strays := 0 }

/-! ### Panel Link Interface (R148) -/

/-- What the Interface must do when a frame has been sent (R154, R170). -/
inductive AfterSent where
  | nothing
  /-- a summary STATUS that reported REPORTS_MISSED set, with no EVENT dropped since it was built -/
  | clearReportsMissed
  /-- the REPLY OK of an accepted RESTART -/
  | warmStart
deriving DecidableEq, Repr

/-- R148: a frame of the outbound queue. -/
structure OutFrame where
  frame : Frame
  after : AfterSent
deriving DecidableEq, Repr

/-- R148: the parts of the Panel Link Interface. The request in service is held as the row it spells. -/
structure Panel where
  inbound : List Frame
  inService : Option Instr
  outbound : List OutFrame
  errors : Nat
  overruns : Nat
  reportsMissed : Bool
  clearing : Bool
deriving DecidableEq, Repr

/-- R148: the Interface after a start. -/
def coldPanel : Panel :=
  { inbound := [], inService := none, outbound := [], errors := 0, overruns := 0, reportsMissed := false,
    clearing := false }

/-! ### Fault Capture Unit (R161, R163) -/

/-- The event codes of 12.7. -/
inductive Ev where
  | zonePrealarm | zoneConfirmed | zoneActive | zoneSecondary | zoneReset | zoneIsolated | zoneDeisolated
  | heldPresented | runStart | runSwitch | runEstablished | runLate | runEnd | outputFault | outputRecovered
  | standbyEngaged | extractDeficit | reserveEngaged | extractRestored | extractLost | moduleMissing
  | moduleRecovered | supplyChange | startHeld | ffAllstopOn | ffAllstopOff | ffLost | ffRestored | holdGranted
  | holdEnded | modeChange | restart | configInvalid | unmappedInput | ffrCaptured
deriving DecidableEq, Repr

/-- R161: an entry of the incident trail. -/
structure TrailEntry where
  sequence : Nat
  uptime : Nat
  event : Ev
  subject : Nat
  detail : Nat
deriving DecidableEq, Repr

/-- R159, R163: the clean flag of an OUTPUT_FAULT report. -/
inductive Clean where
  | none | clear | set
deriving DecidableEq, Repr

/-- R47: the run facts given with a fault. -/
structure RunFacts where
  scenario : Nat
  stepIndex : Nat
  seconds : Nat
deriving DecidableEq, Repr

/-- R163: what the first-fault record holds while LOCKED: the captured trail entry and its circumstances. -/
structure Captured where
  entry : TrailEntry
  facts : RunFacts
  extractSum : Nat
  clean : Clean
deriving DecidableEq, Repr

/-- R161, R163: the Fault Capture Unit. `locked` is `none` while the record is EMPTY. -/
structure Capture where
  trail : List TrailEntry
  nextSequence : Nat
  locked : Option Captured
  lost : Bool
  later : Nat
deriving DecidableEq, Repr

/-- R161, R163: the unit after a cold start. -/
def coldCapture : Capture := { trail := [], nextSequence := 0, locked := none, lost := false, later := 0 }

/-! ### Table Store and Mode Control (R169, R172, R174) -/

/-- R169: the modes. -/
inductive Mode where
  | start | service | normal
deriving DecidableEq, Repr

/-- R172: the table window. -/
structure TableWindow where
  selected : Option TableId
  cursor : Nat
deriving DecidableEq, Repr

/-- R174: the non-volatile write under way: the entry being written, as the fields its bytes spell, and its TWR. -/
structure NvWrite where
  req : Requester
  ref : EntryRef
  fields : List Nat
deriving DecidableEq, Repr

/-! ### Notices between blocks that one command leads to (log entry 4) -/

/-- What the Output Resolver has reported to the Runner and the Runner has not yet taken (R42). -/
inductive RunnerNotice where
  | settled (output : Nat)
  | fault (output : Nat) (code : FaultCode)
deriving DecidableEq, Repr

/-- What the Extract Monitor has been told and has not yet taken (R104, R107, R110). -/
inductive MonitorNotice where
  | startWatching
  | extractChanged (fan : Nat)
  | testZone (zone : Nat)
  | reserveOutcome (fan : Nat)
deriving DecidableEq, Repr

/-- The whole state. Fields after `capture` are the model's own. -/
structure State where
  /-- R176: the module has its supply. -/
  powered : Bool
  /-- R176: the reset line is held active. -/
  resetHeld : Bool
  /-- R169. -/
  mode : Mode
  /-- R177: whole seconds since power-up, modulo 4294967296. -/
  uptime : Nat
  /-- The tables in force. -/
  tables : Tables
  /-- The tables as non-volatile memory holds them (R174). -/
  nv : Tables
  /-- R172. -/
  window : TableWindow
  /-- R174: the write under way. -/
  nvWrite : Option NvWrite
  /-- R171: the ENTER_NORMAL whose validation is under way. -/
  validating : Option Requester
  /-- R169: the failing table and index. -/
  failing : Option EntryRef
  /-- R170: the REPLY of an accepted RESTART has left the line and the warm start is due. -/
  restartDue : Bool
  /-- R2: the zone runtime records. An unlisted zone's is coldZone. -/
  zones : Sparse ZoneRec
  /-- R36. -/
  run : Run
  /-- R102: the extract watches, in served order. -/
  watches : List Watch
  /-- R57: the output runtime records. An unlisted output's is coldOut. -/
  outs : Sparse OutRec
  /-- R66: the command queue, head first. -/
  queue : List QueueEntry
  /-- R85: each board's source. An unlisted board's is UNKNOWN. -/
  boards : Sparse BoardSource
  /-- R115. -/
  ff : FfUnit
  /-- R127. -/
  plant : Plant
  /-- R148. -/
  panel : Panel
  /-- R161, R163. -/
  capture : Capture
  /-- R19, R20: what has reached the Selector and waits, in the order of arrival. -/
  selector : List SelectorNotice
  /-- R20, R171: what Zone Intake takes during the decision at the end of the validation under way (log entry 19). -/
  entryIntake : List (List IntakeArrival)
  /-- What has reached the Runner within a command and waits (log entry 4). -/
  runnerIn : List RunnerNotice
  /-- What has reached the Monitor within a command and waits (log entry 4). -/
  monitorIn : List MonitorNotice
  /-- Which free value is used next (log entry 5). -/
  free : Nat
  /-- The commands that wait, first in, first out. -/
  pending : List Instr
deriving DecidableEq, Repr

/-- R115: the Firefighter Control Unit after a start, its timer at the supervision time. -/
def coldFf (supervision : Nat) : FfUnit :=
  { zoneSwitches := [], outputSwitches := [], allStop := false, marks := [], panel := .unknown,
    timer := some supervision, supervision := supervision, lostStamp := none }

/-- The machine after a cold start's first step (R176): START mode, every block at its start values, and the tables of
a module as delivered. The index cursor, which R172 gives no value while no table is selected, is 0. DESIGN CHOICE, log entry
1. The failing table and index, which R169 gives no value before the first validation, is none. DESIGN CHOICE, log entry 79. -/
def State.reset : State :=
  { powered := true, resetHeld := false, mode := .start, uptime := 0, tables := blankTables, nv := blankTables,
    window := { selected := none, cursor := 0 }, nvWrite := none, validating := none, failing := none,
    restartDue := false, zones := [], run := coldRun, watches := [], outs := [], queue := [], boards := [],
    ff := coldFf 10, plant := coldPlant, panel := coldPanel, capture := coldCapture, selector := [],
    entryIntake := [], runnerIn := [], monitorIn := [], free := 0, pending := [] }

end Sys2Proof.Machine
end

