-- ==== Sys2Proof/Machine/Bytes.lean ====
section
/-! DEFINITION. Bytes: byte order, the CRC and the frame on the line (spec/12, 12.1, R178). -/

namespace Sys2Proof.Machine

/-- A number as one byte. -/
def byte1 (n : Nat) : List Byte := [BitVec.ofNat 8 n]

/-- A number as `width` bytes, high byte first (spec/00, 1.6). -/
def bytesBE : Nat → Nat → List Byte
  | 0, _ => []
  | w + 1, n => BitVec.ofNat 8 (n / 256 ^ w) :: bytesBE w n

/-- A number as two bytes, high byte first. -/
def byte2 (n : Nat) : List Byte := bytesBE 2 n

/-- A number as four bytes, high byte first. -/
def byte4 (n : Nat) : List Byte := bytesBE 4 n

/-- The number that bytes spell, high byte first. -/
def numBE (bs : List Byte) : Nat := bs.foldl (fun n b => n * 256 + b.toNat) 0

/-- The byte at a place of a payload, 0 where there is none. -/
def byteAt (bs : List Byte) (i : Nat) : Nat := (bs.getD i 0).toNat

/-- The two-byte number at a place of a payload. -/
def wordAt (bs : List Byte) (i : Nat) : Nat := byteAt bs i * 256 + byteAt bs (i + 1)

/-- R178: one bit of a byte enters the CRC register, generator polynomial 1021H. -/
def crcBit (reg : BitVec 16) : BitVec 16 :=
  if reg.msb then (reg <<< 1) ^^^ 0x1021#16 else reg <<< 1

/-- R178: one byte enters, most significant bit first. -/
def crcByte (reg : BitVec 16) (b : Byte) : BitVec 16 :=
  (List.range 8).foldl (fun r _ => crcBit r) (reg ^^^ ((b.zeroExtend 16) <<< 8))

/-- R178: the CRC of bytes, from a register of FFFFH, with no final XOR. -/
def crc16 (bs : List Byte) : BitVec 16 := bs.foldl crcByte 0xFFFF#16

/-- The bytes of a frame from DEST to the last payload byte. -/
def frameBody (f : Frame) : List Byte :=
  byte1 f.dest ++ byte1 f.src ++ byte1 f.kind ++ byte1 f.tag ++ byte1 f.payload.length ++ f.payload

/-- 12.1: a frame as it is sent, SYNC to CHECK. -/
def frameBytes (f : Frame) : List Byte :=
  0xA5#8 :: frameBody f ++ byte2 (crc16 (frameBody f)).toNat

/-- What a link finds in the bytes that arrive. -/
inductive Received where
  /-- no SYNC byte, or fewer bytes than the frame's LEN asks for: no frame has completed -/
  | nothing
  /-- R149, R130: a failed check, or LEN above 48 -/
  | bad
  | good (frame : Frame)
deriving DecidableEq, Repr

/-- The bytes after SYNC, read as one frame (R149). -/
def readBody (bs : List Byte) : Received :=
  let len := byteAt bs 4
  if bs.length < 5 then .nothing
  else if 48 < len then .bad
  else if bs.length < 7 + len then .nothing
  else
    let body := bs.take (5 + len)
    if wordAt bs (5 + len) = (crc16 body).toNat then
      .good { dest := byteAt bs 0, src := byteAt bs 1, kind := byteAt bs 2, tag := byteAt bs 3,
              payload := body.drop 5 }
    else .bad

/-- R149: hunt for SYNC (A5H) and take the bytes that follow as one frame. -/
def receive : List Byte → Received
  | [] => .nothing
  | b :: bs => if b = 0xA5#8 then readBody bs else receive bs

end Sys2Proof.Machine
end

