-- ==== Sys2Proof/Machine/Codes.lean ====
section
/-! DEFINITION. The code tables of spec/12: frame kinds (12.2) and codes (12.7). -/

namespace Sys2Proof.Machine

/-! ### Frame kinds (12.2) -/

def kZoneEvent : Nat := 0x10
def kZoneReset : Nat := 0x11
def kZoneIsolate : Nat := 0x12
def kSupplyState : Nat := 0x14
def kFfState : Nat := 0x18
def kBldCmd : Nat := 0x1C
def kStatusAsk : Nat := 0x20
def kMode : Nat := 0x30
def kTsel : Nat := 0x31
def kTwr : Nat := 0x32
def kTrd : Nat := 0x33
def kTrailRead : Nat := 0x34
def kFaultAck : Nat := 0x35
def kTestRun : Nat := 0x36
def kTestEnd : Nat := 0x37
def kHoldAsk : Nat := 0x38
def kHoldEnd : Nat := 0x39
def kOutputReset : Nat := 0x3A
def kReply : Nat := 0x40
def kStatus : Nat := 0x41
def kEvent : Nat := 0x42
def kFwdFail : Nat := 0x43
def kTableData : Nat := 0x44
def kTrailData : Nat := 0x45
def kCmd : Nat := 0x60
def kCmdAck : Nat := 0x61
def kAsk : Nat := 0x62
def kState : Nat := 0x63

/-! ### REPLY results and FWD_FAIL reasons -/

/-- The REPLY results. -/
inductive Result where
  | ok | wrongMode | badIndex | badValue | endOfTable | busy | runActive | zoneBusy | notPermitted | revoked
  | invalid | storeFailed
deriving DecidableEq, Repr

def resultCode : Result → Nat
  | .ok => 0 | .wrongMode => 1 | .badIndex => 2 | .badValue => 3 | .endOfTable => 4 | .busy => 5 | .runActive => 6
  | .zoneBusy => 7 | .notPermitted => 8 | .revoked => 9 | .invalid => 10 | .storeFailed => 11

/-- The FWD_FAIL reasons. -/
inductive FailReason where
  | full | noWindow | readOnly | fireBlocked | owned | held | noReply | timeout
deriving DecidableEq, Repr

def failCode : FailReason → Nat
  | .full => 1 | .noWindow => 2 | .readOnly => 3 | .fireBlocked => 4 | .owned => 5 | .held => 6 | .noReply => 7
  | .timeout => 8

/-! ### State codes -/

def cmdCode : Cmd → Nat
  | .opn => 1 | .cls => 2 | .stop => 3 | .low => 4 | .high => 5

/-- A layer entry, target or safe_default. -/
def cmdCodeOpt : Option Cmd → Nat
  | none => 0
  | some c => cmdCode c

/-- The command a code stands for; `none` for 0 NONE and for a code outside 1 to 5. -/
def cmdOf : Nat → Option Cmd
  | 1 => some .opn | 2 => some .cls | 3 => some .stop | 4 => some .low | 5 => some .high | _ => none

def modeCode : Mode → Nat
  | .start => 0 | .service => 1 | .normal => 2

def tableCode : TableId → Nat
  | .output => 1 | .zone => 2 | .scenario => 3 | .joint => 4 | .step => 5 | .board => 6 | .window => 7 | .link => 8

def tableOf : Nat → Option TableId
  | 1 => some .output | 2 => some .zone | 3 => some .scenario | 4 => some .joint | 5 => some .step | 6 => some .board
  | 7 => some .window | 8 => some .link | _ => none

def sourceClassCode : SourceClass → Nat
  | .detector => 1 | .confirming => 2

def sourceClassOf : Nat → Option SourceClass
  | 1 => some .detector | 2 => some .confirming | _ => none

def boardSourceCode : BoardSource → Nat
  | .unknown => 0 | .mains => 1 | .standby => 2 | .dead => 3

/-- The sources a SUPPLY_STATE may carry (R94). -/
def reportedSource : Nat → Option BoardSource
  | 1 => some .mains | 2 => some .standby | 3 => some .dead | _ => none

def zoneSwitchCode : ZoneSwitch → Nat
  | .auto => 0 | .extract => 1 | .off => 2

def zoneSwitchOf : Nat → Option ZoneSwitch
  | 0 => some .auto | 1 => some .extract | 2 => some .off | _ => none

def outputSwitchCode : OutputSwitch → Nat
  | .auto => 0 | .opn => 1 | .cls => 2 | .off => 3 | .low => 4 | .on => 5

def outputSwitchOf : Nat → Option OutputSwitch
  | 0 => some .auto | 1 => some .opn | 2 => some .cls | 3 => some .off | 4 => some .low | 5 => some .on | _ => none

def zoneStateCode : ZoneState → Nat
  | .normal => 0 | .prealarm => 1 | .confirmed => 2 | .active => 3 | .secondary => 4 | .isolated => 5

def confirmReasonCode : ConfirmReason → Nat
  | .coincidence => 1 | .confirmingSource => 2 | .held => 3

def actCode : Act → Nat
  | .unknown => 0 | .settled => 1 | .queued => 2 | .waitPath => 3 | .waitStart => 4 | .sent => 5 | .moving => 6
  | .starting => 7 | .stopping => 8 | .fault => 9

def viewCode : View → Nat
  | .none => 0 | .atOpen => 1 | .atClosed => 2 | .travel => 3 | .conflict => 4
  | .fan .stopped _ _ => 5 | .fan .low _ _ => 6 | .fan .high _ _ => 7

def runStateCode : RunState → Nat
  | .idle => 0 | .staging => 1 | .established => 2

def moduleStateCode : ModuleState → Nat
  | .unknown => 0 | .present => 1 | .missing => 2

def panelStateCode : PanelState → Nat
  | .unknown => 0 | .present => 1 | .lost => 2

def faultCodeOf : FaultCode → Nat
  | .noProof => 1 | .stuck => 2 | .conflict => 3 | .noRun => 4 | .noStop => 5 | .lostProof => 6 | .tripped => 7
  | .localControl => 8 | .noResponse => 9 | .busy => 10 | .path => 11

def causeCode : Cause → Nat
  | .none => 0 | .missing => 1 | .badChannel => 2

def holdStateCode : HoldState → Nat
  | .free => 0 | .pending => 1 | .held => 2 | .releasePending => 3

def releaseCode : ReleaseReason → Nat
  | .none => 0 | .revoked => 1 | .timeout => 2 | .ended => 3

def cleanCode : Clean → Nat
  | .none => 0 | .clear => 1 | .set => 2

/-- yes or no. -/
def flagCode (b : Bool) : Nat := if b then 1 else 0

/-- The ways out of FAULT (R78). -/
inductive Way where
  | feedback | command | reset | flag | module
deriving DecidableEq, Repr

def wayCode : Way → Nat
  | .feedback => 1 | .command => 2 | .reset => 3 | .flag => 4 | .module => 5

/-- What made a warm start (R168). -/
inductive RestartCause where
  | resetLine | modeRestart
deriving DecidableEq, Repr

def restartCode : RestartCause → Nat
  | .resetLine => 1 | .modeRestart => 2

def evCode : Ev → Nat
  | .zonePrealarm => 0x01 | .zoneConfirmed => 0x02 | .zoneActive => 0x03 | .zoneSecondary => 0x04
  | .zoneReset => 0x05 | .zoneIsolated => 0x06 | .zoneDeisolated => 0x07 | .heldPresented => 0x08
  | .runStart => 0x10 | .runSwitch => 0x11 | .runEstablished => 0x12 | .runLate => 0x13 | .runEnd => 0x14
  | .outputFault => 0x20 | .outputRecovered => 0x21 | .standbyEngaged => 0x22 | .extractDeficit => 0x23
  | .reserveEngaged => 0x24 | .extractRestored => 0x25 | .extractLost => 0x26
  | .moduleMissing => 0x30 | .moduleRecovered => 0x31 | .supplyChange => 0x32 | .startHeld => 0x33
  | .ffAllstopOn => 0x40 | .ffAllstopOff => 0x41 | .ffLost => 0x42 | .ffRestored => 0x43
  | .holdGranted => 0x50 | .holdEnded => 0x51 | .modeChange => 0x52 | .restart => 0x53 | .configInvalid => 0x54
  | .unmappedInput => 0x55 | .ffrCaptured => 0x56

end Sys2Proof.Machine
end

