-- ==== Sys2Proof/Machine/Ops.lean ====
section
/-! DEFINITION. Named reads and writes of the state, which every block's operations use. -/

namespace Sys2Proof.Machine

/-! ### Sparse contents -/

/-- The value at a key: `d` where the key is not listed. -/
def sget {α : Type} (d : α) : Sparse α → Nat → α
  | [], _ => d
  | (k, v) :: m, n => if n = k then v else sget d m n

/-- Write a value at a key, in canonical form: keys rising, `d` never listed. -/
def sput {α : Type} [DecidableEq α] (d : α) (n : Nat) (v : α) : Sparse α → Sparse α
  | [] => if v = d then [] else [(n, v)]
  | (k, w) :: m =>
    if n < k then (if v = d then (k, w) :: m else (n, v) :: (k, w) :: m)
    else if n = k then (if v = d then m else (n, v) :: m)
    else (k, w) :: sput d n v m

/-- The canonical form: keys strictly rising and no value equal to `d`. -/
def sparseWf {α : Type} [DecidableEq α] (d : α) : Sparse α → Bool
  | [] => true
  | [(_, v)] => decide (v ≠ d)
  | (k, v) :: (k', v') :: m => decide (v ≠ d) && decide (k < k') && sparseWf d ((k', v') :: m)

/-! ### Writes of one part of the state -/

def setRun (f : Run → Run) (s : State) : State := { s with run := f s.run }
def setPlant (f : Plant → Plant) (s : State) : State := { s with plant := f s.plant }
def setPanel (f : Panel → Panel) (s : State) : State := { s with panel := f s.panel }
def setCapture (f : Capture → Capture) (s : State) : State := { s with capture := f s.capture }
def setFf (f : FfUnit → FfUnit) (s : State) : State := { s with ff := f s.ff }
def setHold (f : Hold → Hold) (s : State) : State := setPlant (fun p => { p with hold := f p.hold }) s
def setQueue (f : List QueueEntry → List QueueEntry) (s : State) : State := { s with queue := f s.queue }
def setWatches (f : List Watch → List Watch) (s : State) : State := { s with watches := f s.watches }

/-- A report to the Runner waits until the Runner has finished what it is doing (log entry 4). -/
def tellRunner (n : RunnerNotice) (s : State) : State := { s with runnerIn := s.runnerIn ++ [n] }

/-- A report to the Extract Monitor waits until the Monitor has finished what it is doing (R109). -/
def tellMonitor (n : MonitorNotice) (s : State) : State := { s with monitorIn := s.monitorIn ++ [n] }

/-! ### Records and table entries -/

def zoneRec (s : State) (z : Nat) : ZoneRec := sget coldZone s.zones z

def setZone (z : Nat) (r : ZoneRec) (s : State) : State := { s with zones := sput coldZone z r s.zones }

def outRec (s : State) (o : Nat) : OutRec := sget coldOut s.outs o

def modOut (o : Nat) (f : OutRec → OutRec) (s : State) : State :=
  { s with outs := sput coldOut o (f (outRec s o)) s.outs }

def moduleRec (s : State) (m : Nat) : ModuleRec := sget coldModule s.plant.modules m

def setModule (m : Nat) (r : ModuleRec) (s : State) : State :=
  setPlant (fun p => { p with modules := sput coldModule m r p.modules }) s

def boardSource (s : State) (b : Nat) : BoardSource := sget .unknown s.boards b

def setBoardSource (b : Nat) (src : BoardSource) (s : State) : State :=
  { s with boards := sput .unknown b src s.boards }

def outputOf (t : Tables) (o : Nat) : OutputEntry := sget blankOutput t.outputs o
def zoneOf (t : Tables) (z : Nat) : ZoneEntry := sget blankZone t.zones z
def scenarioOf (t : Tables) (n : Nat) : ScenarioEntry := sget blankScenario t.scenarios n
def jointOf (t : Tables) (n : Nat) : JointEntry := sget blankJoint t.joints n
def stepOf (t : Tables) (n : Nat) : StepEntry := sget blankStep t.steps n
def boardOf (t : Tables) (b : Nat) : BoardEntry := sget blankBoard t.boards b
def windowOf (t : Tables) (w : Nat) : WindowEntry := sget blankWindow t.windows w

def outEntry (s : State) (o : Nat) : OutputEntry := outputOf s.tables o
def zoneEntry (s : State) (z : Nat) : ZoneEntry := zoneOf s.tables z
def boardEntry (s : State) (b : Nat) : BoardEntry := boardOf s.tables b

/-- R56: DAMPER. -/
def isDamper (e : OutputEntry) : Bool := e.kind == 1
/-- R56: FAN_SINGLE. -/
def isFanSingle (e : OutputEntry) : Bool := e.kind == 2
/-- R56: FAN_TWO. -/
def isFanTwo (e : OutputEntry) : Bool := e.kind == 3
/-- R56: a fan is an output of kind FAN_SINGLE or FAN_TWO. -/
def isFan (e : OutputEntry) : Bool := isFanSingle e || isFanTwo e
/-- R56: configured when the kind is not UNUSED. -/
def isConfigured (e : OutputEntry) : Bool := isDamper e || isFan e

/-- The configured outputs of the tables, in ascending number. -/
def configuredOutputs (t : Tables) : List Nat :=
  t.outputs.filterMap (fun p => if isConfigured p.2 then some p.1 else none)

/-- The configured outputs of the tables in force. -/
def configured (s : State) : List Nat := configuredOutputs s.tables

/-- The configured fans, in ascending number. -/
def fans (s : State) : List Nat := (configured s).filter (fun o => isFan (outEntry s o))

/-- R84: the fans that name a board. -/
def fansOn (s : State) (b : Nat) : List Nat := (fans s).filter (fun o => (outEntry s o).board == b)

/-- The configured outputs of a module. -/
def outputsOfModule (s : State) (m : Nat) : List Nat :=
  (configured s).filter (fun o => (outEntry s o).module == m)

/-- The configured output at a module's channel. -/
def outputAt (s : State) (m c : Nat) : Option Nat :=
  (configured s).find? (fun o => (outEntry s o).module == m && (outEntry s o).channel == c)

/-- R1: in service: numbered 1 to 32 with enabled yes. -/
def inService (t : Tables) (z : Nat) : Bool := decide (1 ≤ z) && decide (z ≤ 32) && (zoneOf t z).enabled == 1

/-- Seconds from a stamp to the present uptime, over a wrap of the counter (R177). DEDUCED, log entry 7. -/
def secondsSince (s : State) (stamp : Nat) : Nat :=
  (s.uptime + Config.uptimeModulus - stamp) % Config.uptimeModulus

/-- A figure above 65535 is reported as 65535. -/
def capWord (n : Nat) : Nat := min n 65535

/-- Insertion into a list ordered by `before`. -/
def insertBy (before : Nat → Nat → Bool) (x : Nat) : List Nat → List Nat
  | [] => [x]
  | y :: ys => if before y x then y :: insertBy before x ys else x :: y :: ys

/-- A list put in order. -/
def sortBy (before : Nat → Nat → Bool) (xs : List Nat) : List Nat := xs.foldr (insertBy before) []

/-- Take the next free value's index (log entry 5). -/
def useFree (s : State) : State := { s with free := s.free + 1 }

end Sys2Proof.Machine
end

