-- ==== Sys2Proof/Machine/Flags.lean ====
section
/-! DEFINITION. Conditions and figures that are worked from the state: fire mode, lamps, run outputs, extract. -/

namespace Sys2Proof.Machine

/-- R30: fire mode is the condition that the run context is not IDLE. -/
def fireMode (s : State) : Bool := decide (s.run.state ≠ .idle)

/-- The sequencer acts: it has its supply and the reset line is not held (R176). -/
def awake (s : State) : Bool := s.powered && !s.resetHeld

/-- 1.3: the POWER lamp. -/
def powerLamp (s : State) : Bool := s.powered

/-- R30: the FIRE MODE lamp. -/
def fireModeLamp (s : State) : Bool := awake s && fireMode s

/-- The number of configured outputs in FAULT (R155). -/
def faultCount (s : State) : Nat := ((configured s).filter (fun o => (outRec s o).act == .fault)).length

/-- R82: the FAULT lamp. -/
def faultLamp (s : State) : Bool :=
  awake s && (decide (0 < faultCount s) || s.capture.locked.isSome)

/-! ### Commands and views -/

/-- R59: the running speed of a fan's view. -/
def viewSpeed : View → Option Speed
  | .fan sp _ _ => some sp
  | _ => none

def viewTrip : View → Bool
  | .fan _ t _ => t
  | _ => false

def viewLocal : View → Bool
  | .fan _ _ l => l
  | _ => false

/-- R59: does this view, valid, agree with the command? -/
def viewAgrees (v : View) : Cmd → Bool
  | .opn => v == .atOpen
  | .cls => v == .atClosed
  | .stop => viewSpeed v == some .stopped
  | .low => viewSpeed v == some .low && !viewTrip v && !viewLocal v
  | .high => viewSpeed v == some .high && !viewTrip v && !viewLocal v

/-- R59: the output is proven at the command. -/
def agrees (r : OutRec) (c : Cmd) : Bool := r.valid && viewAgrees r.view c

/-- R56: a fan start: LOW or HIGH to a fan whose feedback shows it STOPPED. -/
def isFanStart (e : OutputEntry) (v : View) (c : Cmd) : Bool :=
  isFan e && (c == .low || c == .high) && viewSpeed v == some .stopped

/-- R56: a speed step: HIGH to a FAN_TWO whose feedback shows it at LOW. -/
def isSpeedStep (e : OutputEntry) (v : View) (c : Cmd) : Bool :=
  isFanTwo e && c == .high && viewSpeed v == some .low

/-- A command that needs a start slot: a fan start or a speed step. -/
def needsSlot (e : OutputEntry) (v : View) (c : Cmd) : Bool := isFanStart e v c || isSpeedStep e v c

/-- R60: the entry of the highest layer that is not NONE; LOW from FF or BLD of a FAN_SINGLE resolves as HIGH. -/
def resolve (e : OutputEntry) (r : OutRec) : Option Cmd :=
  let single (c : Option Cmd) : Option Cmd := if isFanSingle e && c == some .low then some .high else c
  if r.ff.isSome then single r.ff
  else if r.fire.isSome then r.fire
  else if r.safe.isSome then r.safe
  else single r.bld

/-- R57: the layers, highest first. The number is the fan class code of 12.7. -/
def fanClass (r : OutRec) : Nat :=
  if r.ff.isSome then 1 else if r.fire.isSome then 2 else if r.safe.isSome then 3 else if r.bld.isSome then 4 else 0

/-- R57: an output is outstanding while its state is SENT, MOVING, STARTING or STOPPING. -/
def outstanding : Act → Bool
  | .sent | .moving | .starting | .stopping => true
  | _ => false

/-- The states with an origin feedback and a proof timer (R57). -/
def proving : Act → Bool
  | .moving | .starting | .stopping => true
  | _ => false

/-- R152, R81: a layer entry fits the kind. NONE fits every kind. -/
def fitsKind (e : OutputEntry) : Option Cmd → Bool
  | none => true
  | some .opn | some .cls => isDamper e
  | some .stop | some .low | some .high => isFan e

/-! ### Extract (chapter 6) -/

/-- R105: the proven extract of a fan, in tenths of a m³/s. -/
def provenExtract (e : OutputEntry) (r : OutRec) : Nat :=
  if !r.valid || viewTrip r.view then 0
  else match viewSpeed r.view with
    | some .low => e.extractHigh * e.low16 / 16
    | some .high => e.extractHigh
    | _ => 0

/-- The listed (non-zero) entries of a list field: an empty slot holds 0 (12.6). -/
def listed (xs : List Nat) : List Nat := xs.filter (fun x => x != 0)

/-- R106: is the fan a counted fan of the zone? -/
def counts (s : State) (z f : Nat) : Bool :=
  let xs := listed (zoneEntry s z).extract
  xs.contains f ||
    match (outRec s f).engaged with
    | .standbyFor d => xs.contains d
    | .reserveFor z' => z' == z
    | .none => false

/-- R106: the extract sum E(z). -/
def extractSum (s : State) (z : Nat) : Nat :=
  (((fans s).filter (counts s z)).map (fun f => provenExtract (outEntry s f) (outRec s f))).sum

/-- R114: the sum given to the Fault Capture Unit: of the watch of the first served zone, 0 when no watch exists. -/
def firstServedSum (s : State) : Nat :=
  match s.run.served with
  | z :: _ => if s.watches.any (fun w => w.zone == z) then extractSum s z else 0
  | [] => 0

/-! ### The running scenario -/

def scenarioEntry (s : State) : ScenarioEntry := scenarioOf s.tables s.run.scenario

/-- R34: the step indices of a scenario. -/
def scenarioSteps (t : Tables) (n : Nat) : List Nat :=
  (List.range (scenarioOf t n).stepCount).map (fun k => (scenarioOf t n).firstStep + k)

/-- R34: a scenario names an output. -/
def scenarioNames (t : Tables) (n o : Nat) : Bool :=
  (scenarioSteps t n).any (fun i => (stepOf t i).output == o)

/-- The zones of the table in ascending number that are enabled. -/
def enabledZones (t : Tables) : List Nat :=
  t.zones.filterMap (fun p => if p.2.enabled == 1 then some p.1 else none)

/-- R50: the engagement's zone of a duty fan. -/
def engagementZone (s : State) (d : Nat) : Nat :=
  match (enabledZones s.tables).find? (fun z => (listed (zoneEntry s z).extract).contains d) with
  | some z => z
  | none => (outEntry s d).zone

/-- R46: the fans whose faults bear on the run: extract fans of the served zones, their standbys, reserves engaged for
a served zone, and engaged standbys. -/
def isRunFan (s : State) (f : Nat) : Bool :=
  let duty := s.run.served.flatMap (fun z => listed (zoneEntry s z).extract)
  isFan (outEntry s f) &&
    (duty.contains f
      || (f != 0 && duty.any (fun d => (outEntry s d).standby == f))
      || match (outRec s f).engaged with
         | .reserveFor z => s.run.served.contains z
         | .standbyFor _ => true
         | .none => false)

/-- R46: a run output. The path dampers counted are those of the fans that R46 lists as fans, not those of a fan that only the
scenario names. DEDUCED, log entry 57. -/
def isRunOutput (s : State) (o : Nat) : Bool :=
  fireMode s &&
    (scenarioNames s.tables s.run.scenario o
      || isRunFan s o
      || (isDamper (outEntry s o) && (fans s).any (fun f => isRunFan s f && (outEntry s f).path.contains o)))

/-- R47: the step at the cursor, or the scenario's last step when the cursor equals the step count. -/
def cursorStep (s : State) : Nat :=
  let e := scenarioEntry s
  if s.run.cursor < e.stepCount then e.firstStep + s.run.cursor else e.firstStep + e.stepCount - 1

/-- R47: the seconds since the run started. -/
def runSeconds (s : State) : Nat :=
  match s.run.startStamp with
  | some t => secondsSince s t
  | none => 0

/-- R47: the facts given with RUN_LATE, EXTRACT_LOST and, at capture, with other reports (R164). -/
def runFacts (s : State) : RunFacts :=
  if fireMode s then { scenario := s.run.scenario, stepIndex := cursorStep s, seconds := runSeconds s }
  else { scenario := 0, stepIndex := 0, seconds := 0 }

/-- The step last issued for an output in the present load or switch (R41). -/
def lastIssuedStep (s : State) (o : Nat) : Option Nat := sget none s.run.lastIssued o

/-- R47: the facts given with an output's fault. -/
def faultFacts (s : State) (o : Nat) : RunFacts :=
  if fireMode s then { runFacts s with stepIndex := (lastIssuedStep s o).getD (cursorStep s) } else runFacts s

end Sys2Proof.Machine
end

