-- ==== Sys2Proof/Machine/Capture.lean ====
section
/-! DEFINITION. The outbound queue and the Fault Capture Unit: every event of every block passes here
(chapters 9 and 10). -/

namespace Sys2Proof.Machine

/-- A saturating 16-bit count rises by 1 (R127, R148). -/
def countUp (n : Nat) : Nat := if n < 65535 then n + 1 else n

/-- R154: an EVENT frame is admitted below 32 frames, and dropped otherwise: REPORTS_MISSED is set and the clearing
mark is cleared. A summary STATUS already built no longer clears the flag when it is sent. -/
def offerEvent (f : Frame) (p : Panel) : Panel :=
  if p.outbound.length < Config.eventLimit then { p with outbound := p.outbound ++ [⟨f, .nothing⟩] }
  else
    { p with
      reportsMissed := true
      clearing := false
      outbound := p.outbound.map (fun q => if q.after = .clearReportsMissed then ⟨q.frame, .nothing⟩ else q) }

/-- R154: any other frame is admitted below 40 frames, and discarded and counted otherwise. -/
def offerFrame (f : Frame) (after : AfterSent) (p : Panel) : Panel :=
  if p.outbound.length < Config.outboundSize then { p with outbound := p.outbound ++ [⟨f, after⟩] }
  else { p with overruns := countUp p.overruns }

/-- A REPLY frame's place in the outbound queue (R154, 12.4). Its SRC is the own address. -/
def sendReply (req : Requester) (r : Result) (s : State) : State :=
  setPanel (offerFrame
    { dest := req.station, src := s.tables.link.own, kind := kReply, tag := req.tag,
      payload := byte1 (resultCode r) } .nothing) s

/-- R158: a refusal of a forwarded frame. -/
def sendFail (station tag addressed : Nat) (r : FailReason) (s : State) : State :=
  setPanel (offerFrame
    { dest := station, src := s.tables.link.own, kind := kFwdFail, tag := tag,
      payload := byte1 (failCode r) ++ byte1 addressed } .nothing) s

/-- 12.4: the EVENT payload, and an entry of TRAIL_DATA. -/
def entryBytes (e : TrailEntry) : List Byte :=
  byte2 e.sequence ++ byte4 e.uptime ++ byte1 (evCode e.event) ++ byte2 e.subject ++ byte2 e.detail

/-- R154: the EVENT frame of a trail entry. -/
def eventFrame (l : LinkRecord) (e : TrailEntry) : Frame :=
  { dest := l.firePanel, src := l.own, kind := kEvent, tag := e.sequence % 256, payload := entryBytes e }

/-- R161: an entry is placed as the newest; the trail holds the 256 newest. -/
def keepNewest (t : List TrailEntry) (e : TrailEntry) : List TrailEntry :=
  (t ++ [e]).drop (t.length + 1 - Config.trailSize)

/-- R161: the entry an event makes now. -/
def nextEntry (s : State) (ev : Ev) (subject detail : Nat) : TrailEntry :=
  { sequence := s.capture.nextSequence, uptime := s.uptime, event := ev, subject := subject, detail := detail }

/-- R161, R162: record an entry in the trail and hand it to the Panel Link Interface. -/
def recordEntry (ev : Ev) (subject detail : Nat) (s : State) : State :=
  setPanel (offerEvent (eventFrame s.tables.link (nextEntry s ev subject detail)))
    (setCapture (fun c =>
      { c with
        trail := keepNewest c.trail (nextEntry s ev subject detail)
        nextSequence := (c.nextSequence + 1) % 65536 }) s)

/-- R159: what a block hands the unit. `facts` is given by OUTPUT_FAULT, RUN_LATE and EXTRACT_LOST. -/
structure Report where
  event : Ev
  subject : Nat
  detail : Nat
  clean : Clean
  facts : Option RunFacts
deriving DecidableEq, Repr

/-- R160: is the report CRITICAL, judged as it is taken? -/
def isCritical (s : State) (r : Report) : Bool :=
  match r.event with
  | .outputFault => isRunOutput s r.subject
  | .moduleMissing => (outputsOfModule s r.subject).any (isRunOutput s)
  | .startHeld =>
    decide (1 ≤ fanClass (outRec s r.subject)) && decide (fanClass (outRec s r.subject) ≤ 3)
      && isRunOutput s r.subject
  | .extractDeficit => decide (32768 ≤ r.detail)
  | .runLate => true
  | .extractLost => true
  | _ => false

/-- R164: the record that a CRITICAL report makes. `s` is the state as the report is taken, so its next sequence
number is the captured entry's. -/
def capturedOf (s : State) (r : Report) : Captured :=
  let f := r.facts.getD (runFacts s)
  { entry := nextEntry s r.event r.subject r.detail
    facts := { f with seconds := capWord f.seconds }
    extractSum := firstServedSum s
    clean := r.clean }

/-- R164, R165: what a CRITICAL report does after it is recorded. `s` is the state as the report was taken. -/
def takeCritical (s : State) (r : Report) (t : State) : State :=
  if t.capture.locked.isNone then
    recordEntry .ffrCaptured r.subject s.capture.nextSequence
      (setCapture (fun c => { c with locked := some (capturedOf s r) }) t)
  else
    setCapture (fun c => { c with lost := true, later := if c.later < 255 then c.later + 1 else c.later }) t

/-- R159: a report is classified, recorded, and captured or counted when CRITICAL. -/
def report (r : Report) (s : State) : State :=
  let t := recordEntry r.event r.subject r.detail s
  if isCritical s r then takeCritical s r t else t

/-- A report that carries nothing besides its code, subject and detail. -/
def raise (ev : Ev) (subject detail : Nat) (s : State) : State :=
  report { event := ev, subject := subject, detail := detail, clean := .none, facts := none } s

/-- A frame or entry that is ignored with an UNMAPPED_INPUT entry (R4, R9, R94, R116, R150, R152). -/
def unmapped (subject detail : Nat) (s : State) : State := raise .unmappedInput subject detail s

end Sys2Proof.Machine
end

