-- ==== Sys2Proof/Machine/Resolver.lean ====
section
/-! DEFINITION. The Output Resolver (chapter 4) and the Start Scheduler (chapter 5), with the fast ring that follows the
outstanding outputs (R136). Wait lists, slot holders and committed loads are worked from the output records (log
entry 2). -/

namespace Sys2Proof.Machine

/-! ### The fast ring and the actuation state -/

/-- R136: a module joins the fast ring at its tail. The cursor of an empty ring names it. -/
def ringJoin (m : Nat) (p : Plant) : Plant :=
  if p.fastRing.contains m then p
  else
    { p with
      fastRing := p.fastRing ++ [m]
      fastCursor := if p.fastRing.isEmpty then some m else p.fastCursor }

/-- The member that follows `m`, the first one when `m` is the last. -/
def ringNext (ring : List Nat) (m : Nat) : Option Nat :=
  match ring.dropWhile (fun x => x != m) with
  | _ :: y :: _ => some y
  | _ => ring.head?

/-- R136: a module leaves the fast ring. The cursor passes to the module that followed it, or to the head. -/
def ringLeave (m : Nat) (p : Plant) : Plant :=
  let rest := p.fastRing.filter (fun x => x != m)
  { p with
    fastRing := rest
    fastCursor :=
      if p.fastCursor = some m then (if rest.isEmpty then none else ringNext p.fastRing m) else p.fastCursor }

/-- Another output of this output's module is outstanding. -/
def otherOutstanding (s : State) (o : Nat) : Bool :=
  (outputsOfModule s (outEntry s o).module).any (fun x => x != o && outstanding (outRec s x).act)

/-- A change of actuation state. The module joins or leaves the fast ring as R136 states. -/
def setAct (o : Nat) (a : Act) (s : State) : State :=
  let t := modOut o (fun r => { r with act := a }) s
  if outstanding (outRec s o).act = outstanding a || otherOutstanding s o then t
  else if outstanding a then setPlant (ringJoin (outEntry s o).module) t
  else setPlant (ringLeave (outEntry s o).module) t

/-! ### The command queue (R66) -/

def dequeue (o : Nat) (s : State) : State := setQueue (fun q => q.filter (fun x => x.output != o)) s

/-- R63: the entry is replaced in place. -/
def requeueInPlace (o : Nat) (c : Cmd) (s : State) : State :=
  setQueue (fun q => q.map (fun x => if x.output == o then { output := o, cmd := c } else x)) s

/-- R66: an output joins the queue at the tail. -/
def enqueue (o : Nat) (c : Cmd) (s : State) : State :=
  setAct o .queued (setQueue (fun q => q ++ [{ output := o, cmd := c }]) s)

/-! ### Reports to the Runner and the Monitor -/

/-- R110: the Monitor hears of a fan engaged as a reserve. -/
def tellReserve (o : Nat) (s : State) : State :=
  match (outRec s o).engaged with
  | .reserveFor _ => tellMonitor (.reserveOutcome o) s
  | _ => s

/-- R42, R110: an arrival at SETTLED. -/
def tellSettled (o : Nat) (s : State) : State := tellReserve o (tellRunner (.settled o) s)

/-! ### Loads and admission (chapter 5) -/

/-- R86: the capacity of a board under its present source. -/
def capacity (s : State) (b : Nat) : Nat :=
  match boardSource s b with
  | .mains => (boardEntry s b).capMains
  | .standby | .unknown => (boardEntry s b).capStandby
  | .dead => 0

/-- R87: a fan's contribution to its board's committed load, from its view whether it is valid or not. R133 leaves out a
fan whose last reading was unusable, which R87 does not name: DEDUCED, log entry 51. -/
def contribution (e : OutputEntry) (r : OutRec) : Nat :=
  match r.slot with
  | some sl => sl.demand
  | none =>
    if r.unusable then 0
    else match viewSpeed r.view with
      | some .low => e.runLow
      | some .high => e.runHigh
      | _ => 0

def contributions (s : State) (os : List Nat) : Nat :=
  (os.map (fun f => contribution (outEntry s f) (outRec s f))).sum

/-- R87: the committed load of a board. -/
def committedLoad (s : State) (b : Nat) : Nat := contributions s (fansOn s b)

/-- R88: the start demand. -/
def startDemand (e : OutputEntry) (v : View) (c : Cmd) : Nat :=
  match viewSpeed v with
  | some .low => if c = .high then e.runLow + e.stepLoad else e.runLow
  | some .high => e.runHigh
  | _ => e.startLoad

/-- R89: admission order. -/
def waitsBefore (s : State) (x y : Nat) : Bool :=
  let kx := fanClass (outRec s x)
  let ky := fanClass (outRec s y)
  let jx := (outRec s x).joinTime.getD 0
  let jy := (outRec s y).joinTime.getD 0
  decide (kx < ky) || (kx == ky && (decide (jx < jy) || (jx == jy && decide (x < y))))

/-- R85, R89: the wait list of a board, in admission order. -/
def waitList (s : State) (b : Nat) : List Nat :=
  sortBy (waitsBefore s) ((fansOn s b).filter (fun f => (outRec s f).act == .waitStart))

/-- R85: the slot holders of a board. R101 names no order for them. DESIGN CHOICE, log entry 43: ascending output number. -/
def slotHolders (s : State) (b : Nat) : List Nat := (fansOn s b).filter (fun f => (outRec s f).slot.isSome)

/-- R90: the head fan is admitted. A slot that the fan itself still keeps (R65) counts against the start_limit as any
other; its own contribution does not count against the capacity. -/
def admissible (s : State) (b f : Nat) : Bool :=
  match (outRec s f).resolved with
  | none => false
  | some c =>
    decide (boardSource s b ≠ .dead)
      && decide ((slotHolders s b).length < (boardEntry s b).startLimit)
      && decide (contributions s ((fansOn s b).filter (fun x => x != f))
          + startDemand (outEntry s f) (outRec s f).view c ≤ capacity s b)

/-- An output comes to rest at SETTLED. Any slot is given up. -/
def settleRecord (o : Nat) (s : State) : State :=
  let t := setAct o .settled
    (modOut o (fun r => { r with fault := none, origin := none, timer := none, clean := false, slot := none }) s)
  if (outRec s o).act = .settled then t else tellSettled o t

/-- R92, R73, R97: a fan is admitted, which ends its wait: settled at once when its view agrees, queued with its slot otherwise. -/
def admitFan (f : Nat) (s : State) : State :=
  match (outRec s f).resolved with
  | none => s
  | some c =>
    let d := startDemand (outEntry s f) (outRec s f).view c
    let t := modOut f (fun r => { r with slot := some { demand := d, hold := .needed }, heldWarned := false, waitOpen := false }) s
    if agrees (outRec s f) c then settleRecord f t else enqueue f c t

/-- R90: test the head, and the next head while the head is admitted. -/
def examineTimes : Nat → Nat → State → State
  | 0, _, s => s
  | n + 1, b, s =>
    match waitList s b with
    | [] => s
    | f :: _ => if admissible s b f then examineTimes n b (admitFan f s) else s

/-- R90: examine a board's wait list. -/
def examine (b : Nat) (s : State) : State := examineTimes (waitList s b).length b s

/-- Examine the board that a fan names. TWR lets a fan name board 0 (log entry 40), which has no entry, and no rule says how such
a fan waits. DESIGN CHOICE, log entry 73: on a board 0 with the blank entry, which is examined and warned of as any other. -/
def examineFor (o : Nat) (s : State) : State :=
  if isFan (outEntry s o) then examine (outEntry s o).board s else s

/-- R93: a fan's slot, if it holds one, is released and the wait list examined. -/
def releaseSlot (o : Nat) (s : State) : State :=
  if (outRec s o).slot.isSome then examineFor o (modOut o (fun r => { r with slot := none }) s) else s

/-- R89: the record without its join time and held-warned mark. -/
def noWait (r : OutRec) : OutRec := { r with joinTime := none, heldWarned := false, waitOpen := false }

/-- R89: a fan gives up its join time and held-warned mark. -/
def forgetWait (o : Nat) (s : State) : State := modOut o noWait s

/-- R89, R97: a fan that is to join a wait list takes a new join time, unless it goes on with the wait that a change of its
view took it away from. -/
def resumeWait (o : Nat) (s : State) : State := if (outRec s o).waitOpen then s else forgetWait o s

/-- Is the fan in WAIT_PATH or WAIT_START? -/
def inWait (a : Act) : Bool := a == .waitPath || a == .waitStart

/-- R89, R97: a change of command or a fault ends a wait, and ends a stay in WAIT_PATH. -/
def endWait (r : OutRec) : OutRec := if inWait r.act || r.waitOpen then noWait r else r

/-- R98: the fan's position in its wait list, 1 for the head. -/
def waitPosition (s : State) (f : Nat) : Nat := (waitList s (outEntry s f).board).idxOf f + 1

/-- R98: a waiting fan whose mark is clear and whose waiting time exceeds hold_warn. -/
def warnDue (s : State) (f : Nat) : Bool :=
  let r := outRec s f
  let e := outEntry s f
  isFan e && r.act == .waitStart && !r.heldWarned
    && decide ((boardEntry s e.board).holdWarn < secondsSince s (r.joinTime.getD s.uptime))

/-- R98: the mark is set and START_HELD is reported. -/
def warnHeld (f : Nat) (s : State) : State :=
  if warnDue s f then
    raise .startHeld f ((outEntry s f).board * 256 + waitPosition s f)
      (modOut f (fun r => { r with heldWarned := true }) s)
  else s

/-! ### FAULT (R77) -/

/-- R159: the clean flag as OUTPUT_FAULT carries it. -/
def cleanOf (r : OutRec) : Clean := if proving r.act then (if r.clean then .set else .clear) else .none

/-- R77, steps 1 and 2. -/
def faultRecord (o : Nat) (code : FaultCode) (cause : Cause) (s : State) : State :=
  setAct o .fault (dequeue o (modOut o (fun r =>
    { r with
      fault := some { code := code, cause := cause }
      origin := none
      timer := none
      clean := false }) (modOut o endWait s)))

/-- R77: an output goes to FAULT. -/
def toFault (o : Nat) (code : FaultCode) (cause : Cause) (s : State) : State :=
  let t := report
    { event := .outputFault
      subject := o
      detail := faultCodeOf code * 256 + causeCode cause
      clean := cleanOf (outRec s o)
      facts := some (faultFacts s o) } (faultRecord o code cause s)
  tellReserve o (tellRunner (.fault o code)
    (examineFor o (modOut o (fun r => { r with slot := none }) t)))

/-! ### The path interlock (R72) -/

def pathOpen (s : State) (d : Nat) : Bool :=
  (outRec s d).valid && (outRec s d).view == .atOpen && (outRec s d).act != .fault

def pathFailed (s : State) (d : Nat) : Bool := (outRec s d).act == .fault

/-- R72: the path passes. A fan with no path damper passes at once. -/
def pathPasses (s : State) (e : OutputEntry) : Bool :=
  (listed e.path).isEmpty
    || (if e.interlock == 0 then (listed e.path).all (pathOpen s) else (listed e.path).any (pathOpen s))

/-- R72: the path faults. -/
def pathFaults (s : State) (e : OutputEntry) : Bool :=
  !(listed e.path).isEmpty
    && (if e.interlock == 0 then (listed e.path).any (pathFailed s) else (listed e.path).all (pathFailed s))

/-- R89: a fan joins its board's wait list, with the join time that its record still keeps or with the present uptime.
The examination comes first and then the warning of R98 (log entry 10). -/
def joinWait (f : Nat) (s : State) : State :=
  let t := setAct f .waitStart
    (modOut f (fun r => { r with joinTime := some (r.joinTime.getD s.uptime), waitOpen := true }) s)
  warnHeld f (examineFor f t)

/-- R72: judge the path of a fan in WAIT_PATH. -/
def judgePath (f : Nat) (s : State) : State :=
  if (outRec s f).act ≠ .waitPath then s
  else if pathPasses s (outEntry s f) then joinWait f s
  else if pathFaults s (outEntry s f) then toFault f .path .none s
  else s

/-- R72: the fans in WAIT_PATH that name this damper in their path are judged again. R72 names no order among them. DESIGN
CHOICE, log entry 52: ascending output number, each joining and being examined before the next. -/
def rejudge (d : Nat) (s : State) : State :=
  ((fans s).filter (fun f => (outRec s f).act == .waitPath && (outEntry s f).path.contains d)).foldl
    (fun t f => judgePath f t) s

/-! ### Placement (R62) -/

/-- An output comes to SETTLED, and its board is examined where it gave up a slot or a place in the list. -/
def settle (o : Nat) (s : State) : State :=
  let t := settleRecord o s
  if (outRec s o).slot.isSome || (outRec s o).act == .waitStart then examineFor o t else t

/-- R62, cases 6 and 7: a fan start goes to WAIT_PATH and a speed step to WAIT_START. -/
def placeStart (o : Nat) (c : Cmd) (s : State) : State :=
  if isFanStart (outEntry s o) (outRec s o).view c then judgePath o (setAct o .waitPath s) else joinWait o s

/-- R62: place an output for its resolved command. -/
def place (o : Nat) (s : State) : State :=
  let e := outEntry s o
  let r := outRec s o
  match r.resolved with
  | none => s
  | some c =>
    if !r.valid then
      if (moduleRec s e.module).state = .missing then toFault o .noResponse .missing s else setAct o .unknown s
    else if viewTrip r.view then toFault o .tripped .none s
    else if viewLocal r.view then toFault o .localControl .none s
    else if r.view = .conflict then toFault o .conflict .none s
    else if agrees r c then settle o s
    else if needsSlot e r.view c then placeStart o c (resumeWait o s)
    else enqueue o c s

/-- A fan in WAIT_PATH or WAIT_START is placed, and its board is examined when it leaves the wait list. R91 examines at the leaving
and at the joining, and does not say whether a fan that rejoins at once is out of the list for the first. DESIGN CHOICE, log
entry 82: the examination for the leaving comes after the fan is placed. -/
def placeFromWait (o : Nat) (s : State) : State :=
  let t := place o s
  if (outRec s o).act = .waitStart then examineFor o t else t

/-- R78: a new attempt, after the OUTPUT_RECOVERED of the way out of FAULT. -/
def newAttempt (o : Nat) (way : Way) (s : State) : State :=
  place o (raise .outputRecovered o (wayCode way)
    (modOut o (fun r => { r with fault := none, retried := false, busy := 0 }) s))

/-! ### What follows the work done for one output -/

/-- The hold keeps the command queue until R146 re-asserts the plant. -/
def isHeld (h : HoldState) : Bool := h == .held || h == .releasePending

/-- R92: a fan left in the queue with a fan start or speed step and no slot leaves the queue and is placed by R62, except
during a hold, whose end places it (R146). DEDUCED, log entry 28. R65 and R92 do not name a fan queued with a command that
needed no slot, which still keeps the slot of an earlier start and whose view makes that command a start. DESIGN CHOICE, log
entry 72: it stays QUEUED under the slot it keeps. -/
def requeueStart (o : Nat) (s : State) : State :=
  let r := outRec s o
  match r.resolved with
  | some c =>
    if r.act = .queued && needsSlot (outEntry s o) r.view c && r.slot.isNone && !isHeld s.plant.hold.state then
      place o (dequeue o s)
    else s
  | none => s

/-- Work done for one output, followed by what R92 asks of a queued start, and by the judging that a change of the view or
state of an output that is or was a damper calls for (R72). -/
def onOutput (o : Nat) (work : State → State) (s : State) : State :=
  let t := requeueStart o (work s)
  let r := outRec s o
  let r' := outRec t o
  if (isDamper (outEntry s o) || isDamper (outEntry t o)) &&
      (r.act != r'.act || r.view != r'.view || r.valid != r'.valid) then rejudge o t else t

/-! ### A new resolved command (R62 to R65) -/

/-- R65: the fan holds a slot of the demand that the command needs. -/
def slotFits (e : OutputEntry) (r : OutRec) (c : Cmd) : Bool :=
  needsSlot e r.view c &&
    match r.slot with
    | some sl => sl.demand == startDemand e r.view c
    | none => false

/-- R65: what becomes of a slot when its fan's command changes to one other than NONE. A fan SENT with a start whose new
command is a start or speed step of equal demand keeps its slot for it, whatever the answer. DESIGN CHOICE, log entry 58. A
fan QUEUED again for its retry (R71), whose start has been sent and accepted before, is none of R65's cases. DESIGN CHOICE, log
entry 53: it is treated as QUEUED with its start not sent. Nor is a fan that holds a slot in STOPPING (log entry 29). DESIGN
CHOICE, log entry 63: its slot stands as it is, still needed, through the queue and the next exchange. Nor is a fan SENT with
a command that is no start under a slot (R88, last lines). DESIGN CHOICE, log entry 87: its slot goes as that of a start sent.
Nor is a fan QUEUED with a start of equal demand that took over the slot of a start sent or accepted before. DESIGN CHOICE, log
entry 88: it is treated as QUEUED with its start not sent, and the slot is released at once. -/
def slotAfter (e : OutputEntry) (r : OutRec) (c : Cmd) : Option Slot :=
  match r.slot with
  | none => none
  | some sl =>
    if slotFits e r c then some { sl with hold := .needed }
    else match r.act, sl.hold with
      | .queued, .needed => none
      | .sent, .needed => some { sl with hold := .untilExchangeEnds }
      | .starting, .needed => some { sl with hold := .untilReplaced }
      | _, _ => some sl

/-- R63: the command of a QUEUED or outstanding output is superseded by `c`. -/
def supersede (o : Nat) (c : Cmd) (s : State) : State :=
  let e := outEntry s o
  let r := outRec s o
  let sl := slotAfter e r c
  let t := modOut o (fun r =>
    { r with
      superseded := min 255 (r.superseded + 1), retried := false, origin := none, timer := none, clean := false,
      slot := sl }) s
  let t := if r.slot.isSome && sl.isNone then examineFor o t else t
  if needsSlot e r.view c && !slotFits e r c then placeStart o c (forgetWait o (dequeue o t))
  else if r.act = .queued then requeueInPlace o c t
  else enqueue o c t

/-- R64: the resolved command has become NONE. `was` is the state before the change. -/
def toNone (was : Act) (o : Nat) (s : State) : State :=
  let r := outRec s o
  let t := modOut o (fun r =>
    { r with
      fault := none, origin := none, timer := none, clean := false, retried := false, busy := 0, slot := none })
    (dequeue o s)
  let t := if r.act = .fault then raise .outputRecovered o (wayCode .command) t else t
  let t := if r.valid then settleRecord o t else setAct o .unknown t
  if r.slot.isSome || was == .waitStart then examineFor o t else t

/-- R60: the recomputation gives this configured output another resolved command. -/
def commandChanged (s : State) (o : Nat) : Bool :=
  isConfigured (outEntry s o) && resolve (outEntry s o) (outRec s o) != (outRec s o).resolved

/-- The output's resolved command becomes that of its layers. The retried flag goes with the old command (R63, R76). A fan
leaves WAIT_PATH and WAIT_START, and ends a wait begun, with its join time and held-warned mark given up (R62, R89), and
stands at UNKNOWN until it is placed. -/
def takeCommand (o : Nat) (s : State) : State :=
  modOut o (fun r =>
    { r with
      resolved := resolve (outEntry s o) r, retried := false, act := if inWait r.act then .unknown else r.act })
    (modOut o endWait s)

/-- R62 to R64, R78: the Resolver acts on an output whose resolved command has changed. `was` is the state before the
change. A fan that left a wait list has its board examined (R91), once it is placed (DESIGN CHOICE, log entry 82). -/
def actOnCommand (was : Act) (o : Nat) (s : State) : State :=
  match (outRec s o).resolved with
  | none => toNone was o s
  | some c =>
    match was with
    | .fault => newAttempt o .command s
    | .queued | .sent | .moving | .starting | .stopping => supersede o c s
    | .waitStart => examineFor o (place o s)
    | .waitPath | .unknown | .settled => place o s

/-- R60, R61: every output is recomputed once against the entries in force, and only then does the Resolver act on each
output whose resolved command has changed. A waiting fan whose class alone changed has moved in its list (R91). The rules
(R61, R119, R152) name no order among the outputs. DESIGN CHOICE, log entry 52: the order of `os`, which every caller
gives in ascending output number. -/
def recomputeAll (os : List Nat) (s : State) : State :=
  let changed := os.filter (commandChanged s)
  os.foldl (fun t o =>
    if changed.contains o then onOutput o (actOnCommand (outRec s o).act o) t
    else if (outRec t o).act = .waitStart then examineFor o t
    else t) (changed.foldl (fun t o => takeCommand o t) s)

/-- R60: one output is recomputed. -/
def recompute (o : Nat) (s : State) : State := recomputeAll [o] s

/-- R61: one change of layer entries: every entry is written, then the outputs of the change are recomputed. The order in
which they are acted on, and so join the command queue, is the model's choice (log entry 52). -/
def changeLayers (w : Nat → OutRec → OutRec) (os : List Nat) (s : State) : State :=
  recomputeAll os (os.foldl (fun t o => modOut o (w o) t) s)

/-- The FIRE entry of one configured output is written (R41, R50, R53). -/
def writeFire (o : Nat) (c : Option Cmd) (s : State) : State :=
  if isConfigured (outEntry s o) then changeLayers (fun _ r => { r with fire := c }) [o] s else s

/-- R61: fire mode begins. R57 has every entry fit its output's kind and R61 takes the safe_default as it stands. TWR lets a
safe_default through that does not fit (log entry 40), and a test run in SERVICE mode asks for no full validation. DESIGN
CHOICE, log entry 80: it is the SAFE entry as it stands. -/
def beginFire (s : State) : State :=
  changeLayers (fun o r => { r with safe := cmdOf (outEntry s o).safeDefault }) (configured s) s

/-- R61, R49: fire mode ends, with every FIRE entry cleared in the same change. -/
def endFire (s : State) : State :=
  changeLayers (fun _ r => { r with fire := none, safe := none }) (configured s) s

/-! ### Endings of a command exchange (R68, R69) -/

/-- The four CMD_ACK results. -/
inductive Ack where
  | accepted | busy | refusedLocal | badChannel
deriving DecidableEq, Repr

/-- R69: the state an accepted command leads to. What R69 does not name is DEDUCED, log entry 11: LOW accepted at a view
other than HIGH, and HIGH at a view of HIGH, are proven like a start, and STOP at a view of STOPPED like a stop. -/
def acceptedAct (e : OutputEntry) (v : View) (c : Cmd) : Act :=
  if isDamper e then .moving
  else match c with
    | .stop => .stopping
    | .low => if viewSpeed v = some .high then .stopping else .starting
    | _ => .starting

/-- R69: the proof time of that state. -/
def proofTime (e : OutputEntry) (a : Act) : Nat := if a = .stopping then e.tDown else e.tMain

/-- R65, R68: the slot of a fan whose superseded exchange has ended. -/
def slotAfterExchange (accepted : Bool) (sl : Slot) : Option Slot :=
  match sl.hold with
  | .needed => some sl
  | .untilExchangeEnds => if accepted then some { sl with hold := .untilReplaced } else none
  | .untilReplaced => if accepted then none else some sl

/-- R69: the command of a SENT output is accepted. -/
def acceptCommand (o : Nat) (c : Cmd) (s : State) : State :=
  let e := outEntry s o
  let r := outRec s o
  let a := acceptedAct e r.view c
  let t := setAct o a (modOut o (fun r =>
    { r with busy := 0, origin := some r.view, clean := true, timer := some (proofTime e a) }) s)
  match r.slot with
  | some sl => if sl.hold = .untilReplaced then releaseSlot o t else t
  | none => t

/-- R68: the ending of a SENT output's exchange. -/
def sentEnding (o : Nat) (a : Ack) (s : State) : State :=
  let r := outRec s o
  match r.resolved with
  | none => s
  | some c =>
    match a with
    | .accepted => acceptCommand o c s
    | .busy =>
      let t := modOut o (fun r => { r with busy := min s.tables.link.busyLimit (r.busy + 1) }) s
      if s.tables.link.busyLimit ≤ r.busy + 1 then toFault o .busy .none t else enqueue o c t
    | .refusedLocal =>
      toFault o .localControl .none (modOut o (fun r =>
        { r with view := match r.view with
            | .fan sp t _ => .fan sp t true
            | v => v }) s)
    | .badChannel => toFault o .noResponse .badChannel s

/-- R68: the ending of the exchange of an output that is no longer SENT. R68 has the busy count cleared by ACCEPTED in the column
of an output still SENT alone, while the codes after R78 speak of consecutive BUSY answers. DESIGN CHOICE, log entry 81:
ACCEPTED of a superseded exchange keeps the busy count. -/
def supersededEnding (o : Nat) (a : Ack) (s : State) : State :=
  match (outRec s o).slot with
  | none => s
  | some sl =>
    match slotAfterExchange (a = .accepted) sl with
    | none => releaseSlot o s
    | some sl' => modOut o (fun r => { r with slot := some sl' }) s

/-- R68: the Resolver takes the ending of a command exchange. -/
def exchangeEnded (o : Nat) (a : Ack) (s : State) : State :=
  onOutput o (if (outRec s o).act = .sent then sentEnding o a else supersededEnding o a) s

/-! ### Proof (R70, R71) -/

/-- R71: the fault of an expiry. -/
def expiryFault (e : OutputEntry) (a : Act) (clean : Bool) : FaultCode :=
  if isDamper e then (if clean then .noProof else .stuck)
  else if clean && a == .stopping then .noStop
  else .noRun

/-- R71: the proof timer of an output expires. -/
def proofExpired (o : Nat) (s : State) : State :=
  let r := outRec s o
  onOutput o
    (fun s =>
      match r.clean && !r.retried, r.resolved with
      | true, some c =>
        enqueue o c (modOut o (fun r =>
          { r with retried := true, origin := none, timer := none, clean := false }) s)
      | _, _ => toFault o (expiryFault (outEntry s o) r.act r.clean) .none s) s

/-! ### Readings (R59, R70, R72, R75, R76, R78, R80) -/

/-- 12.5: the fitted indication of a channel reading. -/
def readingFitted (b : Nat) : Nat := b / 64

/-- R179: a reading that makes its STATE undecodable. R179 names fitted 3 and fan speed 3 alone. DESIGN CHOICE, log entry 71:
the bits that 12.5 gives as 0, 5 to 4 and in a damper's reading 3 to 2, are not looked at. -/
def readingBad (b : Nat) : Bool := readingFitted b == 3 || (readingFitted b == 2 && b % 4 == 3)

/-- R59, 12.5: the view that a damper's reading forms. -/
def damperView (b : Nat) : View :=
  match b % 2 == 1, b / 2 % 2 == 1 with
  | true, false => .atOpen
  | false, true => .atClosed
  | false, false => .travel
  | true, true => .conflict

/-- R59, 12.5: the view that a fan's reading forms. -/
def fanView (b : Nat) : View :=
  .fan (if b % 4 = 0 then .stopped else if b % 4 = 1 then .low else .high) (b / 4 % 2 == 1) (b / 8 % 2 == 1)

/-- R133: the reading matches the output's kind. -/
def readingMatches (e : OutputEntry) (b : Nat) : Bool :=
  (isDamper e && readingFitted b == 1) || (isFan e && readingFitted b == 2)

def readingView (e : OutputEntry) (b : Nat) : View := if isDamper e then damperView b else fanView b

/-- R59, R133: the record takes a view, a validity and whether the reading was unusable. The Monitor hears of a change of
proven extract (R107). -/
def takeView (o : Nat) (v : View) (valid unusable : Bool) (s : State) : State :=
  let e := outEntry s o
  let t := modOut o (fun r => { r with view := v, valid := valid, unusable := unusable }) s
  if isFan e && provenExtract e (outRec s o) != provenExtract e (outRec t o) then tellMonitor (.extractChanged o) t
  else t

/-- R75: the fault that a view shows. -/
def viewFault (v : View) : Option FaultCode :=
  if viewTrip v then some .tripped
  else if viewLocal v then some .localControl
  else if v = .conflict then some .conflict
  else none

/-- R78: the record's fault is TRIPPED or LOCAL and this view shows its flag. -/
def flagFault (r : OutRec) (v : View) : Bool :=
  match r.fault with
  | some ⟨.tripped, _⟩ => viewTrip v
  | some ⟨.localControl, _⟩ => viewLocal v
  | _ => false

/-- R78: an output in FAULT whose reading is taken. `old` is its record before the reading. A fault with cause MISSING
waits for its module's return, which is taken after the readings (R74). R71, R78: an agreeing reading brings the output out,
also where the view agreed before the fault came. DESIGN CHOICE, log entry 34: not where that view shows the flag of the
fault TRIPPED or LOCAL itself, which has to clear; and a reading that comes to agree and clears the flag is two ways of R78 at
once, of which FEEDBACK is taken. -/
def readInFault (o : Nat) (old : OutRec) (c : Cmd) (s : State) : State :=
  let r := outRec s o
  if old.fault = some { code := .noResponse, cause := .missing } then s
  else if agrees r c && !(agrees old c && flagFault old old.view) then
    settle o (raise .outputRecovered o (wayCode .feedback) (modOut o (fun r => { r with fault := none }) s))
  else if flagFault old old.view && !flagFault old r.view then newAttempt o .flag s
  else s

/-- R76: a SETTLED output departs from its command. -/
def depart (o : Nat) (c : Cmd) (s : State) : State :=
  if s.plant.hold.state = .held then enqueue o c s
  else if isDamper (outEntry s o) && !(outRec s o).retried then
    enqueue o c (modOut o (fun r => { r with retried := true }) s)
  else toFault o .lostProof .none s

/-- R70, R72, R76: a reading of an output that is not in FAULT and shows no fault of R75. -/
def readInState (o : Nat) (old : OutRec) (c : Cmd) (s : State) : State :=
  let r := outRec s o
  match r.act with
  | .moving | .starting | .stopping =>
    if agrees r c then settle o s
    else if r.view ≠ old.view then modOut o (fun r => { r with clean := false }) s
    else s
  | .settled => if agrees r c then s else depart o c s
  | .waitPath | .waitStart =>
    if viewSpeed r.view ≠ viewSpeed old.view then placeFromWait o s else s
  | _ => s

/-- The effect of a reading on an output's state, once its view is formed. -/
def afterReading (o : Nat) (old : OutRec) (s : State) : State :=
  match old.act, old.resolved with
  | .unknown, none => settle o s
  | .unknown, some _ => place o s
  | _, none => s
  | .fault, some c => readInFault o old c s
  | _, some c =>
    match viewFault (outRec s o).view with
    | some code => if (outRec s o).view ≠ old.view then toFault o code .none s else readInState o old c s
    | none => readInState o old c s

/-- R91: examine a fan's board when its contribution has fallen. -/
def examineIfFallen (o : Nat) (before : Nat) (s : State) : State :=
  if contribution (outEntry s o) (outRec s o) < before then examineFor o s else s

/-- R59: a feedback reading of a configured output. One reading may make a fan's contribution fall and also have the fan join its
wait list, and R91 does not say which examination comes first. DESIGN CHOICE, log entry 89: the fan is placed, and its joining
examined, before the board is examined for the fall. -/
def takeReading (o b : Nat) (s : State) : State :=
  let e := outEntry s o
  let old := outRec s o
  examineIfFallen o (contribution e old)
    (onOutput o (fun s => afterReading o old (takeView o (readingView e b) true false s)) s)

/-- R133: an unusable reading. The output leaves every load sum, so its board may have room (R91). -/
def takeUnusable (o : Nat) (s : State) : State :=
  examineIfFallen o (contribution (outEntry s o) (outRec s o))
    (onOutput o (fun s =>
      let r := outRec s o
      let t := takeView o r.view false true s
      if r.resolved.isNone then setAct o .unknown t
      else if r.act = .fault then t
      else toFault o .noResponse .badChannel t) s)

/-! ### Modules lost and returned (R74) -/

/-- The configured outputs of a module in ascending channel. -/
def outputsByChannel (s : State) (m : Nat) : List Nat :=
  [1, 2, 3, 4].flatMap (fun c => (outputsOfModule s m).filter (fun o => (outEntry s o).channel == c))

/-- R74: one output of a module that has become MISSING. -/
def outputLost (o : Nat) (s : State) : State :=
  onOutput o (fun s =>
    let r := outRec s o
    let t := takeView o r.view false r.unusable s
    if r.act = .fault then t
    else if r.resolved.isNone then setAct o .unknown t
    else toFault o .noResponse .missing t) s

/-- R74: the Resolver's part in the loss of a module. The Monitor's tests follow all of it. DESIGN CHOICE, log entry 62. -/
def outputsLost (m : Nat) (s : State) : State := (outputsByChannel s m).foldl (fun t o => outputLost o t) s

/-- R74: an output's new attempt on its module's return. -/
def outputReturned (o : Nat) (s : State) : State :=
  if (outRec s o).act = .fault && (outRec s o).fault = some { code := .noResponse, cause := .missing } then
    onOutput o (newAttempt o .module) s
  else s

/-- R74, R134: the new attempts on a module's return. The rules name no order among them. DESIGN CHOICE, log entry 52:
ascending channel, as for the loss (R135). -/
def outputsReturned (m : Nat) (s : State) : State := (outputsByChannel s m).foldl (fun t o => outputReturned o t) s

/-- R133, step 3: the readings of a module's channels, `bs` in channel order. The Monitor tests its watches once all are
taken. DESIGN CHOICE, log entry 62. -/
def takeReadings (m : Nat) (bs : List Byte) (s : State) : State :=
  (outputsByChannel s m).foldl (fun t o =>
    let b := byteAt bs ((outEntry s o).channel - 1)
    if readingMatches (outEntry s o) b then takeReading o b t else takeUnusable o t) s

/-! ### Source changes and re-assertion (R95, R146) -/

/-- R95, step 3: the states a fan under LOW or HIGH is returned from. -/
def returnable (r : OutRec) : Bool :=
  (r.resolved == some .low || r.resolved == some .high)
    && (r.act == .queued || r.act == .sent || r.act == .starting || r.act == .settled)

/-- R95, step 3: one fan is returned to WAIT_START with the join time its record keeps, or with the uptime. -/
def returnToWait (f : Nat) (s : State) : State :=
  setAct f .waitStart (dequeue f (modOut f (fun r =>
    { r with
      retried := false, busy := 0, origin := none, timer := none, clean := false,
      joinTime := some (r.joinTime.getD s.uptime), waitOpen := true }) s))

/-- R95, steps 2 and 3: every slot on the board is released and its fans are returned to WAIT_START. -/
def restageBoard (b : Nat) (s : State) : State :=
  let t := (fansOn s b).foldl (fun t f => modOut f (fun r => { r with slot := none }) t) s
  ((fansOn s b).filter (fun f => returnable (outRec s f))).foldl (fun t f => returnToWait f t) t

/-- R95, step 6, and R98: the board is examined, and then the fans that joined and still wait are warned. R98 names no
order among them. DESIGN CHOICE, log entry 59: admission order. -/
def examineAndWarn (b : Nat) (s : State) : State :=
  let t := examine b s
  (waitList t b).foldl (fun u f => warnHeld f u) t

/-- R95: a source change. -/
def sourceChange (b : Nat) (src : BoardSource) (s : State) : State :=
  let t := restageBoard b (setBoardSource b src s)
  examineAndWarn b (raise .supplyChange b (boardSourceCode (boardSource s b) * 256 + boardSourceCode src) t)

/-- R146, step 4: a fan queued with a start that holds no slot of equal demand is placed afresh. -/
def replaceQueued (o : Nat) (s : State) : State :=
  let e := outEntry s o
  let r := outRec s o
  match r.resolved with
  | some c =>
    if r.act = .queued && needsSlot e r.view c && !slotFits e r c then onOutput o (place o) (dequeue o s) else s
  | none => s

/-- R146, step 4: a SETTLED output that its valid view shows departed is placed. -/
def reassertOutput (o : Nat) (s : State) : State :=
  let r := outRec s o
  match r.resolved with
  | some c => if r.act = .settled && r.valid && !agrees r c then onOutput o (place o) s else s
  | none => s

/-- R146, step 4: the plant is re-asserted. The rule names no order among the fans, nor among the SETTLED outputs. DESIGN
CHOICE, log entry 52: ascending output number. The rule raises no fault of its own, and places by R62, which can. DESIGN
CHOICE, log entry 67: a fan placed into WAIT_PATH whose path has failed faults PATH (R72). -/
def reassert (s : State) : State :=
  (configured s).foldl (fun t o => reassertOutput o t) ((configured s).foldl (fun t o => replaceQueued o t) s)

/-! ### The board and output records at a table write (R81, R99) -/

/-- R99: a written board entry. -/
def boardWritten (b : Nat) (s : State) : State := examineAndWarn b (restageBoard b s)

/-- R58: the record of an output after a start, against its entry. -/
def coldOutFor (e : OutputEntry) : OutRec := if isFan e then { coldOut with view := .fan .stopped false false } else coldOut

/-- R81: has the entry kept kind, module and channel? -/
def samePlace (old new : OutputEntry) : Bool :=
  old.kind == new.kind && old.module == new.module && old.channel == new.channel

/-- R99: has a fan's board or a load changed? -/
def loadsChanged (old new : OutputEntry) : Bool :=
  old.board != new.board || old.startLoad != new.startLoad || old.runLow != new.runLow
    || old.runHigh != new.runHigh || old.stepLoad != new.stepLoad

/-- R81: a layer entry is kept where it fits the new kind. -/
def keepFitting (e : OutputEntry) (c : Option Cmd) : Option Cmd := if fitsKind e c then c else none

/-- R81: the record rebuilt against an entry of another kind, module or channel. -/
def rebuiltRecord (e : OutputEntry) (r : OutRec) : OutRec :=
  { coldOutFor e with
    ff := keepFitting e r.ff
    fire := keepFitting e r.fire
    safe := keepFitting e r.safe
    bld := keepFitting e r.bld
    resolved := r.resolved
    lastSent := r.lastSent
    engaged := r.engaged }

/-- R81, R99: the record of output `o` against its entry as just written. `old` is the entry it replaces. A waiting fan
that the rewrite returns with its join time keeps its held-warned mark: R97 ends the wait, but R98 clears the mark only at
admission or with the join time. DEDUCED, log entry 55. -/
def rebuildRecord (o : Nat) (old : OutputEntry) (s : State) : State :=
  let e := outEntry s o
  let r := outRec s o
  if !isConfigured e then modOut o (fun _ => coldOut) (dequeue o s)
  else if !samePlace old e then recompute o (modOut o (rebuiltRecord e) (dequeue o s))
  else if isFan e && loadsChanged old e then
    if returnable r || r.act == .waitStart then
      returnToWait o (modOut o (fun r => { r with slot := none }) s)
    else modOut o (fun r => { r with slot := none }) s
  else s

/-- R81: an output's entry comes into force. An output whose kind, module or channel changes becomes UNKNOWN, and leaves the
fast ring (R136), against the entry it had. -/
def putOutput (o : Nat) (new : OutputEntry) (s : State) : State :=
  let t := if samePlace (outEntry s o) new then s else setAct o .unknown s
  { t with tables := { t.tables with outputs := sput blankOutput o new t.tables.outputs } }

/-- R81, R99: an output entry is written. R99 names no order for the examinations of the old and the new board. DESIGN
CHOICE, log entry 59: the old board and then the new one, after the recomputation of R81, which examines the new board for a
fan that stands in WAIT_START. -/
def outputWritten (o : Nat) (new : OutputEntry) (s : State) : State :=
  let old := outEntry s o
  let t := onOutput o (fun u => rebuildRecord o old (putOutput o new u)) s
  let t := if samePlace old new then recompute o t else t
  [old.board, new.board].dedup.foldl (fun t b => examineAndWarn b t) t

end Sys2Proof.Machine
end

