-- ==== Sys2Proof/Machine/Runner.lean ====
section
/-! DEFINITION. The Scenario Runner (chapter 3): step issue, run faults, standby substitution, reserve engagement,
load, switch and end. -/

namespace Sys2Proof.Machine

/-! ### Run faults and standbys (R46, R50, R51) -/

/-- R46: a fault of a run output is recorded in the run fault list. -/
def recordRunFault (o : Nat) (s : State) : State :=
  if !isRunOutput s o || s.run.faults.contains o then s
  else if s.run.faults.length < Config.faultListSize then
    setRun (fun r => { r with faults := r.faults ++ [o], degraded := true }) s
  else setRun (fun r => { r with overflow := true, degraded := true }) s

/-- R51: EXTRACT_LOST for a duty fan, with the facts of R47. -/
def extractLost (duty : Nat) (s : State) : State :=
  report
    { event := .extractLost, subject := engagementZone s duty, detail := duty, clean := .none,
      facts := some (runFacts s) } s

/-- R50: the fault codes that call for a standby. -/
def substitutes : FaultCode → Bool
  | .noRun | .tripped | .localControl | .noResponse | .lostProof | .path | .busy => true
  | _ => false

/-- R107: the Runner tells the Monitor that a standby of this duty fan has been engaged or released. -/
def tellStandby (duty : Nat) (s : State) : State :=
  (s.run.served.filter (fun z => (listed (zoneEntry s z).extract).contains duty)).foldl
    (fun t z => tellMonitor (.testZone z) t) s

/-- R50, R52: the FIRE entry of a standby that follows a duty fan's. -/
def standbyEntry (e : OutputEntry) (c : Cmd) : Cmd := if c = .low && isFanSingle e then .high else c

/-- R50: the standby is engaged for a duty fan whose FIRE entry is `c`. -/
def engageStandby (standby duty : Nat) (c : Cmd) (s : State) : State :=
  tellStandby duty (raise .standbyEngaged standby duty
    (modOut standby (fun r => { r with engaged := .standbyFor duty })
      (writeFire standby (some (standbyEntry (outEntry s standby) c)) s)))

/-- R50, R51: a duty fan has faulted. -/
def substitute (duty : Nat) (code : FaultCode) (s : State) : State :=
  let sb := (outEntry s duty).standby
  match (outRec s duty).fire with
  | some c =>
    if isFan (outEntry s duty) && (c == .low || c == .high) && substitutes code && sb != 0 && isFan (outEntry s sb)
        && ((outRec s sb).fire == none || (outRec s sb).fire == some .stop) then
      if (outRec s sb).act = .fault then extractLost duty s else engageStandby sb duty c s
    else s
  | none => s

/-- R51: an engaged standby has faulted. -/
def standbyFaulted (o : Nat) (s : State) : State :=
  match (outRec s o).engaged with
  | .standbyFor d => extractLost d s
  | _ => s

/-- R46, R50, R51: what the Runner does on an output's fault. -/
def takeFault (o : Nat) (code : FaultCode) (s : State) : State :=
  if fireMode s then substitute o code (standbyFaulted o (recordRunFault o s)) else s

/-! ### Reports of the Resolver (R42) -/

/-- The steps of an output leave the in-flight set. -/
def leaveFlight (o : Nat) (s : State) : State :=
  setRun (fun r => { r with inFlight := r.inFlight.filter (fun i => (stepOf s.tables i).output != o) }) s

/-- The output that a report names. -/
def reportedOutput : RunnerNotice → Nat
  | .settled o => o
  | .fault o _ => o

/-- R42, R46, R50, R51: a report is taken, but for the advance that follows where a step leaves the in-flight set. -/
def takeReport (n : RunnerNotice) (s : State) : State :=
  let t := leaveFlight (reportedOutput n) s
  match n with
  | .settled _ => t
  | .fault o code => takeFault o code t

/-- Take the waiting reports in order, at most `n`. -/
def takeReportsTimes : Nat → State → State
  | 0, s => s
  | n + 1, s =>
    match s.runnerIn with
    | x :: xs => takeReportsTimes n (takeReport x { s with runnerIn := xs })
    | [] => s

/-- Take every waiting report. The Runner does so before each step it issues, and where a step fails at issue, so that a
report is never taken against a step issued after it (log entry 4). -/
def takeReports (s : State) : State := takeReportsTimes Config.cascadeFuel s

/-! ### Issue (R41, R52) -/

/-- R41: the steps in flight that name an output. -/
def flightOf (s : State) (o : Nat) : List Nat := s.run.inFlight.filter (fun i => (stepOf s.tables i).output == o)

/-- R41: a step joins the in-flight set at the end and replaces an earlier step of its output. -/
def joinFlight (i : Nat) (s : State) : State :=
  setRun (fun r => { r with inFlight := r.inFlight ++ [i] }) (leaveFlight (stepOf s.tables i).output s)

/-- Has a fault of this output been reported since the first `n` waiting notices? -/
def faultReported (s : State) (n o : Nat) : Bool :=
  (s.runnerIn.drop n).any (fun x => match x with
    | .fault o' _ => o' == o
    | _ => false)

/-- R41: the step is placed by the Resolver's answer `r`. A fault that the write itself raised has been reported, and is
taken at that moment from its report, once (log entry 12). -/
def placeStep (i n : Nat) (r : OutRec) (s : State) : State :=
  let o := (stepOf s.tables i).output
  match r.act, r.fault with
  | .settled, _ => s
  | .fault, some f => if faultReported s n o then takeReports s else takeFault o f.code s
  | _, _ => joinFlight i s

/-- R52: the standbys engaged for a duty fan. -/
def standbysOf (s : State) (duty : Nat) : List Nat :=
  (fans s).filter (fun f => (outRec s f).engaged == .standbyFor duty)

/-- R52: a step issued for a duty fan with an engaged standby is written to the standby as well. -/
def followStep (duty : Nat) (c : Cmd) (s : State) : State :=
  (standbysOf s duty).foldl (fun t f =>
    let u := writeFire f (some (standbyEntry (outEntry s f) c)) t
    if c = .stop then tellStandby duty (modOut f (fun r => { r with engaged := .none }) u) else u) s

/-- R41, R52: issue the step with this index. The rules leave two orders open. DESIGN CHOICE, log entry 12: the step is noted
as last issued before the write, so a fault that the write raises carries it (R47); and the step is placed by the
Resolver's answer before an engaged standby follows it. -/
def issueStep (i : Nat) (s : State) : State :=
  let st := stepOf s.tables i
  let t := writeFire st.output (cmdOf st.target)
    (setRun (fun r => { r with lastIssued := sput none st.output (some i) r.lastIssued }) s)
  let u := placeStep i s.runnerIn.length (outRec t st.output) t
  match cmdOf st.target with
  | some c => followStep st.output c u
  | none => u

/-! ### Advancing (R40, R43, R44, R45) -/

/-- R44: the run becomes ESTABLISHED. -/
def establish (s : State) : State :=
  let t := raise .runEstablished s.run.scenario (capWord (secondsSince s (s.run.stageStamp.getD 0)))
    (setRun (fun r => { r with state := .established, deadline := none }) s)
  if !s.run.late && !s.run.test then tellMonitor .startWatching t else t

/-- The cursor rises by 1 after the step under it is issued. -/
def issueAtCursor (s : State) : State :=
  setRun (fun r => { r with cursor := r.cursor + 1 }) (issueStep ((scenarioEntry s).firstStep + s.run.cursor) s)

/-- R40: advance the cursor, at most `n` steps. The reports that a step led to are taken before the next one. -/
def advanceTimes : Nat → State → State
  | 0, s => s
  | n + 1, s₀ =>
    let s := takeReports s₀
    if (scenarioEntry s).stepCount ≤ s.run.cursor then
      if s.run.inFlight.isEmpty && s.run.state == .staging then establish s else s
    else
      let st := stepOf s.tables ((scenarioEntry s).firstStep + s.run.cursor)
      if st.gate = 2 then
        if s.run.delay.isSome then s else setRun (fun r => { r with delay := some st.delay }) s
      else if st.gate = 1 && !s.run.inFlight.isEmpty then s
      else advanceTimes n (issueAtCursor s)

/-- R40: advance the cursor for as long as it issues steps. -/
def advance (s : State) : State :=
  if fireMode s then advanceTimes ((scenarioEntry s).stepCount + 1 - s.run.cursor) s else s

/-- R42: the Runner takes a report of the Resolver, and advances the cursor where a step left the in-flight set. -/
def takeRunner (n : RunnerNotice) (s : State) : State :=
  let t := takeReport n s
  if (flightOf s (reportedOutput n)).isEmpty then t else advance t

/-- R43: the DELAY timer has expired. -/
def delayExpired (s : State) : State := advance (issueAtCursor (setRun (fun r => { r with delay := none }) s))

/-- R45: the establish deadline has expired with the run STAGING. -/
def deadlineExpired (s : State) : State :=
  let t := setRun (fun r => { r with late := true, deadline := none }) s
  let u := report
    { event := .runLate
      subject := s.run.scenario
      detail := ((scenarioEntry s).stepCount - s.run.cursor) + s.run.inFlight.length
      clean := .none
      facts := some (runFacts s) } t
  if s.run.test then u else tellMonitor .startWatching u

/-! ### Load, switch and end (R38, R39, R48, R49, R103, R112) -/

/-- R103: a watch as it is created. -/
def newWatch (zone requirement : Nat) : Watch :=
  { zone := zone, requirement := requirement, watching := false, deficit := false, exhausted := false, cursor := 1,
    pending := none }

/-- R22, R102: the requirement of the zone at each place of the served order. -/
def requirementAt (e : ScenarioEntry) (place : Nat) : Nat := if place = 0 then e.requirement1 else e.requirement2

/-- R112: the watches after a switch. A kept watch keeps only its pending reserve. -/
def watchesFor (served : List Nat) (e : ScenarioEntry) (old : List Watch) : List Watch :=
  served.mapIdx (fun k z =>
    let w := newWatch z (requirementAt e k)
    match old.find? (fun w => w.zone == z) with
    | some w' => { w with pending := w'.pending }
    | none => w)

/-- R39: a load. What the beginning of fire mode makes the Resolver report is taken at once (log entry 4). -/
def loadRun (test : Bool) (scenario : Nat) (served : List Nat) (s : State) : State :=
  let e := scenarioOf s.tables scenario
  let t := setRun (fun r =>
    { r with
      state := .staging, test := test, late := false, degraded := false, scenario := scenario, served := served,
      cursor := 0, inFlight := [], lastIssued := [], delay := none, deadline := some e.establish, faults := [],
      overflow := false, startStamp := some s.uptime, stageStamp := some s.uptime }) s
  let t := takeReports (beginFire (raise .runStart scenario (served.getD 0 0 * 256 + served.getD 1 0) t))
  advance (if test then t else setWatches (fun _ => watchesFor served e []) t)

/-- R48, step 1: is this fan released at a switch? -/
def releasedAtSwitch (s : State) (scenario : Nat) (served : List Nat) (f : Nat) : Bool :=
  match (outRec s f).engaged with
  | .none => false
  | .reserveFor z => !served.contains z
  | .standbyFor d => !(served.contains (engagementZone s d) || scenarioNames s.tables scenario d)

/-- Engaged-as records return to NONE. -/
def releaseFans (fs : List Nat) (s : State) : State :=
  fs.foldl (fun t f => modOut f (fun r => { r with engaged := .none }) t) s

/-- R48, step 2: is this output's FIRE entry cleared at a switch? -/
def clearedAtSwitch (s : State) (scenario o : Nat) : Bool :=
  (outRec s o).fire.isSome && !scenarioNames s.tables scenario o && (outRec s o).engaged == .none

/-- R48: a switch. What the cleared entries make the Resolver report is taken before step 3 (log entry 4). -/
def switchRun (scenario : Nat) (served : List Nat) (s : State) : State :=
  let e := scenarioOf s.tables scenario
  let t := releaseFans ((fans s).filter (releasedAtSwitch s scenario served)) s
  let t := changeLayers (fun _ r => { r with fire := none }) ((configured t).filter (clearedAtSwitch t scenario)) t
  let t := takeReports t
  let t := setRun (fun r =>
    { r with
      state := .staging, scenario := scenario, served := served, cursor := 0, inFlight := [], lastIssued := [],
      delay := none, late := false, deadline := some e.establish, stageStamp := some s.uptime }) t
  let t := raise .runSwitch scenario s.run.scenario t
  advance (if s.run.test then t else setWatches (watchesFor served e) t)

/-- R49: an end. What the change of step 3 makes the Resolver report is taken before step 4, so that RUN_END counts its run
faults (log entry 4). R49 names the last issued steps neither among what it clears nor among what it keeps, and R36 speaks of
the present load or switch. DESIGN CHOICE, log entry 86: they stand until the next load or switch. -/
def endRun (s : State) : State :=
  let t := setRun (fun r => { r with delay := none, deadline := none, inFlight := [] }) s
  let t := takeReports (endFire (releaseFans (fans t) t))
  let t := raise .runEnd s.run.scenario (t.run.faults.length + if t.run.overflow then 256 else 0) t
  let t := if s.run.test then t else setWatches (fun _ => []) t
  setRun (fun r =>
    { r with state := .idle, scenario := 0, served := [], cursor := 0, test := false, late := false }) t

/-- R38: a load instruction. -/
def instructLoad (scenario : Nat) (served : List Nat) (s : State) : State :=
  if fireMode s then switchRun scenario served s else loadRun false scenario served s

/-- R38: a switch instruction. -/
def instructSwitch (scenario : Nat) (served : List Nat) (s : State) : State :=
  if fireMode s then switchRun scenario served s else loadRun false scenario served s

/-- R38: a test load. -/
def instructTest (scenario : Nat) (s : State) : State := if fireMode s then s else loadRun true scenario [] s

/-- R38: an end instruction. -/
def instructEnd (s : State) : State := if fireMode s then endRun s else s

/-! ### Reserves (R53) -/

/-- R53: the Runner engages this fan as a reserve for this zone. -/
def reserveAllowed (s : State) (f z : Nat) : Bool :=
  fireMode s && !s.run.test && s.run.served.contains z && (outRec s f).engaged == .none && (outRec s f).act != .fault

/-- R53: the engagement. -/
def engageReserve (f z : Nat) (s : State) : State :=
  raise .reserveEngaged f z
    (modOut f (fun r => { r with engaged := .reserveFor z }) (writeFire f (some .high) s))

end Sys2Proof.Machine
end

