-- ==== Sys2Proof/Machine/Monitor.lean ====
section
/-! DEFINITION. The Extract Monitor (chapter 6) and the order in which the blocks take what one command leads to (log
entry 4). -/

namespace Sys2Proof.Machine

def watchOf (s : State) (z : Nat) : Option Watch := s.watches.find? (fun w => w.zone == z)

def modWatch (z : Nat) (f : Watch → Watch) (s : State) : State :=
  setWatches (fun ws => ws.map (fun w => if w.zone == z then f w else w)) s

/-- R111: the deficit ends. -/
def deficitEnds (z : Nat) (s : State) : State :=
  raise .extractRestored z (extractSum s z) (modWatch z (fun w => { w with deficit := false, exhausted := false }) s)

/-- R109: the position under a watch's reserve cursor, 0 for an empty or absent one. -/
def reserveAt (s : State) (w : Watch) : Nat := (zoneEntry s w.zone).reserve.getD (w.cursor - 1) 0

/-- R109: the reserve list is worked out. -/
def exhaust (w : Watch) (s : State) : State :=
  raise .extractDeficit w.zone (w.requirement - extractSum s w.zone + 32768)
    (modWatch w.zone (fun w => { w with exhausted := true }) s)

/-- R109: an engagement step, at most `n` positions. Each answer leads to a test of the zone (R107), taken after the
step. -/
def engageTimes : Nat → Nat → State → State
  | 0, _, s => s
  | n + 1, z, s =>
    match watchOf s z with
    | none => s
    | some w =>
      let f := reserveAt s w
      if f = 0 then exhaust w s
      else
        let t := tellMonitor (.testZone z) (modWatch z (fun w => { w with cursor := w.cursor + 1 }) s)
        if !reserveAllowed s f z then engageTimes n z t
        else
          let u := engageReserve f z t
          if (outRec u f).act ≠ .settled ∧ (outRec u f).act ≠ .fault then
            modWatch z (fun w => { w with pending := some f }) u
          else if w.requirement ≤ extractSum u z then deficitEnds z u
          else engageTimes n z u

/-- R109: an engagement step. A reserve list holds 4 places. -/
def engagementStep (z : Nat) (s : State) : State := engageTimes 5 z s

/-- R108: a deficit begins. -/
def deficitBegins (w : Watch) (s : State) : State :=
  let t := raise .extractDeficit w.zone (w.requirement - extractSum s w.zone)
    (modWatch w.zone (fun w => { w with deficit := true, exhausted := false, cursor := 1 }) s)
  if w.pending.isNone then engagementStep w.zone t else t

/-- R107: a deficit test of a zone's watch. -/
def deficitTest (z : Nat) (s : State) : State :=
  match watchOf s z with
  | none => s
  | some w =>
    if !w.watching then s
    else if w.deficit then (if w.requirement ≤ extractSum s z then deficitEnds z s else s)
    else if extractSum s z < w.requirement then deficitBegins w s
    else s

/-- R104: every INACTIVE watch becomes WATCHING and is tested, in served order. -/
def startWatching (s : State) : State :=
  ((s.watches.filter (fun w => !w.watching)).map (fun w => w.zone)).foldl (fun t z => deficitTest z t)
    (setWatches (fun ws => ws.map (fun w => { w with watching := true })) s)

/-- R110: a reserve has settled or faulted. -/
def reserveSettled (f : Nat) (s : State) : State :=
  match s.watches.find? (fun w => w.pending == some f) with
  | none => s
  | some w =>
    let t := modWatch w.zone (fun w => { w with pending := none }) s
    if w.deficit && !w.exhausted then
      if w.requirement ≤ extractSum t w.zone then deficitEnds w.zone t else engagementStep w.zone t
    else t

/-- What the Monitor does with a notice. -/
def takeMonitor (n : MonitorNotice) (s : State) : State :=
  match n with
  | .startWatching => startWatching s
  | .extractChanged f => ((s.watches.map (fun w => w.zone)).filter (fun z => counts s z f)).foldl
      (fun t z => deficitTest z t) s
  | .testZone z => deficitTest z s
  | .reserveOutcome f => reserveSettled f s

/-- Take the waiting notices, at most `n`: the Runner's before the Monitor's, each list in order (log entry 4). -/
def drainTimes : Nat → State → State
  | 0, s => s
  | n + 1, s =>
    match s.runnerIn with
    | x :: xs => drainTimes n (takeRunner x { s with runnerIn := xs })
    | [] =>
      match s.monitorIn with
      | y :: ys => drainTimes n (takeMonitor y { s with monitorIn := ys })
      | [] => s

/-- Take every notice that waits between the blocks. -/
def drain (s : State) : State := drainTimes Config.cascadeFuel s

end Sys2Proof.Machine
end

