-- ==== Sys2Proof/Machine/Plant.lean ====
section
/-! DEFINITION. The Plant Link Controller (chapter 8): rings, arbiter, exchanges, module states, forward queue and
hold. -/

namespace Sys2Proof.Machine

/-! ### The slow ring and the pacer (R129, R137, R138) -/

/-- R129: the modules that the configured outputs name, in ascending station order, each once. -/
def slowMembers (s : State) : List Nat :=
  sortBy (fun x y => decide (x < y)) ((configured s).map (fun o => (outEntry s o).module)).dedup

/-- R129: the slow ring is built, its cursor on the lowest module. -/
def buildSlowRing (s : State) : State :=
  setPlant (fun p => { p with slowRing := slowMembers s, slowCursor := (slowMembers s).head? }) s

/-- R129: the pacer is started with the ready flag clear. -/
def startPacer (s : State) : State :=
  setPlant (fun p => { p with pacer := some s.tables.link.pacer, ready := false }) s

/-! ### Who requests the line (R138, R139) -/

def pollRequests (s : State) : Bool :=
  s.plant.ready && s.plant.hold.state == .free && (!s.plant.fastRing.isEmpty || !s.plant.slowRing.isEmpty)

def commandRequests (s : State) : Bool := !s.queue.isEmpty && s.plant.hold.state == .free

/-- R139: may this forward entry use the line? -/
def mayForward (s : State) (e : ForwardEntry) : Bool :=
  s.plant.hold.state == .free || (s.plant.hold.state == .held && e.station == s.tables.link.commissioning)

/-- R141: the first entry that may use the line, with the entries that stay. -/
def takeForward (s : State) : List ForwardEntry → Option (ForwardEntry × List ForwardEntry)
  | [] => none
  | e :: es =>
    if mayForward s e then some (e, es)
    else (takeForward s es).map (fun p => (p.1, e :: p.2))

/-- R139: no exchange is in flight and the hold allows a grant. -/
def lineFree (s : State) : Bool :=
  s.plant.exchange.isNone && (s.plant.hold.state == .free || s.plant.hold.state == .held)

/-! ### Grants -/

/-- R127: an exchange begins with its first send. -/
def beginExchange (k : ExchangeKind) (f : Frame) (s : State) : State :=
  setPlant (fun p => { p with exchange := some { kind := k, frame := f, sends := 1, window := none } }) s

/-- A frame of the sequencer's own. -/
def ownFrame (s : State) (module kind : Nat) (payload : List Byte) : Frame :=
  { dest := module, src := s.tables.link.plantMaster, kind := kind, tag := s.plant.tagCounter, payload := payload }

/-- The tag counter rises by 1, wrapping from 255 to 0. -/
def nextTag (s : State) : State := setPlant (fun p => { p with tagCounter := (p.tagCounter + 1) % 256 }) s

/-- R67, R132: the head of the command queue is granted. Its output's change of state is judged as any other (R72). -/
def grantCommand (s : State) : State :=
  match s.queue with
  | [] => s
  | ⟨o, c⟩ :: rest =>
    let e := outEntry s o
    let f := ownFrame s e.module kCmd (byte1 e.channel ++ byte1 (cmdCode c))
    let t := modOut o (fun r => { r with lastSent := some c }) (setQueue (fun _ => rest) s)
    nextTag (beginExchange (.ownCommand o) f (onOutput o (setAct o .sent) t))

/-- R138: the module to poll, and the rings and the fast count after the choice. -/
def choosePoll (s : State) : Option (Nat × Plant) :=
  let p := s.plant
  let fast (m n : Nat) : Nat × Plant := (m, { p with fastCursor := ringNext p.fastRing m, fastCount := n })
  let slow (m : Nat) : Nat × Plant := (m, { p with slowCursor := ringNext p.slowRing m, fastCount := 0 })
  match p.fastCursor, p.slowCursor with
  | some m, x =>
    if p.fastCount < s.tables.link.fastPerSlow then some (fast m (p.fastCount + 1))
    else match x with
      | some n => some (slow n)
      | none => some (fast m 1)
  | none, some n => some (slow n)
  | none, none => none

/-- R138: a poll is granted. -/
def grantPoll (s : State) : State :=
  match choosePoll s with
  | none => s
  | some (m, p) => nextTag (beginExchange .ownPoll (ownFrame s m kAsk []) (startPacer (setPlant (fun _ => p) s)))

/-- R141: the first entry that may use the line is granted. -/
def grantForward (s : State) : State :=
  match takeForward s s.plant.forward with
  | none => s
  | some (e, rest) =>
    beginExchange (.forward e.station e.tag e.addressed) e.frame (setPlant (fun p => { p with forward := rest }) s)

def setBurst (n : Nat) (s : State) : State := setPlant (fun p => { p with burst := n }) s

/-- R139: one grant of the arbiter, when the line is free and something requests it. -/
def arbitrate (s : State) : State :=
  if !lineFree s then s
  else if pollRequests s && decide (s.tables.link.burstLimit ≤ s.plant.burst) then grantPoll (setBurst 0 s)
  else if commandRequests s then grantCommand (setBurst (if pollRequests s then s.plant.burst + 1 else 0) s)
  else if pollRequests s then grantPoll (setBurst 0 s)
  else grantForward s

/-! ### Module states (R133, R134, R135) -/

/-- R135: a module becomes MISSING. R105 counts 0 for a fan of a MISSING module, R106 reads the view of the fan's record, and that
view is marked not valid only in step 3. DESIGN CHOICE, log entry 91: the extract sum captured with a CRITICAL MODULE_MISSING
(R164) reads the views as they stand at step 2, so the lost module's fans still count. -/
def moduleMissing (m : Nat) (s : State) : State :=
  outputsLost m
    (raise .moduleMissing m (outputsOfModule s m).length
      (setModule m { moduleRec s m with state := .missing, missingStamp := some s.uptime } s))

/-- R134: an own poll has gone unanswered. A miss count that a lowered retry limit leaves above 1 + the limit has reached it
(DESIGN CHOICE, log entry 90). -/
def pollMissed (m : Nat) (s : State) : State :=
  let r := moduleRec s m
  let n := r.misses + 1
  if r.state = .missing then s
  else if s.tables.link.retryLimit + 1 ≤ n then moduleMissing m (setModule m { r with misses := n } s)
  else setModule m { r with misses := n } s

/-- R132, R134: a CMD_ACK, or a decoded STATE, clears the miss count. -/
def clearMisses (m : Nat) (s : State) : State := setModule m { moduleRec s m with misses := 0 } s

/-- R134: a STATE has been decoded. MODULE_RECOVERED comes before the readings. -/
def modulePresent (m : Nat) (s : State) : State :=
  let r := moduleRec s m
  let t := setModule m { r with state := .present, missingStamp := none } s
  if r.state = .missing then
    raise .moduleRecovered m (capWord (secondsSince s (r.missingStamp.getD s.uptime))) t
  else t

/-- R133: a STATE reply of a module is decoded and handed over. R127 has module records for the stations 1 to 100 alone, and a
window not yet validated may forward to a station above. DESIGN CHOICE, log entry 75: its STATE is decoded as a module's, and a
PRESENT record stands for it. -/
def stateDecoded (m : Nat) (bs : List Byte) (s : State) : State :=
  let t := takeReadings m bs (clearMisses m (modulePresent m s))
  if (moduleRec s m).state = .missing then outputsReturned m t else t

/-- R130, R179: the readings can be decoded. A STATE longer than its four readings cannot. DESIGN CHOICE, log entry 70. -/
def decodable (bs : List Byte) : Bool := bs.length == 4 && bs.all (fun b => !readingBad b.toNat)

/-- The CMD_ACK result that a code stands for (12.7). -/
def ackOf : Nat → Option Ack
  | 0 => some .accepted | 1 => some .busy | 2 => some .refusedLocal | 3 => some .badChannel | _ => none

/-! ### Endings of an exchange (R130 to R133, R141) -/

def endExchange (s : State) : State := setPlant (fun p => { p with exchange := none }) s

def countError (s : State) : State := setPlant (fun p => { p with errors := countUp p.errors }) s

def countStray (s : State) : State := setPlant (fun p => { p with strays := countUp p.strays }) s

/-- R132: the CMD_ACK of an own command. -/
def commandAnswered (o m : Nat) (a : Ack) (s : State) : State := exchangeEnded o a (clearMisses m (endExchange s))

/-- R133: the STATE of an own poll. -/
def pollAnswered (m : Nat) (bs : List Byte) (s : State) : State := stateDecoded m bs (endExchange s)

/-- R130: an awaited reply whose payload cannot be decoded. -/
def replyBad (kind : Nat) (payload : List Byte) : Bool :=
  if kind = kState then !decodable payload
  else if kind = kCmdAck then payload.length != 2 || (ackOf (byteAt payload 1)).isNone
  else false

/-- R141, R158: the reply to a forwarded frame: decoded when it is a STATE, and then handed to the origin. The events that the
Runner and the Monitor raise from the readings are not part of the decoding. DESIGN CHOICE, log entry 66: the reply joins the
outbound queue before them. -/
def forwardAnswered (x : Exchange) (station tag addressed kind : Nat) (payload : List Byte) (s : State) : State :=
  let m := x.frame.dest
  let t := endExchange s
  let t := if kind = kState then stateDecoded m payload t else if kind = kCmdAck then clearMisses m t else t
  setPanel (offerFrame { dest := station, src := addressed, kind := kind, tag := tag, payload := payload } .nothing) t

/-- R131: the reply window of an exchange has expired. A write that lowers the retry limit may leave more sends made than 1 + the
limit, a case that R131 has no row for. DESIGN CHOICE, log entry 90: the exchange ends unanswered, as at 1 + the limit. -/
def windowExpired (x : Exchange) (s : State) : State :=
  match x.kind with
  | .ownCommand _ =>
    if x.sends < 1 + s.tables.link.retryLimit then
      setPlant (fun p => { p with exchange := some { x with sends := x.sends + 1, window := none } }) s
    else moduleMissing x.frame.dest (endExchange s)
  | .ownPoll => pollMissed x.frame.dest (endExchange s)
  | .forward st tag addressed => sendFail st tag addressed .noReply (endExchange s)

/-! ### The forward queue (R140) -/

/-- R140: an offered frame. -/
def offerForward (e : ForwardEntry) (s : State) : State :=
  if (s.plant.hold.state = .pending ∨ s.plant.hold.state = .held) ∧ e.station ≠ s.tables.link.commissioning then
    sendFail e.station e.tag e.addressed .held s
  else if Config.forwardSize ≤ s.plant.forward.length then sendFail e.station e.tag e.addressed .full s
  else setPlant (fun p => { p with forward := p.forward ++ [e] }) s

/-- R143, R146: entries leave the forward queue, each refused with this reason. The rules name no order for the refusals. DESIGN
CHOICE, log entry 74: queue order. -/
def refuseEntries (es : List ForwardEntry) (r : FailReason) (s : State) : State :=
  es.foldl (fun t e => sendFail e.station e.tag e.addressed r t) s

/-! ### The hold (R143 to R146) -/

/-- The pending HOLD_ASK, if any, is answered. -/
def answerAsk (r : Result) (s : State) : State :=
  match s.plant.hold.ask with
  | some q => sendReply q r (setHold (fun h => { h with ask := none }) s)
  | none => s

/-- R143: the line is free and the hold is granted. -/
def grantHold (s : State) : State :=
  let l := s.tables.link
  let gone := s.plant.forward.filter (fun e => e.station != l.commissioning)
  let t := setPlant (fun p =>
    { p with
      forward := p.forward.filter (fun e => e.station == l.commissioning)
      hold := { p.hold with state := .held, timer := some l.holdLimit } }) s
  answerAsk .ok (raise .holdGranted l.commissioning l.holdLimit (refuseEntries gone .held t))

/-- R146: the hold becomes FREE from RELEASE_PENDING. -/
def freeHold (s : State) : State :=
  let l := s.tables.link
  let gone := s.plant.forward.filter (fun e => e.station == l.commissioning)
  let t := setPlant (fun p =>
    { p with
      forward := p.forward.filter (fun e => e.station != l.commissioning)
      hold := { p.hold with state := .free, reason := .none } }) s
  reassert (raise .holdEnded l.commissioning (releaseCode s.plant.hold.reason) (refuseEntries gone .held t))

/-- R143, R146: a hold that waits for the line moves on when no exchange is in flight. -/
def holdProgress (s : State) : State :=
  if s.plant.exchange.isSome then s
  else match s.plant.hold.state with
    | .pending => grantHold s
    | .releasePending => freeHold s
    | _ => s

/-- R144: HELD to RELEASE_PENDING. -/
def releaseHold (r : ReleaseReason) (s : State) : State :=
  setHold (fun h => { h with state := .releasePending, reason := r, timer := none }) s

/-- R143, R145: HOLD_PENDING back to FREE, its HOLD_ASK answered REVOKED. -/
def refuseHold (s : State) : State := answerAsk .revoked (setHold (fun h => { h with state := .free }) s)

/-- R143, R144: the hold is revoked. With no exchange in flight a HELD hold becomes FREE at once. -/
def revokeHold (s : State) : State :=
  match s.plant.hold.state with
  | .pending => refuseHold s
  | .held => holdProgress (releaseHold .revoked s)
  | _ => s

/-- The end of a command that may have moved plant: the notices between blocks are taken, a hold that waits for the
line moves on, and the arbiter grants (R139, R143, R146; log entry 13). The notices that the grant leads to follow (R72). -/
def endStep (s : State) : State := drain (arbitrate (drain (holdProgress (drain s))))

end Sys2Proof.Machine
end

