-- ==== Sys2Proof/Machine/Zones.lean ====
section
/-! DEFINITION. Zone Intake (chapter 1). -/

namespace Sys2Proof.Machine

/-- R5: an arrival joins an alarm source set. -/
def joinSources (a : AlarmSource) (set : List AlarmSource) : List AlarmSource :=
  if set.any (fun x => x.address == a.address) then
    if a.cls = .confirming then
      set.map (fun x => if x.address == a.address then { x with cls := .confirming } else x)
    else set
  else if set.length < Config.sourceSetSize then set ++ [a]
  else set

/-- 1.3: a confirmed zone. -/
def isConfirmed (z : ZoneState) : Bool := z == .confirmed || z == .active || z == .secondary

/-- R8, R14, R16, R19: Zone Intake tells the Selector of a confirmation. The Selector passes it on to the hold in every
mode, and keeps it for a decision in NORMAL mode only. -/
def tellConfirmed (z : Nat) (s : State) : State :=
  let t := revokeHold s
  if t.mode = .normal then { t with selector := t.selector ++ [.confirmed z] } else t

/-- R9, R19: Zone Intake tells the Selector of the reset of a confirmed zone. -/
def tellReset (z : Nat) (s : State) : State :=
  if s.mode = .normal then { s with selector := s.selector ++ [.reset z] } else s

/-- R8: a zone in NORMAL or PREALARM is confirmed by the arrival of `a`. -/
def confirmZone (z : Nat) (a : AlarmSource) (set : List AlarmSource) (s : State) : State :=
  let reason := if a.cls = .confirming then ConfirmReason.confirmingSource else .coincidence
  tellConfirmed z (raise .zoneConfirmed z a.address
    (setZone z
      { state := .confirmed, sources := set, confirmation := some { reason := reason, stamp := s.uptime },
        held := (zoneRec s z).held } s))

/-- R6, R7, R13: an alarm arrival. A duplicate DETECTOR leaves a zone in PREALARM as it is, also where a rewritten threshold
is met (R6). -/
def alarmArrival (z : Nat) (a : AlarmSource) (s : State) : State :=
  let r := zoneRec s z
  let set := joinSources a r.sources
  match r.state with
  | .isolated => setZone z { r with sources := set, held := true } s
  | .confirmed | .active | .secondary => setZone z { r with sources := set } s
  | .normal =>
    if a.cls = .confirming ∨ (zoneEntry s z).threshold ≤ set.length then confirmZone z a set s
    else raise .zonePrealarm z a.address (setZone z { r with state := .prealarm, sources := set } s)
  | .prealarm =>
    let isNew := a.address ∉ r.sources.map (fun x => x.address)
    if a.cls = .confirming ∨ (isNew ∧ (zoneEntry s z).threshold ≤ set.length) then confirmZone z a set s
    else setZone z { r with sources := set } s

/-- R4: a ZONE_EVENT that reaches Zone Intake. -/
def zoneEventTaken (z source cls : Nat) (s : State) : State :=
  match sourceClassOf cls with
  | some c =>
    if s.mode ≠ .start ∧ inService s.tables z ∧ 1 ≤ source ∧ source ≤ 4095 then
      alarmArrival z { address := source, cls := c } s
    else unmapped z source s
  | none => unmapped z source s

/-- R9: a ZONE_RESET that reaches Zone Intake. -/
def zoneResetTaken (z : Nat) (s : State) : State :=
  let r := zoneRec s z
  if s.mode = .start ∨ z < 1 ∨ 32 < z then unmapped z 0 s
  else if r.state = .isolated then
    raise .zoneReset z (zoneStateCode r.state) (setZone z { r with sources := [], held := false } s)
  else
    let t := raise .zoneReset z (zoneStateCode r.state) (setZone z coldZone s)
    if isConfirmed r.state then tellReset z t else t

/-- R10: the Selector asks for a zone to be made ACTIVE or SECONDARY. The answer says whether the request was taken. -/
def zoneRequest (z : Nat) (want : ZoneState) (ev : Ev) (detail : Nat) (s : State) : State × Bool :=
  let r := zoneRec s z
  if !isConfirmed r.state then (s, false)
  else if r.state = want then (s, true)
  else (raise ev z detail (setZone z { r with state := want } s), true)

/-- R12: ZONE_ISOLATE on for a zone that passed R11. -/
def isolateZone (z : Nat) (s : State) : State × Result :=
  let r := zoneRec s z
  match r.state with
  | .normal | .prealarm =>
    (raise .zoneIsolated z r.sources.length
      (setZone z { r with state := .isolated, sources := [], held := false } s), .ok)
  | .confirmed | .active | .secondary => (s, .zoneBusy)
  | .isolated => (s, .ok)

/-- R14: ZONE_ISOLATE off for a zone that passed R11. -/
def deisolateZone (z : Nat) (s : State) : State :=
  let r := zoneRec s z
  let n := r.sources.length
  if r.state ≠ .isolated then s
  else if r.sources.any (fun a => a.cls == .confirming) || decide ((zoneEntry s z).threshold ≤ n) then
    tellConfirmed z (raise .heldPresented z n (raise .zoneDeisolated z n
      (setZone z
        { r with state := .confirmed, confirmation := some { reason := .held, stamp := s.uptime }, held := false } s)))
  else if n ≠ 0 then
    raise .zonePrealarm z 0 (raise .zoneDeisolated z n (setZone z { r with state := .prealarm, held := false } s))
  else raise .zoneDeisolated z n (setZone z { r with state := .normal, held := false } s)

/-- R16: this zone is confirmed by the re-evaluation. -/
def reconfirmed (s : State) (z : Nat) : Bool :=
  inService s.tables z && (zoneRec s z).state == .prealarm
    && decide ((zoneEntry s z).threshold ≤ (zoneRec s z).sources.length)

/-- R16: one zone at the entry to NORMAL, with its event. -/
def reevaluateZone (z : Nat) (s : State) : State :=
  let r := zoneRec s z
  if !inService s.tables z then
    if r.state = .normal then s else raise .zoneReset z (zoneStateCode r.state) (setZone z coldZone s)
  else if reconfirmed s z then
    raise .zoneConfirmed z 0
      (setZone z { r with state := .confirmed, confirmation := some { reason := .coincidence, stamp := s.uptime } } s)
  else s

/-- The zone numbers. -/
def zoneNumbers : List Nat := (List.range 32).map (fun k => k + 1)

/-- R16, R17: every zone is re-evaluated, and the Selector is told of the confirmations after the events of all of them. R16
names no order among the zones, and so none for their events. DESIGN CHOICE, log entry 54: ascending zone number. -/
def reevaluateZones (s : State) : State :=
  (zoneNumbers.filter (reconfirmed s)).foldl (fun t z => tellConfirmed z t)
    (zoneNumbers.foldl (fun t z => reevaluateZone z t) s)

/-- A zone that waits for the Selector (R143, R144). -/
def isWaiting (z : ZoneState) : Bool := z == .confirmed || z == .secondary

/-- Is a zone CONFIRMED or SECONDARY? -/
def someZoneWaits (s : State) : Bool := zoneNumbers.any (fun z => isWaiting (zoneRec s z).state)

end Sys2Proof.Machine
end

