-- ==== Sys2Proof/Machine/Selector.lean ====
section
/-! DEFINITION. The Scenario Selector (chapter 2): the placement decision. -/

namespace Sys2Proof.Machine

/-- R22: the joint entry of a pair of zones. -/
def jointEntry (t : Tables) (x y : Nat) : Option JointEntry :=
  (t.joints.map (fun p => p.2)).find? (fun e =>
    e.zoneA != 0 && ((e.zoneA == x && e.zoneB == y) || (e.zoneA == y && e.zoneB == x)))

/-- R21: the waiting order. -/
def waitingBefore (s : State) (x y : Nat) : Bool :=
  let px := (zoneEntry s x).priority
  let py := (zoneEntry s y).priority
  let stamp (z : Nat) : Nat := match (zoneRec s z).confirmation with
    | some c => c.stamp
    | none => 0
  decide (px < py) || (px == py && (decide (stamp x < stamp y) || (stamp x == stamp y && decide (x < y))))

/-- R23, R24: the kept set, in served order. `made` are the zones that this decision has made ACTIVE before a repeat,
which the repeat treats as waiting. -/
def keptSet (s : State) (made : List Nat) : List Nat :=
  s.run.served.filter (fun z => (zoneRec s z).state == .active && !made.contains z)

/-- R23, R24: the waiting set in waiting order. -/
def waitingSet (s : State) (made : List Nat) : List Nat :=
  sortBy (waitingBefore s) (zoneNumbers.filter (fun z =>
    isWaiting (zoneRec s z).state || (made.contains z && (zoneRec s z).state == .active)))

/-- R23: a zone served with the first zone of the waiting set that is joint with it, or alone. -/
def serveWith (s : State) (p : Nat) (waiting : List Nat) : List Nat × Nat :=
  match (waiting.filter (fun z => z != p)).findSome? (jointEntry s.tables p) with
  | some e => ([e.zoneA, e.zoneB], e.scenario)
  | none => ([p], (zoneEntry s p).scenario)

/-- R23: the new served zones and the scenario for them. -/
def newServed (s : State) (made waiting : List Nat) : List Nat × Nat :=
  match keptSet s made with
  | [] =>
    match waiting with
    | c :: _ => serveWith s c waiting
    | [] => ([], 0)
  | [p] => serveWith s p waiting
  | kept => (kept, s.run.scenario)

/-- A decision under way: the arrivals that Zone Intake takes during it, the zones it has made ACTIVE, and the state. -/
structure Placing where
  during : List (List IntakeArrival)
  made : List Nat
  state : State
deriving DecidableEq, Repr

/-- R20: Zone Intake takes an arrival during a decision. -/
def takeIntake (a : IntakeArrival) (s : State) : State :=
  match a with
  | .event z source cls => zoneEventTaken z source cls s
  | .reset z => zoneResetTaken z s

/-- R20: Zone Intake takes the next group of arrivals. -/
def takeGroup (p : Placing) : Placing :=
  match p.during with
  | [] => p
  | g :: rest => { p with during := rest, state := g.foldl (fun t a => takeIntake a t) p.state }

/-- R20: Zone Intake takes the arrivals that are left. -/
def takeLeft (p : Placing) : Placing :=
  { p with during := [], state := p.during.flatten.foldl (fun t a => takeIntake a t) p.state }

/-- R24, step 1: the zones are asked to become ACTIVE until one request is refused. -/
def askActive (scenario : Nat) : List Nat → Placing → Placing × Bool
  | [], p => (p, true)
  | z :: zs, p =>
    let q := takeGroup p
    match zoneRequest z .active .zoneActive scenario q.state with
    | (t, true) => askActive scenario zs { q with made := q.made ++ [z], state := t }
    | (t, false) => ({ q with state := t }, false)

/-- R24, step 2: the zones are asked to become SECONDARY. A refusal is passed over. -/
def askSecondary : List Nat → Placing → Placing
  | [], p => p
  | z :: zs, p =>
    let q := takeGroup p
    askSecondary zs { q with state := (zoneRequest z .secondary .zoneSecondary 0 q.state).1 }

/-- R25: at most one instruction to the Runner. -/
def instruct (served : List Nat) (scenario : Nat) (s : State) : State :=
  if !fireMode s then (if served.isEmpty then s else instructLoad scenario served s)
  else if served.isEmpty then instructEnd s
  else if served = s.run.served ∧ scenario = s.run.scenario then s
  else instructSwitch scenario served s

/-- R23 to R25: a placement decision, taken again after a refused ACTIVE request, at most `n` times. -/
def decisionTimes : Nat → Placing → Placing
  | 0, p => p
  | n + 1, p =>
    let s := p.state
    let waiting := waitingSet s p.made
    let target := newServed s p.made waiting
    match askActive target.2 (target.1.filter (fun z => (zoneRec s z).state != .active)) p with
    | (q, false) => decisionTimes n (takeGroup q)
    | (q, true) =>
      let u := takeLeft (askSecondary
        (waiting.filter (fun z => (zoneRec s z).state != .secondary && !target.1.contains z)) q)
      { u with state := instruct target.1 target.2 u.state }

/-- R23: one placement decision. A repeat follows a refusal, and each refusal answers a reset taken during the decision
(R24), so there are no more repeats than arrivals. -/
def placementDecision (during : List (List IntakeArrival)) (s : State) : State :=
  (decisionTimes (during.flatten.length + 1) { during := during, made := [], state := s }).state

end Sys2Proof.Machine
end

