-- ==== Sys2Proof/Machine/Firefighter.lean ====
section
/-! DEFINITION. The Firefighter Control Unit (chapter 7). -/

namespace Sys2Proof.Machine

def zoneSwitch (s : State) (z : Nat) : ZoneSwitch := sget .auto s.ff.zoneSwitches z

def outputSwitch (s : State) (o : Nat) : OutputSwitch := sget .auto s.ff.outputSwitches o

/-- R118, 1: what an output switch gives. -/
def switchCommand : OutputSwitch → Option Cmd
  | .auto => none
  | .opn => some .opn
  | .cls => some .cls
  | .off => some .stop
  | .low => some .low
  | .on => some .high

/-- R118, 3: what the switch of an output's zone gives. -/
def zoneCommand (e : OutputEntry) : ZoneSwitch → Option Cmd
  | .auto => none
  | .extract =>
    if isFan e then (if e.role == 1 then some .high else none)
    else if e.role == 1 || e.role == 2 then some .opn
    else none
  | .off => if isFan e then some .stop else none

/-- R118: the FF entry of a configured output, composed from the image. -/
def composeFf (s : State) (o : Nat) : Option Cmd :=
  let e := outEntry s o
  if outputSwitch s o ≠ .auto then switchCommand (outputSwitch s o)
  else if isFan e && s.ff.marks.contains o then some .stop
  else if e.zone = 0 then none
  else zoneCommand e (zoneSwitch s e.zone)

/-- R119: the composed FF entries that differ from those in force are handed to the Resolver as one change, the outputs in
ascending number (log entry 52). -/
def handFf (s : State) : State :=
  changeLayers (fun o r => { r with ff := composeFf s o })
    ((configured s).filter (fun o => composeFf s o != (outRec s o).ff)) s

/-- R123: an FF_STATE from the firefighter panel's station counts for supervision. -/
def superviseFrame (s : State) : State :=
  let t := setFf (fun f =>
    { f with
      panel := .present, lostStamp := none, timer := some s.tables.link.supervision,
      supervision := s.tables.link.supervision }) s
  match s.ff.panel with
  | .unknown => raise .ffRestored 0 0 t
  | .present => t
  | .lost => raise .ffRestored 0 (capWord (secondsSince s (s.ff.lostStamp.getD s.uptime))) t

/-- R120, R122: the ALL-STOP position of a frame. Tables in force that have failed validation may configure more than 32 fans.
DESIGN CHOICE, log entry 64: every one of them is marked. -/
def takeAllStop (active : Bool) (s : State) : State :=
  if active = s.ff.allStop then s
  else if active then
    raise .ffAllstopOn 0 (fans s).length (setFf (fun f => { f with allStop := true, marks := fans s }) s)
  else raise .ffAllstopOff 0 s.ff.marks.length (setFf (fun f => { f with allStop := false, marks := [] }) s)

/-- R117, R125: a switch position fits an output's kind. -/
def fitsSwitch (e : OutputEntry) : OutputSwitch → Bool
  | .auto => isConfigured e
  | .opn | .cls => isDamper e
  | .off | .low | .on => isFan e

/-- R117, R121: a zone switch entry that passes the checks. -/
def takeZoneSwitch (z : Nat) (p : ZoneSwitch) (s : State) : State :=
  if zoneSwitch s z = p then s
  else setFf (fun f =>
    { f with
      zoneSwitches := sput .auto z p f.zoneSwitches
      marks := f.marks.filter (fun o => (outEntry s o).zone != z) }) s

/-- R117, R121: an output switch entry that passes the checks. Only fans carry marks. -/
def takeOutputSwitch (o : Nat) (p : OutputSwitch) (s : State) : State :=
  if outputSwitch s o = p then s
  else setFf (fun f =>
    { f with
      outputSwitches := sput .auto o p f.outputSwitches
      marks := f.marks.filter (fun x => x != o) }) s

/-- R117: a switch entry. -/
def takeSwitch (type number position : Nat) (s : State) : State :=
  if type = 1 then
    match zoneSwitchOf position with
    | some p => if 1 ≤ number ∧ number ≤ 32 then takeZoneSwitch number p s else unmapped number position s
    | none => unmapped number position s
  else if type = 2 then
    match outputSwitchOf position with
    | some p =>
      if fitsSwitch (outEntry s number) p && decide (1 ≤ number) && decide (number ≤ 160) then
        takeOutputSwitch number p s
      else unmapped number position s
    | none => unmapped number position s
  else unmapped number position s

/-- R116: the switch entries of a frame, in their order. -/
def takeSwitches : List Byte → State → State
  | a :: b :: c :: rest, s => takeSwitches rest (takeSwitch a.toNat b.toNat c.toNat s)
  | _, s => s

/-- R116: the content of an FF_STATE. -/
def takeFfContent (payload : List Byte) (s : State) : State :=
  match payload with
  | [] => unmapped 0 0 s
  | a :: entries =>
    if s.mode = .start ∨ entries.length % 3 ≠ 0 ∨ 1 < a.toNat then unmapped 0 0 s
    else handFf (takeSwitches entries (takeAllStop (a.toNat == 1) s))

/-- R116, R123: an FF_STATE that reaches the unit. R116 has the firefighter panel's count for supervision and the commissioning
station's not, and R150 lets one station have both roles. DESIGN CHOICE, log entry 83: that station's counts. -/
def ffStateTaken (src : Nat) (payload : List Byte) (s : State) : State :=
  takeFfContent payload (if src = s.tables.link.ffPanel then superviseFrame s else s)

/-- R124: the supervision timer has expired. The supervision time in force is the one it was started at (R123). -/
def panelLost (s : State) : State :=
  raise .ffLost 0 s.ff.supervision
    (setFf (fun f => { f with panel := .lost, lostStamp := some s.uptime, timer := none }) s)

/-- R125: the image and the marks are brought into line with a written output entry, and the output's FF entry is
composed. -/
def ffEntryWritten (o : Nat) (s : State) : State :=
  let e := outEntry s o
  handFf (setFf (fun f =>
    { f with
      outputSwitches :=
        if fitsSwitch e (outputSwitch s o) then f.outputSwitches else sput .auto o .auto f.outputSwitches
      marks := if isFan e then f.marks else f.marks.filter (fun x => x != o) }) s)

end Sys2Proof.Machine
end

