-- ==== Sys2Proof/Machine/Tables.lean ====
section
/-! DEFINITION. Table Store: entry layouts (12.6), field ranges (R173) and validation (R100, R175). -/

namespace Sys2Proof.Machine

/-! ### Entries as fields and as bytes -/

/-- 11.3: the first index of a table. -/
def firstIndex : TableId → Nat
  | .step => 0
  | _ => 1

/-- 11.3: the last index of a table. -/
def lastIndex : TableId → Nat
  | .output => 160 | .zone => 32 | .scenario => 48 | .joint => 16 | .step => 1023 | .board => 8 | .window => 8
  | .link => 1

/-- 12.6: the bytes of each field of an entry, in order. -/
def fieldWidths : TableId → List Nat
  | .output => [1, 1, 1, 1, 1, 1, 1, 2, 1, 2, 2, 2, 2, 2, 1, 1, 1, 1, 1, 1, 1]
  | .zone => List.replicate 16 1
  | .scenario => [2, 1, 2, 2, 2]
  | .joint => [1, 1, 1]
  | .step => [1, 1, 1, 1]
  | .board => [2, 2, 1, 2]
  | .window => [1, 1, 1, 1, 1]
  | .link => [1, 1, 1, 1, 1, 1, 1, 1, 1, 1, 1, 1, 1, 2, 1]

def outputFields (e : OutputEntry) : List Nat :=
  [e.kind, e.module, e.channel, e.zone, e.role, e.safeDefault, e.tMain, e.tDown, e.board, e.startLoad, e.runLow,
    e.runHigh, e.stepLoad, e.extractHigh, e.low16, e.standby] ++ e.path ++ [e.interlock]

def outputOfFields (f : List Nat) : OutputEntry :=
  let g (k : Nat) : Nat := f.getD k 0
  { kind := g 0, module := g 1, channel := g 2, zone := g 3, role := g 4, safeDefault := g 5, tMain := g 6,
    tDown := g 7, board := g 8, startLoad := g 9, runLow := g 10, runHigh := g 11, stepLoad := g 12,
    extractHigh := g 13, low16 := g 14, standby := g 15, path := [g 16, g 17, g 18, g 19], interlock := g 20 }

def zoneFields (e : ZoneEntry) : List Nat :=
  [e.enabled, e.priority, e.threshold, e.scenario] ++ e.extract ++ e.reserve

def zoneOfFields (f : List Nat) : ZoneEntry :=
  let g (k : Nat) : Nat := f.getD k 0
  { enabled := g 0, priority := g 1, threshold := g 2, scenario := g 3,
    extract := [g 4, g 5, g 6, g 7, g 8, g 9, g 10, g 11], reserve := [g 12, g 13, g 14, g 15] }

def scenarioFields (e : ScenarioEntry) : List Nat :=
  [e.firstStep, e.stepCount, e.establish, e.requirement1, e.requirement2]

def scenarioOfFields (f : List Nat) : ScenarioEntry :=
  { firstStep := f.getD 0 0, stepCount := f.getD 1 0, establish := f.getD 2 0, requirement1 := f.getD 3 0,
    requirement2 := f.getD 4 0 }

def jointFields (e : JointEntry) : List Nat := [e.zoneA, e.zoneB, e.scenario]

def jointOfFields (f : List Nat) : JointEntry := { zoneA := f.getD 0 0, zoneB := f.getD 1 0, scenario := f.getD 2 0 }

def stepFields (e : StepEntry) : List Nat := [e.output, e.target, e.gate, e.delay]

def stepOfFields (f : List Nat) : StepEntry :=
  { output := f.getD 0 0, target := f.getD 1 0, gate := f.getD 2 0, delay := f.getD 3 0 }

def boardFields (e : BoardEntry) : List Nat := [e.capMains, e.capStandby, e.startLimit, e.holdWarn]

def boardOfFields (f : List Nat) : BoardEntry :=
  { capMains := f.getD 0 0, capStandby := f.getD 1 0, startLimit := f.getD 2 0, holdWarn := f.getD 3 0 }

def windowFields (e : WindowEntry) : List Nat := [e.panelBase, e.count, e.plantBase, e.permission, e.fireBlock]

def windowOfFields (f : List Nat) : WindowEntry :=
  { panelBase := f.getD 0 0, count := f.getD 1 0, plantBase := f.getD 2 0, permission := f.getD 3 0,
    fireBlock := f.getD 4 0 }

def linkFields (e : LinkRecord) : List Nat :=
  [e.own, e.firePanel, e.ffPanel, e.building, e.commissioning, e.plantMaster, e.pacer, e.fastPerSlow, e.burstLimit,
    e.replyWindow, e.retryLimit, e.busyLimit, e.forwardWait, e.holdLimit, e.supervision]

def linkOfFields (f : List Nat) : LinkRecord :=
  let g (k : Nat) : Nat := f.getD k 0
  { own := g 0, firePanel := g 1, ffPanel := g 2, building := g 3, commissioning := g 4, plantMaster := g 5,
    pacer := g 6, fastPerSlow := g 7, burstLimit := g 8, replyWindow := g 9, retryLimit := g 10, busyLimit := g 11,
    forwardWait := g 12, holdLimit := g 13, supervision := g 14 }

/-- The fields of an entry as the tables hold it. -/
def entryFields (t : Tables) (r : EntryRef) : List Nat :=
  match r.table with
  | .output => outputFields (outputOf t r.index)
  | .zone => zoneFields (zoneOf t r.index)
  | .scenario => scenarioFields (scenarioOf t r.index)
  | .joint => jointFields (jointOf t r.index)
  | .step => stepFields (stepOf t r.index)
  | .board => boardFields (boardOf t r.index)
  | .window => windowFields (windowOf t r.index)
  | .link => linkFields t.link

/-- The tables with one entry replaced. -/
def putEntry (r : EntryRef) (f : List Nat) (t : Tables) : Tables :=
  match r.table with
  | .output => { t with outputs := sput blankOutput r.index (outputOfFields f) t.outputs }
  | .zone => { t with zones := sput blankZone r.index (zoneOfFields f) t.zones }
  | .scenario => { t with scenarios := sput blankScenario r.index (scenarioOfFields f) t.scenarios }
  | .joint => { t with joints := sput blankJoint r.index (jointOfFields f) t.joints }
  | .step => { t with steps := sput blankStep r.index (stepOfFields f) t.steps }
  | .board => { t with boards := sput blankBoard r.index (boardOfFields f) t.boards }
  | .window => { t with windows := sput blankWindow r.index (windowOfFields f) t.windows }
  | .link => { t with link := linkOfFields f }

/-- R176: the tables with one entry blank. -/
def blankEntry (r : EntryRef) (t : Tables) : Tables := putEntry r (entryFields blankTables r) t

/-- 12.6: the bytes of fields. -/
def fieldBytes : List Nat → List Nat → List Byte
  | w :: ws, f :: fs => bytesBE w f ++ fieldBytes ws fs
  | _, _ => []

/-- 12.6: the fields that bytes spell, where their length fits. -/
def readFields : List Nat → List Byte → Option (List Nat)
  | [], [] => some []
  | [], _ => none
  | w :: ws, bs =>
    if bs.length < w then none else (readFields ws (bs.drop w)).map (fun fs => numBE (bs.take w) :: fs)

/-! ### Ranges (R34, R35, R84, R128, R156; 1.1, 4.1) -/

/-- The ranges of each field, each a list of inclusive intervals. A field whose set depends on another field has the
union here: the agreement of fields is validation's (R173, R175). -/
def fieldRanges : TableId → List (List (Nat × Nat))
  | .output =>
    [[(0, 3)], [(1, 100)], [(1, 4)], [(0, 32)], [(1, 3)], [(0, 5)], [(5, 120)], [(0, 0), (5, 300)], [(0, 8)],
      [(0, 4000)], [(0, 4000)], [(0, 4000)], [(0, 4000)], [(0, 600)], [(0, 16)], [(0, 160)], [(0, 160)], [(0, 160)],
      [(0, 160)], [(0, 160)], [(0, 1)]]
  | .zone => [[(0, 1)], [(0, 7)], [(1, 4)], [(1, 48)]] ++ List.replicate 12 [(0, 160)]
  | .scenario => [[(0, 1023)], [(1, 48)], [(10, 900)], [(0, 20000)], [(0, 20000)]]
  | .joint => [[(0, 32)], [(0, 32)], [(1, 48)]]
  | .step => [[(1, 160)], [(1, 5)], [(0, 2)], [(1, 255)]]
  | .board => [[(0, 20000)], [(0, 20000)], [(1, 4)], [(10, 600)]]
  | .window => [[(1, 254)], [(0, 100)], [(1, 100)], [(0, 1)], [(0, 1)]]
  | .link =>
    [[(1, 254)], [(1, 254)], [(1, 254)], [(1, 254)], [(1, 254)], [(101, 254)], [(5, 255)], [(1, 8)], [(1, 16)],
      [(10, 255)], [(0, 3)], [(1, 255)], [(1, 255)], [(10, 3600)], [(2, 60)]]

def inIntervals (is : List (Nat × Nat)) (n : Nat) : Bool := is.any (fun p => decide (p.1 ≤ n) && decide (n ≤ p.2))

def allInRange : List (List (Nat × Nat)) → List Nat → Bool
  | r :: rs, f :: fs => inIntervals r f && allInRange rs fs
  | [], [] => true
  | _, _ => false

/-- R173, check 6: every field lies in its own range or set of values. -/
def fieldsInRange (t : TableId) (f : List Nat) : Bool := allInRange (fieldRanges t) f

/-- The fans of the tables, in ascending number. -/
def tableFans (t : Tables) : List Nat := (configuredOutputs t).filter (fun o => isFan (outputOf t o))

/-- R173, check 7: at most 16 fans name this board, and at most 32 outputs are fans. Check 6 lets a fan name board 0, which is
no board. DESIGN CHOICE, log entry 68: the fans of board 0 are counted against the 16 as well. -/
def fanCountsOk (t : Tables) (board : Nat) : Bool :=
  decide (((tableFans t).filter (fun o => (outputOf t o).board == board)).length ≤ 16)
    && decide ((tableFans t).length ≤ 32)

/-! ### Validation (R175) -/

/-- The numbers `lo` to `hi`. -/
def upTo (lo hi : Nat) : List Nat := (List.range (hi + 1 - lo)).map (fun k => lo + k)

/-- R175, 1. -/
def linkOk (l : LinkRecord) : Bool :=
  fieldsInRange .link (linkFields l)
    && [l.firePanel, l.ffPanel, l.building, l.commissioning].all (fun a => a != l.own)

/-- 4.1: the safe_default fits the kind. -/
def safeFits (e : OutputEntry) : Bool :=
  e.safeDefault == 0
    || (isDamper e && (e.safeDefault == 1 || e.safeDefault == 2))
    || (isFan e && (e.safeDefault == 3 || e.safeDefault == 5))
    || (isFanTwo e && e.safeDefault == 4)

/-- R100: the load inequalities of a fan against its board. -/
def loadsOk (e : OutputEntry) (b : BoardEntry) : Bool :=
  decide (e.runHigh ≤ e.startLoad) && decide (e.startLoad ≤ b.capStandby) && decide (e.startLoad ≤ b.capMains)
    && (!isFanTwo e
      || (decide (e.runLow ≤ e.runHigh) && decide (e.runHigh ≤ e.runLow + e.stepLoad)
        && decide (e.runLow + e.stepLoad ≤ b.capStandby) && decide (e.runLow + e.stepLoad ≤ b.capMains)))

/-- R175, 2: a non-zero standby. -/
def standbyOk (t : Tables) (o : Nat) (e : OutputEntry) : Bool :=
  let sb := outputOf t e.standby
  e.standby == 0
    || (e.standby != o && isFan sb && sb.standby == 0
      && (tableFans t).all (fun x => x == o || (outputOf t x).standby != e.standby)
      && (upTo 1 32).all (fun z => !(zoneOf t z).extract.contains e.standby && !(zoneOf t z).reserve.contains e.standby))

/-- R175, 2: a configured output. -/
def outputOk (t : Tables) (o : Nat) : Bool :=
  let e := outputOf t o
  fieldsInRange .output (outputFields e) && safeFits e
    && (configuredOutputs t).all (fun x =>
      x == o || (outputOf t x).module != e.module || (outputOf t x).channel != e.channel)
    && (listed e.path).all (fun d => isDamper (outputOf t d))
    && standbyOk t o e
    && (if isDamper e then e.tDown == 0 && e.board == 0 && e.standby == 0 && (listed e.path).isEmpty
        else e.role != 2 && decide (5 ≤ e.tDown) && decide (1 ≤ e.board) && loadsOk e (boardOf t e.board))

/-- R175, 3: a fan beyond the limit of its board or of the table. -/
def fanBeyond (t : Tables) (o : Nat) : Bool :=
  let earlier := (tableFans t).filter (fun x => decide (x ≤ o))
  decide (16 < (earlier.filter (fun x => (outputOf t x).board == (outputOf t o).board)).length)
    || decide (32 < earlier.length)

/-- R175, 6: a target fits the kind of its output. -/
def targetFits (e : OutputEntry) (target : Nat) : Bool :=
  (isDamper e && (target == 1 || target == 2)) || (isFan e && (target == 3 || target == 5))
    || (isFanTwo e && target == 4)

/-- R175, 6: a step of a scenario that is named. -/
def stepOk (t : Tables) (i : Nat) : Bool :=
  let st := stepOf t i
  targetFits (outputOf t st.output) st.target
    && (st.gate != 2 || (decide (1 ≤ st.delay) && decide (st.delay ≤ 255)))

/-- R175, 6: the entry of a scenario. -/
def scenarioEntryOk (t : Tables) (n : Nat) : Bool :=
  let e := scenarioOf t n
  fieldsInRange .scenario (scenarioFields e) && decide (e.firstStep + e.stepCount ≤ 1024)

/-- R175, 6, R31: the entry of a scenario and its steps. -/
def scenarioOk (t : Tables) (n : Nat) : Bool := scenarioEntryOk t n && (scenarioSteps t n).all (stepOk t)

/-- R175, 6: an enabled zone or a used joint entry names the scenario. -/
def scenarioNamed (t : Tables) (n : Nat) : Bool :=
  (enabledZones t).any (fun z => (zoneOf t z).scenario == n)
    || t.joints.any (fun p => p.2.zoneA != 0 && p.2.scenario == n)

/-- R175, 5: an enabled zone. A zone whose scenario fails on its steps fails item 5, while the rule's opening reports steps
against the scenario. DESIGN CHOICE, log entry 69: the zone, which comes first, is the failing entry. -/
def zoneOk (t : Tables) (z : Nat) : Bool :=
  let e := zoneOf t z
  let extract := listed e.extract
  let reserve := listed e.reserve
  fieldsInRange .zone (zoneFields e)
    && (extract ++ reserve).all (fun f => isFan (outputOf t f))
    && decide (extract ++ reserve).Nodup
    && (enabledZones t).all (fun x => x == z || extract.all (fun f => !(zoneOf t x).extract.contains f))
    && (enabledZones t).all (fun x => reserve.all (fun f => !(zoneOf t x).extract.contains f))
    && reserve.all (fun f => (outputOf t f).standby == 0)
    && scenarioOk t e.scenario

/-- R175, 7: two joint entries name the same pair. -/
def samePair (a b : JointEntry) : Bool :=
  (a.zoneA == b.zoneA && a.zoneB == b.zoneB) || (a.zoneA == b.zoneB && a.zoneB == b.zoneA)

/-- R175, 7: a used joint entry. -/
def jointOk (t : Tables) (n : Nat) : Bool :=
  let e := jointOf t n
  e.zoneA != e.zoneB && inService t e.zoneA && inService t e.zoneB
    && (upTo 1 (n - 1)).all (fun k => (jointOf t k).zoneA == 0 || !samePair (jointOf t k) e)
    && decide (1 ≤ e.scenario) && decide (e.scenario ≤ 48) && scenarioOk t e.scenario

/-- R156: a used window covers a panel-side station. -/
def covers (w : WindowEntry) (d : Nat) : Bool :=
  w.count != 0 && decide (w.panelBase ≤ d) && decide (d < w.panelBase + w.count)

/-- R175, 8: a used window. -/
def windowOk (t : Tables) (n : Nat) : Bool :=
  let w := windowOf t n
  decide (w.panelBase + w.count ≤ 255) && decide (w.plantBase + w.count ≤ 101)
    && (upTo 1 (n - 1)).all (fun k =>
      (upTo w.panelBase (w.panelBase + w.count - 1)).all (fun d => !covers (windowOf t k) d))

/-- The first index of a table that was noted at the read (R176, 4) or that fails its check. -/
def firstFailing (bad : List EntryRef) (tab : TableId) (ok : Nat → Bool) : Option EntryRef :=
  ((upTo (firstIndex tab) (lastIndex tab)).find? (fun i =>
    bad.contains { table := tab, index := i } || !ok i)).map (fun i => { table := tab, index := i })

/-- R175: validation. `bad` are the entries whose integrity check failed at the read; a step entry's place is beside the
scenarios (log entry 14). The answer is the first failing table and index: the zone where its scenario's steps fail (log
entry 69). -/
def validate (t : Tables) (bad : List EntryRef) : Option EntryRef :=
  (firstFailing bad .link (fun _ => linkOk t.link))
    <|> (firstFailing bad .output (fun o => !isConfigured (outputOf t o) || outputOk t o))
    <|> (((tableFans t).find? (fanBeyond t)).map (fun o => { table := .output, index := o }))
    <|> (firstFailing bad .board (fun b => fieldsInRange .board (boardFields (boardOf t b))))
    <|> (firstFailing bad .zone (fun z => (zoneOf t z).enabled != 1 || zoneOk t z))
    <|> (firstFailing bad .scenario (fun n =>
      scenarioEntryOk t n && (!scenarioNamed t n || scenarioOk t n)))
    <|> (firstFailing bad .step (fun _ => true))
    <|> (firstFailing bad .joint (fun n => (jointOf t n).zoneA == 0 || jointOk t n))
    <|> (firstFailing bad .window (fun n => (windowOf t n).count == 0 || windowOk t n))

end Sys2Proof.Machine
end

