-- ==== Sys2Proof/Machine/Start.lean ====
section
/-! DEFINITION. Starts and modes (chapter 11): the start sequence, table writes taking effect, validation's outcome. -/

namespace Sys2Proof.Machine

/-- R169: a change of mode with its event. -/
def changeMode (m : Mode) (s : State) : State :=
  raise .modeChange 0 (modeCode s.mode * 256 + modeCode m) { s with mode := m }

/-- R174: a non-volatile write that a start or a loss of power cuts off. The stored entry is as it was or as written, a
free value (log entry 5). -/
def interruptWrite (s : State) : State :=
  match s.nvWrite with
  | none => s
  | some w =>
    useFree { s with
      nvWrite := none
      nv := if Config.interruptedWriteStored s.free then putEntry w.ref w.fields s.nv else s.nv }

/-- R176, 1: START mode, and every block at the values its own rules give for a start. The output records and the
supervision timer follow the tables once they are read. R172 gives the index cursor no value while no table is selected.
DESIGN CHOICE, log entry 1: 0. -/
def startBlocks (s : State) : State :=
  { s with
    mode := .start, window := { selected := none, cursor := 0 }, validating := none, restartDue := false,
    zones := [], run := coldRun, watches := [], outs := [], queue := [], boards := [],
    ff := coldFf s.tables.link.supervision, plant := coldPlant, panel := coldPanel, selector := [], entryIntake := [],
    runnerIn := [], monitorIn := [] }

/-- R161, R163, R177: what a cold start resets besides. R169 gives the failing table and index no value before the first
validation. DESIGN CHOICE, log entry 79: none. -/
def coldBlocks (s : State) : State := { startBlocks s with uptime := 0, capture := coldCapture, failing := none }

/-- R58: the output records after a start. An unlisted record is that of a damper. -/
def coldOuts (t : Tables) : Sparse OutRec :=
  (tableFans t).map (fun o => (o, coldOutFor (outputOf t o)))

/-- R176, 3: every table entry is read. An entry whose integrity check fails is read as its blank entry. -/
def readTables (bad : List EntryRef) (s : State) : State :=
  let t := bad.foldl (fun t r => blankEntry r t) s.nv
  { s with tables := t, outs := coldOuts t, ff := coldFf t.link.supervision }

/-- R175, R176: a validation that has failed. -/
def configInvalid (r : EntryRef) (s : State) : State :=
  raise .configInvalid (tableCode r.table) r.index { s with failing := some r }

/-- R176, 3 to 5: the read, the validation and the way out of START. -/
def leaveStart (bad : List EntryRef) (s : State) : State :=
  let t := readTables bad s
  match validate t.tables bad with
  | some r => startPacer (buildSlowRing (changeMode .service (configInvalid r t)))
  | none => placementDecision [] (startPacer (buildSlowRing (changeMode .normal { t with failing := none })))

/-- R176: a cold start. -/
def coldStart (bad : List EntryRef) (s : State) : State := leaveStart bad (coldBlocks (interruptWrite s))

/-- R168, R176: a warm start. -/
def warmStart (cause : RestartCause) (bad : List EntryRef) (s : State) : State :=
  leaveStart bad (raise .restart 0 (restartCode cause) (startBlocks (interruptWrite s)))

/-- R174: a written entry comes into force, and the blocks that own state built from it are told. R125 puts the firefighter
unit's part after R81's rebuild and does not name R99's examinations. DESIGN CHOICE, log entry 65: it follows them too. -/
def bringIntoForce (w : NvWrite) (s : State) : State :=
  let t := { s with nv := putEntry w.ref w.fields s.nv }
  match w.ref.table with
  | .output => ffEntryWritten w.ref.index (outputWritten w.ref.index (outputOfFields w.fields) t)
  | .board => boardWritten w.ref.index { t with tables := putEntry w.ref w.fields t.tables }
  | _ => { t with tables := putEntry w.ref w.fields t.tables }

/-- R171: validation has passed, steps 1 to 4. -/
def enterNormalMode (during : List (List IntakeArrival)) (s : State) : State :=
  let t := changeMode .normal (buildSlowRing (reevaluateZones { s with failing := none }))
  placementDecision during (drain (if someZoneWaits t then revokeHold t else t))

end Sys2Proof.Machine
end

