-- ==== Sys2Proof/Machine/Panel.lean ====
section
/-! DEFINITION. The Panel Link Interface and the Forwarding Map (chapter 9): sorting, permissions, answers, forwarding,
and the frames that are acted on as they arrive. -/

namespace Sys2Proof.Machine

/-! ### Who may send what (R150) -/

def isFirePanel (l : LinkRecord) (src : Nat) : Bool := src == l.firePanel
def isFfPanel (l : LinkRecord) (src : Nat) : Bool := src == l.ffPanel
def isBuilding (l : LinkRecord) (src : Nat) : Bool := src == l.building
def isCommissioning (l : LinkRecord) (src : Nat) : Bool := src == l.commissioning

/-- R150: the station holds one of the four roles. -/
def hasRole (l : LinkRecord) (src : Nat) : Bool :=
  isFirePanel l src || isFfPanel l src || isBuilding l src || isCommissioning l src

/-- R150: the kinds acted on as they arrive. -/
def arrivalKinds : List Nat := [kZoneEvent, kZoneReset, kSupplyState, kFfState, kBldCmd]

/-- R150: the request kinds. -/
def requestKinds : List Nat :=
  [kZoneIsolate, kOutputReset, kFaultAck, kTrailRead, kStatusAsk, kMode, kTsel, kTwr, kTrd, kTestRun, kTestEnd,
    kHoldAsk, kHoldEnd]

/-- R150: may this station send this kind to the own address? -/
def permitted (l : LinkRecord) (src kind : Nat) : Bool :=
  isCommissioning l src
    || (isFirePanel l src
      && [kZoneEvent, kZoneReset, kSupplyState, kZoneIsolate, kOutputReset, kFaultAck, kTrailRead, kStatusAsk].contains
        kind)
    || (isFfPanel l src && kind == kFfState)
    || (isBuilding l src && [kBldCmd, kStatusAsk].contains kind)

/-! ### Answers (R153, R154) -/

/-- R153: a request leaves service when its answer has been placed in the outbound queue. An answer that a full queue discards
(R154) is not placed, and R153 does not speak of it. DESIGN CHOICE, log entry 84: its request leaves service too. -/
def leaveService (s : State) : State := setPanel (fun p => { p with inService := none }) s

/-- R153: a REPLY is placed and its request leaves service, also where a full queue discards the REPLY (DESIGN CHOICE, log
entry 84). -/
def answer (req : Requester) (r : Result) (s : State) : State := leaveService (sendReply req r s)

/-- R153, R154: a frame other than a REPLY answers a request. -/
def answerFrame (req : Requester) (kind : Nat) (payload : List Byte) (after : AfterSent) (s : State) : State :=
  leaveService (setPanel (offerFrame
    { dest := req.station, src := s.tables.link.own, kind := kind, tag := req.tag, payload := payload } after) s)

/-- R154, R174: the REPLY to a TWR. Its SRC is the own address, but to a TWR of the link record the one to which the TWR was
sent. A refused TWR is of the selected table (log entry 41). -/
def answerWrite (table : Option TableId) (req : Requester) (r : Result) (s : State) : State :=
  leaveService (setPanel (offerFrame
    { dest := req.station, src := if table = some .link then req.own else s.tables.link.own, kind := kReply,
      tag := req.tag, payload := byte1 (resultCode r) } .nothing) s)

/-- R153: a request joins the inbound buffer, or is lost and counted. -/
def joinInbound (f : Frame) (s : State) : State :=
  setPanel (fun p =>
    if p.inbound.length < Config.inboundSize then { p with inbound := p.inbound ++ [f] }
    else { p with overruns := countUp p.overruns }) s

/-! ### Frames acted on as they arrive (R151, R94, R152) -/

/-- An UNMAPPED_INPUT entry some of whose fields the spec does not state: those are free values (log entry 6). -/
def unmappedOpen (subject detail : Option Nat) (s : State) : State :=
  unmapped (subject.getD (Config.unstatedField s.free % 65536))
    (detail.getD (Config.unstatedField (s.free + 1) % 65536)) (useFree (useFree s))

/-- R94: a SUPPLY_STATE that reaches the Start Scheduler. -/
def supplyStateTaken (b source : Nat) (s : State) : State :=
  match reportedSource source with
  | some src =>
    if s.mode ≠ .start ∧ 1 ≤ b ∧ b ≤ 8 ∧ (fansOn s b).isEmpty = false then
      if src = boardSource s b then s else sourceChange b src s
    else unmappedOpen (some b) none s
  | none => unmappedOpen (some b) none s

/-- R152: an entry of a BLD_CMD is accepted. -/
def bldFits (s : State) (o c : Nat) : Bool :=
  decide (1 ≤ o) && decide (o ≤ 160) && isConfigured (outEntry s o) && decide (c ≤ 5) && fitsKind (outEntry s o) (cmdOf c)

/-- R152: the entries of a BLD_CMD in frame order: the accepted ones are collected and the others reported. -/
def readBld : List Byte → List (Nat × Option Cmd) → State → List (Nat × Option Cmd) × State
  | a :: b :: rest, acc, s =>
    if bldFits s a.toNat b.toNat then readBld rest (acc ++ [(a.toNat, cmdOf b.toNat)]) s
    else readBld rest acc (unmapped a.toNat b.toNat s)
  | _, acc, s => (acc, s)

/-- R152: the BLD entry that a list of accepted entries leaves in force: the later entry of an output. -/
def lastEntry (es : List (Nat × Option Cmd)) (o : Nat) (d : Option Cmd) : Option Cmd :=
  es.foldl (fun c e => if e.1 = o then e.2 else c) d

/-- R152: a BLD_CMD that reaches the Output Resolver. -/
def bldCmdTaken (src : Nat) (payload : List Byte) (s : State) : State :=
  if s.mode = .start ∨ payload = [] ∨ payload.length % 2 ≠ 0 then unmapped src kBldCmd s
  else
    let p := readBld payload [] s
    changeLayers (fun o r => { r with bld := lastEntry p.1 o r.bld })
      ((configured s).filter (fun o => p.1.any (fun e => e.1 == o))) p.2

/-- R151, R179: a permitted frame acted on as it arrives is handed to its block. A frame whose length does not hold its
fields is ignored under its owning rule, and so is one with surplus bytes, which R179 does not name. DESIGN CHOICE, log entry
70. -/
def takeArrival (f : Frame) (s : State) : State :=
  let p := f.payload
  let zone := if p.length < 1 then none else some (byteAt p 0)
  if f.kind = kZoneEvent then
    if p.length = 4 then endStep (zoneEventTaken (byteAt p 0) (wordAt p 1) (byteAt p 3) s)
    else unmappedOpen zone (if p.length < 3 then none else some (wordAt p 1)) s
  else if f.kind = kZoneReset then
    if p.length = 1 then zoneResetTaken (byteAt p 0) s else unmappedOpen zone (some 0) s
  else if f.kind = kSupplyState then
    if p.length = 2 then endStep (supplyStateTaken (byteAt p 0) (byteAt p 1) s) else unmappedOpen zone none s
  else if f.kind = kFfState then endStep (ffStateTaken f.src p s)
  else endStep (bldCmdTaken f.src p s)

/-! ### The Forwarding Map (R156, R157) -/

/-- R156: the window that covers a panel-side station. Before a validation two may cover it, and no rule chooses. DESIGN
CHOICE, log entry 61: the one of lowest index. -/
def windowFor (t : Tables) (d : Nat) : Option WindowEntry :=
  (t.windows.map (fun p => p.2)).find? (fun w => covers w d)

/-- R157, 3: the ownership check fails for this plant station and frame. A CMD of LEN 0 holds no channel (12.5), and neither R157
nor R179 says what the check gives for it. DESIGN CHOICE, log entry 85: it passes the check and is forwarded. -/
def isOwned (s : State) (plantStation : Nat) (f : Frame) : Bool :=
  f.kind == kCmd && s.mode != .service && !f.payload.isEmpty
    && (outputAt s plantStation (byteAt f.payload 0)).isSome

/-- R157: the first check that fails. -/
def mapRefusal (s : State) (w : WindowEntry) (f : Frame) : Option FailReason :=
  if s.plant.hold.state = .held ∧ f.src = s.tables.link.commissioning then none
  else if fireMode s && w.fireBlock == 1 && f.kind != kAsk then some .fireBlocked
  else if w.permission == 0 && f.kind != kAsk then some .readOnly
  else if isOwned s (w.plantBase + (f.dest - w.panelBase)) f then some .owned
  else none

/-- R156: the translated frame with its origin. -/
def translated (s : State) (w : WindowEntry) (f : Frame) : ForwardEntry :=
  { frame := { f with dest := w.plantBase + (f.dest - w.panelBase), src := s.tables.link.plantMaster }
    station := f.src
    tag := f.tag
    addressed := f.dest
    wait := s.tables.link.forwardWait }

/-- R156 to R158: a frame reaches the Forwarding Map. -/
def mapFrame (f : Frame) (s : State) : State :=
  match windowFor s.tables f.dest with
  | none => sendFail f.src f.tag f.dest .noWindow s
  | some w =>
    match mapRefusal s w f with
    | some r => sendFail f.src f.tag f.dest r s
    | none => offerForward (translated s w f) s

/-- R149, R150, R156: a forwarding candidate. In START mode R149 discards it, while R150 ignores one from a station of no role with
an UNMAPPED_INPUT entry. DESIGN CHOICE, log entry 78: in START mode it is discarded without the entry, whatever its sender. -/
def candidateTaken (f : Frame) (s : State) : State :=
  if s.mode = .start then s
  else if !hasRole s.tables.link f.src then unmapped f.src f.kind s
  else endStep (mapFrame f s)

/-! ### Sorting (R149, R150) -/

/-- R149, R150: a good frame is sorted. -/
def sortFrame (f : Frame) (s : State) : State :=
  if f.dest = 0 ∨ f.dest = 255 then s
  else if f.dest ≠ s.tables.link.own then candidateTaken f s
  else if requestKinds.contains f.kind then joinInbound f s
  else if arrivalKinds.contains f.kind && permitted s.tables.link f.src f.kind then takeArrival f s
  else unmapped f.src f.kind s

/-- R149: bytes arrive on the panel link. -/
def panelBytes (bs : List Byte) (s : State) : State :=
  match receive bs with
  | .nothing => s
  | .bad => setPanel (fun p => { p with errors := countUp p.errors }) s
  | .good f => sortFrame f s

/-- R154, R170: what the sending of a frame leads to. R148 lets the clearing mark stand for one waiting summary STATUS and does not
speak of two. DESIGN CHOICE, log entry 77: the first one sent takes the mark with the flag. -/
def afterSent (a : AfterSent) (s : State) : State :=
  match a with
  | .nothing => s
  | .clearReportsMissed =>
    if s.panel.clearing then setPanel (fun p => { p with reportsMissed := false, clearing := false }) s else s
  | .warmStart => { s with restartDue := true }

/-- R154: the last byte of the head frame has gone. -/
def headSent (s : State) : State :=
  match s.panel.outbound with
  | [] => s
  | q :: rest => afterSent q.after (setPanel (fun p => { p with outbound := rest }) s)

/-! ### The plant link's receiver (R130) -/

/-- R130: a good frame is the awaited reply of this exchange. -/
def isAwaited (s : State) (x : Exchange) (f : Frame) : Bool :=
  f.src == x.frame.dest && f.dest == s.tables.link.plantMaster && f.tag == x.frame.tag
    && match x.kind with
      | .ownCommand _ => f.kind == kCmdAck
      | .ownPoll => f.kind == kState
      | .forward _ _ _ => true

/-- R130 to R133, R141: the awaited reply is taken, or counted when it cannot be decoded. -/
def takeReply (x : Exchange) (kind : Nat) (payload : List Byte) (s : State) : State :=
  if replyBad kind payload then countError s
  else match x.kind with
    | .ownCommand o =>
      match ackOf (byteAt payload 1) with
      | some a => endStep (commandAnswered o x.frame.dest a s)
      | none => countError s
    | .ownPoll => endStep (pollAnswered x.frame.dest payload s)
    | .forward st tag addressed => endStep (forwardAnswered x st tag addressed kind payload s)

/-- R130: bytes arrive on the plant link. -/
def plantBytes (bs : List Byte) (s : State) : State :=
  match receive bs with
  | .nothing => s
  | .bad => countError s
  | .good f =>
    match s.plant.exchange with
    | none => countStray s
    | some x => if isAwaited s x f then takeReply x f.kind f.payload s else countStray s

end Sys2Proof.Machine
end

