-- ==== Sys2Proof/Machine/Status.lean ====
section
/-! DEFINITION. STATUS reports (R155, R179), each one byte string built from the parts that its owning rule lists. -/

namespace Sys2Proof.Machine

/-! ### Parts (R179) -/

def flag (b : Bool) : List Byte := byte1 (flagCode b)

/-- A part of `width` bytes that may be absent. -/
def optional (width : Nat) (x : Option Nat) : List Byte :=
  match x with
  | some n => byte1 1 ++ bytesBE width n
  | none => byte1 0 ++ bytesBE width 0

/-- A list of varying length. -/
def counted {α : Type} (f : α → List Byte) (xs : List α) : List Byte := byte1 xs.length ++ xs.flatMap f

/-- A feedback view with its flags and validity mark (12.7). -/
def viewBytes (v : View) (valid : Bool) : List Byte :=
  byte1 (viewCode v) ++ flag (viewTrip v) ++ flag (viewLocal v) ++ flag valid

/-! ### The reports -/

/-- The modules 1 to 100 in a state. -/
def modulesIn (s : State) (m : ModuleState) : Nat := ((upTo 1 100).filter (fun k => (moduleRec s k).state == m)).length

/-- R155: the summary report, with the burst count of R139 behind the length of the command queue (log entry 43). -/
def summaryReport (s : State) : List Byte :=
  byte1 (modeCode s.mode) ++ byte4 s.uptime
    ++ (match s.failing with
      | some r => byte1 1 ++ byte1 (tableCode r.table) ++ byte2 r.index
      | none => byte1 0 ++ byte1 0 ++ byte2 0)
    ++ byte1 (runStateCode s.run.state) ++ byte1 s.run.scenario ++ flag s.run.test ++ flag s.run.late
    ++ flag s.run.degraded
    ++ zoneNumbers.flatMap (fun z => byte1 (zoneStateCode (zoneRec s z).state) ++ flag (zoneRec s z).held)
    ++ (upTo 1 8).flatMap (fun b => byte1 (boardSourceCode (boardSource s b)))
    ++ byte1 (panelStateCode s.ff.panel) ++ flag s.ff.allStop ++ byte1 s.ff.marks.length
    ++ byte1 (holdStateCode s.plant.hold.state) ++ byte1 (releaseCode s.plant.hold.reason)
    ++ byte1 (modulesIn s .unknown) ++ byte1 (modulesIn s .present) ++ byte1 (modulesIn s .missing)
    ++ byte1 s.queue.length ++ byte1 s.plant.burst ++ byte1 s.plant.forward.length ++ byte1 s.plant.fastRing.length
    ++ byte2 s.plant.errors ++ byte2 s.plant.strays
    ++ flag s.capture.locked.isSome ++ byte1 (faultCount s)
    ++ byte2 s.panel.errors ++ byte2 s.panel.overruns ++ byte1 s.panel.outbound.length ++ flag s.panel.reportsMissed

/-- R18, R126: the zone report. -/
def zoneReport (s : State) (z : Nat) : List Byte :=
  let r := zoneRec s z
  byte1 (zoneStateCode r.state)
    ++ counted (fun a => byte2 a.address ++ byte1 (sourceClassCode a.cls)) r.sources
    ++ optional 1 (r.confirmation.map (fun c => confirmReasonCode c.reason))
    ++ optional 4 (r.confirmation.map (fun c => c.stamp))
    ++ flag r.held ++ byte1 (zoneSwitchCode (zoneSwitch s z))

/-- R57, 12.7: the engaged-as record. -/
def engagedBytes : Engaged → List Byte
  | .none => byte1 0 ++ byte1 0
  | .standbyFor d => byte1 1 ++ byte1 d
  | .reserveFor z => byte1 2 ++ byte1 z

/-- R66, R83: the position in the command queue, or 0. -/
def queuePosition (s : State) (o : Nat) : Nat :=
  let k := (s.queue.map (fun q => q.output)).idxOf o
  if k < s.queue.length then k + 1 else 0

/-- R83: a part that only a fan has. -/
def fanPart (fan : Bool) (bs : List Byte) : List Byte := if fan then byte1 1 ++ bs else byte1 0 ++ bs.map (fun _ => 0)

/-- R66, R83, R126, R147: the report of an output from its record, its queue position and the queue's length, its module's
state, its switch and its mark. The clean flag is coded set 1 or clear 0 behind its presence byte, not by 12.7's codes for
the clean part of the first-fault record: DESIGN CHOICE, log entry 43. -/
def outputBytes (fan : Bool) (r : OutRec) (position queued : Nat) (m : ModuleState) (sw : OutputSwitch) (mark : Bool) :
    List Byte :=
  byte1 (cmdCodeOpt r.ff) ++ byte1 (cmdCodeOpt r.fire) ++ byte1 (cmdCodeOpt r.safe) ++ byte1 (cmdCodeOpt r.bld)
    ++ byte1 (cmdCodeOpt r.resolved)
    ++ optional 1 (if fan && r.resolved.isSome then some (fanClass r) else none)
    ++ byte1 (cmdCodeOpt r.lastSent) ++ byte1 (actCode r.act)
    ++ (match r.fault with
      | some f => byte1 1 ++ byte1 (faultCodeOf f.code) ++ byte1 (causeCode f.cause)
      | none => byte1 0 ++ byte1 0 ++ byte1 0)
    ++ viewBytes r.view r.valid
    ++ (match r.origin with
      | some v => byte1 1 ++ viewBytes v true
      | none => byte1 0 ++ [0, 0, 0, 0])
    ++ optional 1 (r.origin.map (fun _ => flagCode r.clean))
    ++ optional 2 r.timer
    ++ flag r.retried ++ byte1 r.busy ++ byte1 r.superseded
    ++ fanPart fan (flag r.slot.isSome) ++ optional 2 (r.slot.map (fun sl => sl.demand))
    ++ fanPart fan (engagedBytes r.engaged)
    ++ byte1 position ++ byte1 queued ++ byte1 (moduleStateCode m) ++ byte1 (outputSwitchCode sw) ++ fanPart fan (flag mark)

/-- R83, R155: the output report. An unconfigured output's gives its record as it stands after a cold start. R155 says it of the
record alone. DESIGN CHOICE, log entry 76: its module is UNKNOWN in the report, whatever module its entry still names. -/
def outputReport (s : State) (o : Nat) : List Byte :=
  let e := outEntry s o
  if isConfigured e then
    outputBytes (isFan e) (outRec s o) (queuePosition s o) s.queue.length (moduleRec s e.module).state (outputSwitch s o)
      (s.ff.marks.contains o)
  else outputBytes false coldOut 0 s.queue.length .unknown .auto false

/-- R102: an extract watch with its present sum. RESERVE_PENDING with its fan is one optional part, whose presence byte stands for
the flag. DESIGN CHOICE, log entry 43. -/
def watchBytes (s : State) (w : Watch) : List Byte :=
  byte1 w.zone ++ byte2 w.requirement ++ flag w.watching ++ flag w.deficit ++ flag w.exhausted ++ byte1 w.cursor
    ++ optional 1 w.pending ++ byte2 (extractSum s w.zone)

/-- R36, R55, R102: the run report. -/
def runReport (s : State) : List Byte :=
  let r := s.run
  byte1 (runStateCode r.state) ++ flag r.test ++ flag r.late ++ flag r.degraded ++ byte1 r.scenario
    ++ counted byte1 r.served ++ byte1 r.cursor ++ counted byte2 r.inFlight
    ++ (upTo 1 160).flatMap (fun o => optional 2 (lastIssuedStep s o))
    ++ optional 1 r.delay ++ optional 2 r.deadline ++ counted byte1 r.faults ++ flag r.overflow
    ++ optional 4 r.startStamp ++ optional 4 r.stageStamp
    ++ counted (watchBytes s) s.watches

/-- R101: the report of a board from its parts. -/
def boardBytes (s : State) (src : BoardSource) (cap limit : Nat) (holders : List Nat) (load : Nat)
    (waiting : List Nat) : List Byte :=
  byte1 (boardSourceCode src) ++ byte2 cap ++ byte1 limit
    ++ counted (fun f => byte1 f ++ byte2 (contribution (outEntry s f) (outRec s f))) holders
    ++ byte2 load
    ++ counted (fun f =>
      byte1 f ++ byte1 (fanClass (outRec s f)) ++ byte4 ((outRec s f).joinTime.getD 0)
        ++ flag (outRec s f).heldWarned) waiting

/-- R101, R155: the board report. An unconfigured board's gives its record as it stands after a cold start. -/
def boardReport (s : State) (b : Nat) : List Byte :=
  let e := boardEntry s b
  if (fansOn s b).isEmpty then boardBytes s .unknown e.capStandby e.startLimit [] 0 []
  else
    boardBytes s (boardSource s b) (capacity s b) e.startLimit (slotHolders s b) (committedLoad s b) (waitList s b)

/-- R163: the first-fault report. -/
def firstFaultReport (s : State) : List Byte :=
  let c := s.capture
  flag c.locked.isSome
    ++ (match c.locked with
      | some k =>
        byte1 1 ++ byte2 k.entry.sequence
          ++ byte1 1 ++ byte1 (evCode k.entry.event) ++ byte2 k.entry.subject ++ byte2 k.entry.detail
          ++ optional 1 (some k.facts.scenario) ++ optional 2 (some k.facts.stepIndex)
          ++ optional 2 (some k.facts.seconds) ++ optional 2 (some k.extractSum)
          ++ optional 1 (some (cleanCode k.clean)) ++ optional 4 (some k.entry.uptime)
      | none =>
        optional 2 none ++ (byte1 0 ++ byte1 0 ++ byte2 0 ++ byte2 0) ++ optional 1 none ++ optional 2 none
          ++ optional 2 none ++ optional 2 none ++ optional 1 none ++ optional 4 none)
    ++ flag c.lost ++ byte1 c.later

/-! ### STATUS frames (R155, R179) -/

/-- R179: the number of parts of a report. -/
def partCount (bs : List Byte) : Nat := max 1 ((bs.length + 39) / 40)

/-- R179: one part of a report. -/
def partOf (bs : List Byte) (part : Nat) : List Byte := (bs.drop (40 * part)).take 40

/-- 12.4: the STATUS payload. -/
def statusPayload (s : State) (selector index part : Nat) (bs : List Byte) : List Byte :=
  byte1 selector ++ byte1 index ++ byte1 part ++ byte1 (partCount bs) ++ byte4 s.uptime ++ partOf bs part

/-- R154: what the sending of this STATUS frame will lead to. Any part of the summary counts, also one that does not carry
the flag. DESIGN CHOICE, log entry 60. -/
def statusAfter (s : State) (selector : Nat) : AfterSent :=
  if selector = 0 ∧ s.panel.reportsMissed then .clearReportsMissed else .nothing

/-- R154: a summary STATUS built and admitted while REPORTS_MISSED is set sets the clearing mark, whichever part it
is (log entry 60). -/
def markClearing (selector : Nat) (s : State) : State :=
  if selector = 0 ∧ s.panel.reportsMissed ∧ s.panel.outbound.length < Config.outboundSize then
    setPanel (fun p => { p with clearing := true }) s
  else s

/-- R155: a STATUS_ASK is answered with the part asked for, or refused. -/
def answerStatus (req : Requester) (selector index part : Nat) (inRange : Bool) (report : List Byte) (s : State) :
    State :=
  if !inRange then answer req .badIndex s
  else if partCount report ≤ part then answer req .badIndex s
  else
    answerFrame req kStatus (statusPayload s selector index part report) (statusAfter s selector)
      (markClearing selector s)

end Sys2Proof.Machine
end

