-- ==== Sys2Proof/Machine/Requests.lean ====
section
/-! DEFINITION. What each request does when it is served, apart from entering service (R11, R12, R14, R31, R32, R79, R142,
R145, R155, R166, R167, R170 to R174). -/

namespace Sys2Proof.Machine

/-- R11: the checks of ZONE_ISOLATE before its direction. -/
def isolateRefusal (s : State) (z : Nat) : Option Result :=
  if s.mode = .start then some .wrongMode
  else if !inService s.tables z then some .badIndex
  else none

/-- R12. -/
def serveIsolateOn (req : Requester) (z : Nat) (s : State) : State :=
  match isolateRefusal s z with
  | some r => answer req r s
  | none => answer req (isolateZone z s).2 (isolateZone z s).1

/-- R14. A HOLD_ASK that the presented zone revokes is answered before this OK, as R145 has it for a HOLD_END. DESIGN CHOICE,
log entry 56. -/
def serveIsolateOff (req : Requester) (z : Nat) (s : State) : State :=
  match isolateRefusal s z with
  | some r => answer req r s
  | none => endStep (answer req .ok (deisolateZone z s))

/-- R79. -/
def serveOutputReset (req : Requester) (o : Nat) (s : State) : State :=
  if s.mode = .start then answer req .wrongMode s
  else if !(decide (1 ≤ o) && decide (o ≤ 160) && isConfigured (outEntry s o)) then answer req .badIndex s
  else if (outRec s o).act = .fault then
    endStep (answer req .ok (drain (onOutput o (newAttempt o .reset) s)))
  else answer req .ok s

/-- R166. -/
def serveFaultAck (req : Requester) (sequence later : Nat) (s : State) : State :=
  match s.capture.locked with
  | none => answer req .ok s
  | some k =>
    if sequence = k.entry.sequence ∧ later = s.capture.later then
      answer req .ok (setCapture (fun c => { c with locked := none, lost := false, later := 0 }) s)
    else answer req .badValue s

/-- R167: the entries that a TRAIL_READ returns, and its gap flag. -/
def trailAnswer (c : Capture) (start count : Nat) : List TrailEntry × Bool :=
  let d := (c.nextSequence + 65536 - start % 65536) % 65536
  let h := c.trail.length
  if d = 0 then ([], false)
  else if d ≤ h then ((c.trail.drop (h - d)).take (min count 4), false)
  else (c.trail.take (min count 4), true)

/-- R167, 12.4: the TRAIL_DATA payload. -/
def trailPayload (c : Capture) (start count : Nat) : List Byte :=
  byte2 c.nextSequence ++ flag (trailAnswer c start count).2 ++ counted entryBytes (trailAnswer c start count).1

/-- R167. -/
def serveTrailRead (req : Requester) (start count : Nat) (s : State) : State :=
  if count = 0 then answer req .badValue s
  else answerFrame req kTrailData (trailPayload s.capture start count) .nothing s

/-- R170: a MODE request is refused while a run bars it. -/
def modeRefusal (s : State) : Option Result :=
  match s.mode with
  | .start => some .wrongMode
  | .service => if fireMode s && s.run.test then some .runActive else none
  | .normal => if fireMode s then some .runActive else none

/-- R170: ENTER_SERVICE. -/
def serveEnterService (req : Requester) (s : State) : State :=
  match modeRefusal s with
  | some r => answer req r s
  | none => answer req .ok (if s.mode = .normal then changeMode .service s else s)

/-- R170, R171: ENTER_NORMAL. In SERVICE mode the request stays in service while the tables are validated. -/
def serveEnterNormal (req : Requester) (s : State) : State :=
  if s.mode = .normal then answer req .ok s
  else match modeRefusal s with
    | some r => answer req r s
    | none => { s with validating := some req }

/-- R171: the validation ends. The arrivals that have been given for its decision are used, or given up (log entry 19). -/
def serveValidation (req : Requester) (s : State) : State :=
  let t := { s with validating := none, entryIntake := [] }
  match validate s.tables [] with
  | some r => answer req .invalid (configInvalid r t)
  | none => endStep (answer req .ok (drain (enterNormalMode s.entryIntake t)))

/-- R170: RESTART. The warm start follows the sending of the REPLY OK. -/
def serveRestart (req : Requester) (s : State) : State :=
  match modeRefusal s with
  | some r => answer req r s
  | none => answerFrame req kReply (byte1 (resultCode .ok)) .warmStart s

/-- R172. -/
def serveTsel (req : Requester) (table index : Nat) (s : State) : State :=
  if s.mode = .start then answer req .wrongMode s
  else match tableOf table with
    | none => answer req .badValue s
    | some t =>
      if firstIndex t ≤ index ∧ index ≤ lastIndex t then
        answer req .ok { s with window := { selected := some t, cursor := index } }
      else answer req .badIndex s

/-- R172: the cursor rises by 1. -/
def stepCursor (s : State) : State := { s with window := { s.window with cursor := s.window.cursor + 1 } }

/-- R173, 12.4: the TABLE_DATA payload of an entry. -/
def tablePayload (s : State) (t : TableId) (i : Nat) : List Byte :=
  byte1 (tableCode t) ++ byte2 i ++ fieldBytes (fieldWidths t) (entryFields s.tables { table := t, index := i })

/-- R173: TRD. -/
def serveTrd (req : Requester) (s : State) : State :=
  if s.mode = .start then answer req .wrongMode s
  else match s.window.selected with
    | none => answer req .badIndex s
    | some t =>
      if lastIndex t < s.window.cursor then answer req .endOfTable s
      else stepCursor (answerFrame req kTableData (tablePayload s t s.window.cursor) .nothing s)

/-- R173: checks 6 and 7 of a TWR: the fields to be written, where the entry passes. -/
def entryAccepted (s : State) (t : TableId) (index : Nat) (entry : List Byte) : Option (List Nat) :=
  match readFields (fieldWidths t) entry with
  | none => none
  | some f =>
    if !fieldsInRange t f then none
    else if t = .output ∧ isFan (outputOfFields f)
        ∧ fanCountsOk (putEntry { table := t, index := index } f s.tables) (outputOfFields f).board = false then none
    else some f

/-- R173: the checks of TWR in their order. `index` is absent where the payload is too short to carry one. -/
def twrCheck (s : State) (index : Option Nat) (entry : List Byte) : Except Result (EntryRef × List Nat) :=
  if s.mode ≠ .service then .error .wrongMode
  else match s.window.selected with
    | none => .error .badIndex
    | some t =>
      if fireMode s && s.run.test then .error .busy
      else if lastIndex t < s.window.cursor then .error .endOfTable
      else match index with
        | none => .error .badValue
        | some i =>
          if i ≠ s.window.cursor then .error .badIndex
          else match entryAccepted s t i entry with
            | some f => .ok ({ table := t, index := i }, f)
            | none => .error .badValue

/-- R173, R174: TWR. An entry that passes stays in service while it is written. -/
def serveTwr (req : Requester) (index : Nat) (entry : List Byte) (s : State) : State :=
  match twrCheck s (some index) entry with
  | .error r => answerWrite s.window.selected req r s
  | .ok (r, f) => { s with nvWrite := some { req := req, ref := r, fields := f } }

/-- R174: the write ends. After a read-back that differs, what is stored is a free value (log entry 5). -/
def serveNvWrite (w : NvWrite) (readBackEqual : Bool) (s : State) : State :=
  let t := { s with nvWrite := none }
  if readBackEqual then endStep (answerWrite (some w.ref.table) w.req .ok (stepCursor (drain (bringIntoForce w t))))
  else
    answerWrite (some w.ref.table) w.req .storeFailed (useFree
      { t with nv := if Config.failedWriteStored s.free then putEntry w.ref w.fields s.nv else s.nv })

/-- R31: TEST_RUN. -/
def serveTestRun (req : Requester) (n : Nat) (s : State) : State :=
  if s.mode ≠ .service then answer req .wrongMode s
  else if n = 0 ∨ 48 < n then answer req .badIndex s
  else if fireMode s then answer req .runActive s
  else if s.plant.hold.state ≠ .free then answer req .busy s
  else if !scenarioOk s.tables n then answer req .badValue s
  else endStep (answer req .ok (drain (instructTest n s)))

/-- R32: TEST_END. -/
def serveTestEnd (req : Requester) (s : State) : State :=
  if s.mode ≠ .service then answer req .wrongMode s
  else if fireMode s then endStep (answer req .ok (drain (instructEnd s)))
  else answer req .ok s

/-- R142: an output that bars a hold. -/
def barsHold (a : Act) : Bool := a == .queued || inWait a || outstanding a

/-- R142: the first refusal of HOLD_ASK that applies. -/
def holdRefusal (s : State) : Option Result :=
  if s.mode = .start then some .wrongMode
  else if s.plant.hold.state ≠ .free then some .busy
  else if fireMode s then some .runActive
  else if s.mode = .normal ∧ someZoneWaits s then some .zoneBusy
  else if (configured s).any (fun o => barsHold (outRec s o).act) then some .busy
  else none

/-- R142, R143: HOLD_ASK. An accepted one leaves service and is answered when the hold leaves HOLD_PENDING. -/
def serveHoldAsk (req : Requester) (s : State) : State :=
  match holdRefusal s with
  | some r => answer req r s
  | none => endStep (leaveService (setHold (fun h => { h with state := .pending, ask := some req }) s))

/-- R145: what HOLD_END does before its OK. -/
def holdEnded (s : State) : State :=
  match s.plant.hold.state with
  | .pending => refuseHold s
  | .held => drain (holdProgress (releaseHold .ended s))
  | _ => s

/-- R145: HOLD_END. -/
def serveHoldEnd (req : Requester) (s : State) : State :=
  if s.mode = .start then answer req .wrongMode s else endStep (answer req .ok (holdEnded s))

end Sys2Proof.Machine
end

