-- ==== Sys2Proof/Machine/Operands.lean ====
section
/-! DEFINITION. Reading a request frame's payload as the row of the opcode table that it spells (12.3, R153, R179). -/

namespace Sys2Proof.Machine

/-- Who asks, from a request frame. -/
def requesterOf (f : Frame) : Requester := { station := f.src, tag := f.tag, own := f.dest }

/-- R179: a malformed request is refused as its rule refuses a value outside its set: BAD_VALUE, behind the rule's own
mode check (log entry 15). -/
def malformed (wrongMode : Bool) : Result := if wrongMode then .wrongMode else .badValue

/-- R11, R12, R14: ZONE_ISOLATE. -/
def readIsolate (s : State) (f : Frame) : Except Result Instr :=
  let z := byteAt f.payload 0
  if f.payload.length ≠ 2 then .error (malformed (s.mode = .start))
  else if byteAt f.payload 1 = 1 then .ok (.zoneIsolateOn (requesterOf f) z)
  else if byteAt f.payload 1 = 0 then .ok (.zoneIsolateOff (requesterOf f) z)
  else .error ((isolateRefusal s z).getD .badValue)

/-- R155: STATUS_ASK. -/
def readStatusAsk (f : Frame) : Except Result Instr :=
  let req := requesterOf f
  let i := byteAt f.payload 1
  let p := byteAt f.payload 2
  if f.payload.length ≠ 3 then .error .badValue
  else match byteAt f.payload 0 with
    | 0 => .ok (.statusAskSummary req i p)
    | 1 => .ok (.statusAskZone req i p)
    | 2 => .ok (.statusAskOutput req i p)
    | 3 => .ok (.statusAskRun req i p)
    | 4 => .ok (.statusAskBoard req i p)
    | 5 => .ok (.statusAskFirstFault req i p)
    | _ => .error .badValue

/-- R170: MODE. -/
def readMode (f : Frame) : Except Result Instr :=
  let req := requesterOf f
  if f.payload.length ≠ 1 then .error .badValue
  else match byteAt f.payload 0 with
    | 1 => .ok (.enterService req)
    | 2 => .ok (.enterNormal req)
    | 3 => .ok (.modeRestart req)
    | _ => .error .badValue

/-- R173: TWR. A payload too short to carry an index fails the checks before it, or is BAD_VALUE. -/
def readTwr (s : State) (f : Frame) : Except Result Instr :=
  if f.payload.length < 2 then
    match twrCheck s none [] with
    | .error r => .error r
    | .ok _ => .error .badValue
  else .ok (.twr (requesterOf f) (wordAt f.payload 0) (f.payload.drop 2))

/-- A request of fixed length. R179 calls malformed a LEN that does not hold the fixed fields and does not name surplus bytes.
DESIGN CHOICE, log entry 70: every other LEN is malformed. -/
def readFixed (len : Nat) (wrongMode : Bool) (f : Frame) (i : Instr) : Except Result Instr :=
  if f.payload.length = len then .ok i else .error (malformed wrongMode)

/-- R153: the row that a request frame spells, or the result that refuses it. -/
def readRequest (s : State) (f : Frame) : Except Result Instr :=
  let req := requesterOf f
  let p := f.payload
  let starting := decide (s.mode = .start)
  let notService := decide (s.mode ≠ .service)
  if f.kind = kZoneIsolate then readIsolate s f
  else if f.kind = kOutputReset then readFixed 1 starting f (.outputReset req (byteAt p 0))
  else if f.kind = kFaultAck then readFixed 3 false f (.faultAck req (wordAt p 0) (byteAt p 2))
  else if f.kind = kTrailRead then readFixed 3 false f (.trailRead req (wordAt p 0) (byteAt p 2))
  else if f.kind = kStatusAsk then readStatusAsk f
  else if f.kind = kMode then readMode f
  else if f.kind = kTsel then readFixed 3 starting f (.tsel req (byteAt p 0) (wordAt p 1))
  else if f.kind = kTrd then readFixed 0 starting f (.trd req)
  else if f.kind = kTwr then readTwr s f
  else if f.kind = kTestRun then readFixed 1 notService f (.testRun req (byteAt p 0))
  else if f.kind = kTestEnd then readFixed 0 notService f (.testEnd req)
  else if f.kind = kHoldAsk then readFixed 0 starting f (.holdAsk req)
  else readFixed 0 starting f (.holdEnd req)

/-- R153, R174: a request is refused as it is taken. A TWR is of the selected table (log entry 41). -/
def refuseRequest (f : Frame) (r : Result) (s : State) : State :=
  if f.kind = kTwr then answerWrite s.window.selected (requesterOf f) r s else answer (requesterOf f) r s

/-- R153: the head request is taken: refused here, or put in service as the row it spells. -/
def takeRequest (f : Frame) (s : State) : State :=
  if !permitted s.tables.link f.src f.kind then refuseRequest f .notPermitted s
  else match readRequest s f with
    | .error r => refuseRequest f r s
    | .ok i => setPanel (fun p => { p with inService := some i }) s

/-- R153: a request may be taken. -/
def mayTake (s : State) : Bool :=
  s.panel.inService.isNone && decide (s.panel.outbound.length < Config.takeLimit)

/-- R153: the head of the inbound buffer is taken. -/
def takeHead (s : State) : State :=
  match s.panel.inbound with
  | [] => s
  | f :: rest => if mayTake s then takeRequest f (setPanel (fun p => { p with inbound := rest }) s) else s

end Sys2Proof.Machine
end

