-- ==== Sys2Proof/Machine/Acting.lean ====
section
/-! DEFINITION. How a command acts: only while the sequencer runs (R176), and for a request row only as the request in
service (R153). -/

namespace Sys2Proof.Machine

/-- A command that acts while the sequencer has its supply and the reset line is not held (R176). Otherwise nothing is
taken and nothing changes. -/
def acting (work : State → State) (s : State) : Host.Outcome State Fault Refusal :=
  .next (if awake s then work s else s)

/-- R153: may this request row be served now? With no request in service the row enters service itself (log entry 16). A
request whose write or validation is under way is not served again. -/
def mayServe (row : Instr) (s : State) : Bool :=
  (s.panel.inService == none || s.panel.inService == some row) && s.nvWrite.isNone && s.validating.isNone

/-- R153: the row is the request in service. -/
def enterServing (row : Instr) (s : State) : State := setPanel (fun p => { p with inService := some row }) s

/-- A request row: it is served when it may be, and changes nothing otherwise. -/
def serving (row : Instr) (work : State → State) (s : State) : Host.Outcome State Fault Refusal :=
  acting (fun s => if mayServe row s then work (enterServing row s) else s) s

end Sys2Proof.Machine
end

