-- ==== Sys2Proof/Machine/PanelCommands.lean ====
section
/-! DEFINITION. Commands of the panel link: frames received and sent, and frames acted on as they arrive
(chapters 1, 5, 7 and 9). -/

namespace Sys2Proof.Machine

/-- R149: PANEL_FRAME_RECEIVED. -/
def execPanelFrameReceived (bytes : List Byte) (s : State) : Host.Outcome State Fault Refusal :=
  acting (panelBytes bytes) s

/-- R153: REQUEST_ARRIVAL. -/
def execRequestArrival (frame : Frame) (s : State) : Host.Outcome State Fault Refusal :=
  acting (joinInbound frame) s

/-- R153: REQUEST_TAKEN. -/
def execRequestTaken (s : State) : Host.Outcome State Fault Refusal := acting takeHead s

/-- R154: OUTBOUND_FRAME_SENT. -/
def execOutboundFrameSent (s : State) : Host.Outcome State Fault Refusal := acting headSent s

/-- R156: FORWARD_CANDIDATE. -/
def execForwardCandidate (frame : Frame) (s : State) : Host.Outcome State Fault Refusal :=
  acting (candidateTaken frame) s

/-- R4: ZONE_EVENT. -/
def execZoneEvent (zone source cls : Nat) (s : State) : Host.Outcome State Fault Refusal :=
  acting (fun s => endStep (zoneEventTaken zone source cls s)) s

/-- R9: ZONE_RESET. -/
def execZoneReset (zone : Nat) (s : State) : Host.Outcome State Fault Refusal := acting (zoneResetTaken zone) s

/-- R94: SUPPLY_STATE. -/
def execSupplyState (board source : Nat) (s : State) : Host.Outcome State Fault Refusal :=
  acting (fun s => endStep (supplyStateTaken board source s)) s

/-- R116: FF_STATE. -/
def execFfState (src : Nat) (payload : List Byte) (s : State) : Host.Outcome State Fault Refusal :=
  acting (fun s => endStep (ffStateTaken src payload s)) s

/-- R152: BLD_CMD. -/
def execBldCmd (src : Nat) (payload : List Byte) (s : State) : Host.Outcome State Fault Refusal :=
  acting (fun s => endStep (bldCmdTaken src payload s)) s

end Sys2Proof.Machine
end

