-- ==== Sys2Proof/Machine/PlantCommands.lean ====
section
/-! DEFINITION. Commands of the plant link (R130 to R133, R138, R140, R141, R144). -/

namespace Sys2Proof.Machine

/-- R130: the reply window starts at the end of a send. -/
def sendComplete (s : State) : State :=
  match s.plant.exchange with
  | some x =>
    if x.window.isNone then
      setPlant (fun p => { p with exchange := some { x with window := some s.tables.link.replyWindow } }) s
    else s
  | none => s

/-- R130: PLANT_SEND_COMPLETE. -/
def execPlantSendComplete (s : State) : Host.Outcome State Fault Refusal := acting sendComplete s

/-- R130: PLANT_FRAME_RECEIVED. -/
def execPlantFrameReceived (bytes : List Byte) (s : State) : Host.Outcome State Fault Refusal :=
  acting (plantBytes bytes) s

/-- R132: the CMD_ACK of the command in flight. With none in flight the frame is a stray one (R130). -/
def ackTaken (result : Nat) (s : State) : State :=
  match s.plant.exchange with
  | some { kind := .ownCommand o, frame := f, .. } =>
    match ackOf result with
    | some a => endStep (commandAnswered o f.dest a s)
    | none => countError s
  | _ => countStray s

/-- R132: CMD_ACK. The channel of a CMD_ACK is not checked. -/
def execCmdAck (_channel result : Nat) (s : State) : Host.Outcome State Fault Refusal := acting (ackTaken result) s

/-- R133: the STATE of the poll in flight. With none in flight the frame is a stray one (R130). -/
def stateTaken (readings : List Byte) (s : State) : State :=
  match s.plant.exchange with
  | some { kind := .ownPoll, frame := f, .. } =>
    if decodable readings then endStep (pollAnswered f.dest readings s) else countError s
  | _ => countStray s

/-- R133: STATE. -/
def execStateReply (readings : List Byte) (s : State) : Host.Outcome State Fault Refusal :=
  acting (stateTaken readings) s

/-- R141: the reply to the forwarded frame in flight. With none in flight the frame is a stray one (R130). -/
def forwardTaken (kind : Nat) (payload : List Byte) (s : State) : State :=
  match s.plant.exchange with
  | some x =>
    match x.kind with
    | .forward st tag addressed =>
      if replyBad kind payload then countError s
      else endStep (forwardAnswered x st tag addressed kind payload s)
    | _ => countStray s
  | none => countStray s

/-- R141: FORWARD_REPLY. -/
def execForwardReply (kind : Nat) (payload : List Byte) (s : State) : Host.Outcome State Fault Refusal :=
  acting (forwardTaken kind payload) s

/-- R131: REPLY_WINDOW_EXPIRY, while a reply window runs. -/
def execReplyWindowExpiry (s : State) : Host.Outcome State Fault Refusal :=
  acting (fun s => match s.plant.exchange with
    | some x => if x.window.isSome then endStep (windowExpired x s) else s
    | none => s) s

/-- R138: PACER_TIMER_EXPIRY, while the pacer runs. -/
def execPacerTimerExpiry (s : State) : Host.Outcome State Fault Refusal :=
  acting (fun s =>
    if s.plant.pacer.isSome then endStep (setPlant (fun p => { p with pacer := none, ready := true }) s) else s) s

/-- R140: the wait timer of the entry at this place expires. -/
def forwardWaited (place : Nat) (s : State) : State :=
  match s.plant.forward[place]? with
  | some e =>
    endStep (sendFail e.station e.tag e.addressed .timeout
      (setPlant (fun p => { p with forward := p.forward.eraseIdx place }) s))
  | none => s

/-- R140: FORWARD_WAIT_EXPIRY. -/
def execForwardWaitExpiry (place : Nat) (s : State) : Host.Outcome State Fault Refusal :=
  acting (forwardWaited place) s

/-- R144: HOLD_TIMER_EXPIRY, when the hold timer has run out. -/
def execHoldTimerExpiry (s : State) : Host.Outcome State Fault Refusal :=
  acting (fun s =>
    if s.plant.hold.state = .held ∧ s.plant.hold.timer = some 0 then endStep (releaseHold .timeout s) else s) s

end Sys2Proof.Machine
end

