-- ==== Sys2Proof/Machine/Power.lean ====
section
/-! DEFINITION. Power, reset line, starts and uptime (R176, R177). -/

namespace Sys2Proof.Machine

/-- R176: POWER_UP. While the reset line is held the sequencer does not start. -/
def execPowerUp (bad : List EntryRef) (s : State) : Host.Outcome State Fault Refusal :=
  .next (if s.resetHeld then { coldBlocks (interruptWrite s) with powered := true }
    else coldStart bad { s with powered := true })

/-- R176: RESET_LINE_ASSERT. A write under way is cut off (R174). -/
def execResetLineAssert (s : State) : Host.Outcome State Fault Refusal :=
  .next { interruptWrite s with resetHeld := true }

/-- R176: RESET_LINE_RELEASE begins a warm start of a powered module whose line was held. -/
def execResetLineRelease (bad : List EntryRef) (s : State) : Host.Outcome State Fault Refusal :=
  .next (if !s.resetHeld then s
    else if s.powered then warmStart .resetLine bad { s with resetHeld := false }
    else { s with resetHeld := false })

/-- R170, R176: WARM_START, due once the REPLY to an accepted RESTART has left the line. -/
def execWarmStart (bad : List EntryRef) (s : State) : Host.Outcome State Fault Refusal :=
  acting (fun s => if s.restartDue then warmStart .modeRestart bad s else s) s

/-- R177: the uptime counter rises by 1 and wraps. -/
def tickUptime (s : State) : State := { s with uptime := (s.uptime + 1) % Config.uptimeModulus }

/-- A timer of whole seconds counts down to 0, where its expiry is due (log entry 3). -/
def countDown : Option Nat → Option Nat
  | some (n + 1) => some n
  | x => x

/-- R55, R69, R123, R144: every running timer of whole seconds counts down. -/
def tickTimers (s : State) : State :=
  { s with
    run := { s.run with delay := countDown s.run.delay, deadline := countDown s.run.deadline }
    outs := s.outs.map (fun p => (p.1, { p.2 with timer := countDown p.2.timer }))
    ff := { s.ff with timer := countDown s.ff.timer }
    plant := { s.plant with hold := { s.plant.hold with timer := countDown s.plant.hold.timer } } }

/-- R177: UPTIME_TICK. The counter goes on while the reset line is held; the timers of the blocks do not. -/
def execUptimeTick (s : State) : Host.Outcome State Fault Refusal :=
  .next (if !s.powered then s else if s.resetHeld then tickUptime s else tickTimers (tickUptime s))

/-- R176: POWER_FAILURE. A write under way is cut off (R174). -/
def execPowerFailure (s : State) : Host.Outcome State Fault Refusal :=
  .next { interruptWrite s with powered := false }

end Sys2Proof.Machine
end

