-- ==== Sys2Proof/Machine/RequestCommands.lean ====
section
/-! DEFINITION. The request rows, each served for its requester (chapters 1, 2, 4, 8, 9, 10 and 11). -/

namespace Sys2Proof.Machine

/-- R12: ZONE_ISOLATE_ON. -/
def execZoneIsolateOn (req : Requester) (zone : Nat) (s : State) : Host.Outcome State Fault Refusal :=
  serving (.zoneIsolateOn req zone) (serveIsolateOn req zone) s

/-- R14: ZONE_ISOLATE_OFF. -/
def execZoneIsolateOff (req : Requester) (zone : Nat) (s : State) : Host.Outcome State Fault Refusal :=
  serving (.zoneIsolateOff req zone) (serveIsolateOff req zone) s

/-- R79: OUTPUT_RESET. -/
def execOutputReset (req : Requester) (output : Nat) (s : State) : Host.Outcome State Fault Refusal :=
  serving (.outputReset req output) (serveOutputReset req output) s

/-- R166: FAULT_ACK. -/
def execFaultAck (req : Requester) (sequence later : Nat) (s : State) : Host.Outcome State Fault Refusal :=
  serving (.faultAck req sequence later) (serveFaultAck req sequence later) s

/-- R167: TRAIL_READ. -/
def execTrailRead (req : Requester) (start count : Nat) (s : State) : Host.Outcome State Fault Refusal :=
  serving (.trailRead req start count) (serveTrailRead req start count) s

/-- R155: STATUS_ASK_SUMMARY. -/
def execStatusAskSummary (req : Requester) (index part : Nat) (s : State) : Host.Outcome State Fault Refusal :=
  serving (.statusAskSummary req index part)
    (fun s => answerStatus req 0 index part (index == 0) (summaryReport s) s) s

/-- R155: STATUS_ASK_ZONE. -/
def execStatusAskZone (req : Requester) (index part : Nat) (s : State) : Host.Outcome State Fault Refusal :=
  serving (.statusAskZone req index part)
    (fun s => answerStatus req 1 index part (decide (1 ≤ index) && decide (index ≤ 32)) (zoneReport s index) s) s

/-- R155: STATUS_ASK_OUTPUT. -/
def execStatusAskOutput (req : Requester) (index part : Nat) (s : State) : Host.Outcome State Fault Refusal :=
  serving (.statusAskOutput req index part)
    (fun s => answerStatus req 2 index part (decide (1 ≤ index) && decide (index ≤ 160)) (outputReport s index) s) s

/-- R155: STATUS_ASK_RUN. -/
def execStatusAskRun (req : Requester) (index part : Nat) (s : State) : Host.Outcome State Fault Refusal :=
  serving (.statusAskRun req index part)
    (fun s => answerStatus req 3 index part (index == 0) (runReport s) s) s

/-- R155: STATUS_ASK_BOARD. -/
def execStatusAskBoard (req : Requester) (index part : Nat) (s : State) : Host.Outcome State Fault Refusal :=
  serving (.statusAskBoard req index part)
    (fun s => answerStatus req 4 index part (decide (1 ≤ index) && decide (index ≤ 8)) (boardReport s index) s) s

/-- R155: STATUS_ASK_FIRST_FAULT. -/
def execStatusAskFirstFault (req : Requester) (index part : Nat) (s : State) : Host.Outcome State Fault Refusal :=
  serving (.statusAskFirstFault req index part)
    (fun s => answerStatus req 5 index part (index == 0) (firstFaultReport s) s) s

/-- R170: ENTER_SERVICE. -/
def execEnterService (req : Requester) (s : State) : Host.Outcome State Fault Refusal :=
  serving (.enterService req) (serveEnterService req) s

/-- R170: ENTER_NORMAL. -/
def execEnterNormal (req : Requester) (s : State) : Host.Outcome State Fault Refusal :=
  serving (.enterNormal req) (serveEnterNormal req) s

/-- R171: VALIDATION_COMPLETE, while an ENTER_NORMAL is being validated. -/
def execValidationComplete (s : State) : Host.Outcome State Fault Refusal :=
  acting (fun s => match s.validating with
    | some req => serveValidation req s
    | none => s) s

/-- R170: MODE_RESTART. -/
def execModeRestart (req : Requester) (s : State) : Host.Outcome State Fault Refusal :=
  serving (.modeRestart req) (serveRestart req) s

/-- R172: TSEL. -/
def execTsel (req : Requester) (table index : Nat) (s : State) : Host.Outcome State Fault Refusal :=
  serving (.tsel req table index) (serveTsel req table index) s

/-- R173: TRD. -/
def execTrd (req : Requester) (s : State) : Host.Outcome State Fault Refusal := serving (.trd req) (serveTrd req) s

/-- R173: TWR. -/
def execTwr (req : Requester) (index : Nat) (entry : List Byte) (s : State) : Host.Outcome State Fault Refusal :=
  serving (.twr req index entry) (serveTwr req index entry) s

/-- R174: NV_WRITE_COMPLETE, while a write is under way. -/
def execNvWriteComplete (readBackEqual : Bool) (s : State) : Host.Outcome State Fault Refusal :=
  acting (fun s => match s.nvWrite with
    | some w => serveNvWrite w readBackEqual s
    | none => s) s

/-- R31: TEST_RUN. -/
def execTestRun (req : Requester) (scenario : Nat) (s : State) : Host.Outcome State Fault Refusal :=
  serving (.testRun req scenario) (serveTestRun req scenario) s

/-- R32: TEST_END. -/
def execTestEnd (req : Requester) (s : State) : Host.Outcome State Fault Refusal :=
  serving (.testEnd req) (serveTestEnd req) s

/-- R142: HOLD_ASK. -/
def execHoldAsk (req : Requester) (s : State) : Host.Outcome State Fault Refusal :=
  serving (.holdAsk req) (serveHoldAsk req) s

/-- R145: HOLD_END. -/
def execHoldEnd (req : Requester) (s : State) : Host.Outcome State Fault Refusal :=
  serving (.holdEnd req) (serveHoldEnd req) s

end Sys2Proof.Machine
end

