-- ==== Sys2Proof/Machine/RunCommands.lean ====
section
/-! DEFINITION. The Selector's decision and the expiries of the blocks' timers of whole seconds (R23, R43, R45, R71,
R98, R124). -/

namespace Sys2Proof.Machine

/-- R19, R23: the Selector takes what has reached it. Outside NORMAL mode it is discarded without a decision. -/
def noticeTaken (during : List (List IntakeArrival)) (s : State) : State :=
  match s.selector with
  | [] => s
  | _ :: rest =>
    let t := { s with selector := rest }
    if s.mode = .normal then endStep (placementDecision during t) else t

/-- R171: while a validation is under way the groups are kept for the decision at its end (log entry 19). -/
def giveForEntry (during : List (List IntakeArrival)) (s : State) : State :=
  if s.validating.isSome then { s with entryIntake := during } else s

/-- R23: PLACEMENT_DECISION. -/
def execPlacementDecision (during : List (List IntakeArrival)) (s : State) : Host.Outcome State Fault Refusal :=
  acting (fun s => noticeTaken during (giveForEntry during s)) s

/-- R43: DELAY_TIMER_EXPIRY, when the DELAY timer has run out. -/
def execDelayTimerExpiry (s : State) : Host.Outcome State Fault Refusal :=
  acting (fun s => if s.run.delay = some 0 then endStep (delayExpired s) else s) s

/-- R45: ESTABLISH_DEADLINE_EXPIRY, when the deadline has run out with the run STAGING. -/
def execEstablishDeadlineExpiry (s : State) : Host.Outcome State Fault Refusal :=
  acting (fun s =>
    if s.run.state = .staging ∧ s.run.deadline = some 0 then endStep (deadlineExpired s) else s) s

/-- R71: PROOF_TIMER_EXPIRY, when the output's proof timer has run out. -/
def execProofTimerExpiry (output : Nat) (s : State) : Host.Outcome State Fault Refusal :=
  acting (fun s => if (outRec s output).timer = some 0 then endStep (proofExpired output s) else s) s

/-- R98: START_HELD, when the fan waits unwarned for longer than hold_warn. -/
def execStartHeld (output : Nat) (s : State) : Host.Outcome State Fault Refusal := acting (warnHeld output) s

/-- R124: SUPERVISION_TIMER_EXPIRY, when the supervision timer has run out. -/
def execSupervisionTimerExpiry (s : State) : Host.Outcome State Fault Refusal :=
  acting (fun s => if s.ff.timer = some 0 then panelLost s else s) s

end Sys2Proof.Machine
end

