-- ==== Sys2Proof/Machine/Dispatch.lean ====
section
/-! DEFINITION. The effect of each command on everything but the queue of waiting commands. -/

namespace Sys2Proof.Machine

def exec (i : Instr) (s : State) : Host.Outcome State Fault Refusal :=
  match i with
  | .powerUp bad => Sys2Proof.Machine.execPowerUp bad s
  | .resetLineAssert => Sys2Proof.Machine.execResetLineAssert s
  | .resetLineRelease bad => Sys2Proof.Machine.execResetLineRelease bad s
  | .warmStart bad => Sys2Proof.Machine.execWarmStart bad s
  | .uptimeTick => Sys2Proof.Machine.execUptimeTick s
  | .panelFrameReceived bytes => Sys2Proof.Machine.execPanelFrameReceived bytes s
  | .requestArrival frame => Sys2Proof.Machine.execRequestArrival frame s
  | .requestTaken => Sys2Proof.Machine.execRequestTaken s
  | .outboundFrameSent => Sys2Proof.Machine.execOutboundFrameSent s
  | .zoneEvent zone source cls => Sys2Proof.Machine.execZoneEvent zone source cls s
  | .zoneReset zone => Sys2Proof.Machine.execZoneReset zone s
  | .supplyState board source => Sys2Proof.Machine.execSupplyState board source s
  | .ffState src payload => Sys2Proof.Machine.execFfState src payload s
  | .bldCmd src payload => Sys2Proof.Machine.execBldCmd src payload s
  | .zoneIsolateOn req zone => Sys2Proof.Machine.execZoneIsolateOn req zone s
  | .zoneIsolateOff req zone => Sys2Proof.Machine.execZoneIsolateOff req zone s
  | .outputReset req output => Sys2Proof.Machine.execOutputReset req output s
  | .faultAck req sequence later => Sys2Proof.Machine.execFaultAck req sequence later s
  | .trailRead req start count => Sys2Proof.Machine.execTrailRead req start count s
  | .statusAskSummary req index part => Sys2Proof.Machine.execStatusAskSummary req index part s
  | .statusAskZone req index part => Sys2Proof.Machine.execStatusAskZone req index part s
  | .statusAskOutput req index part => Sys2Proof.Machine.execStatusAskOutput req index part s
  | .statusAskRun req index part => Sys2Proof.Machine.execStatusAskRun req index part s
  | .statusAskBoard req index part => Sys2Proof.Machine.execStatusAskBoard req index part s
  | .statusAskFirstFault req index part => Sys2Proof.Machine.execStatusAskFirstFault req index part s
  | .enterService req => Sys2Proof.Machine.execEnterService req s
  | .enterNormal req => Sys2Proof.Machine.execEnterNormal req s
  | .validationComplete => Sys2Proof.Machine.execValidationComplete s
  | .modeRestart req => Sys2Proof.Machine.execModeRestart req s
  | .tsel req table index => Sys2Proof.Machine.execTsel req table index s
  | .trd req => Sys2Proof.Machine.execTrd req s
  | .twr req index entry => Sys2Proof.Machine.execTwr req index entry s
  | .nvWriteComplete readBackEqual => Sys2Proof.Machine.execNvWriteComplete readBackEqual s
  | .testRun req scenario => Sys2Proof.Machine.execTestRun req scenario s
  | .testEnd req => Sys2Proof.Machine.execTestEnd req s
  | .holdAsk req => Sys2Proof.Machine.execHoldAsk req s
  | .holdEnd req => Sys2Proof.Machine.execHoldEnd req s
  | .forwardCandidate frame => Sys2Proof.Machine.execForwardCandidate frame s
  | .placementDecision during => Sys2Proof.Machine.execPlacementDecision during s
  | .delayTimerExpiry => Sys2Proof.Machine.execDelayTimerExpiry s
  | .establishDeadlineExpiry => Sys2Proof.Machine.execEstablishDeadlineExpiry s
  | .plantSendComplete => Sys2Proof.Machine.execPlantSendComplete s
  | .plantFrameReceived bytes => Sys2Proof.Machine.execPlantFrameReceived bytes s
  | .cmdAck channel result => Sys2Proof.Machine.execCmdAck channel result s
  | .stateReply readings => Sys2Proof.Machine.execStateReply readings s
  | .forwardReply kind payload => Sys2Proof.Machine.execForwardReply kind payload s
  | .proofTimerExpiry output => Sys2Proof.Machine.execProofTimerExpiry output s
  | .replyWindowExpiry => Sys2Proof.Machine.execReplyWindowExpiry s
  | .pacerTimerExpiry => Sys2Proof.Machine.execPacerTimerExpiry s
  | .forwardWaitExpiry place => Sys2Proof.Machine.execForwardWaitExpiry place s
  | .holdTimerExpiry => Sys2Proof.Machine.execHoldTimerExpiry s
  | .startHeld output => Sys2Proof.Machine.execStartHeld output s
  | .supervisionTimerExpiry => Sys2Proof.Machine.execSupervisionTimerExpiry s
  | .powerFailure => Sys2Proof.Machine.execPowerFailure s

end Sys2Proof.Machine
end

