-- ==== Sys2Proof/Safety.lean ====
section
/-! DEFINITION. What the claims call a legal state: the bounds and agreements that the manual states of its records. They
hold after reset, and every step keeps them. -/

namespace Sys2Proof.Machine

/-- R161: at most 256 entries with consecutive sequence numbers modulo 65536, the newest one below the next number. -/
def trailOk (c : Capture) : Prop :=
  c.trail.length ≤ Config.trailSize ∧ c.nextSequence < 65536 ∧
    ∀ k < c.trail.length,
      (c.trail[k]?).map (fun e => e.sequence) = some ((c.nextSequence + 65536 - (c.trail.length - k)) % 65536)

/-- R2, R5, R13, 1.3: what holds of every zone runtime record. -/
def zoneRecOk (r : ZoneRec) : Prop :=
  r.sources.length ≤ Config.sourceSetSize ∧ (r.sources.map (fun a => a.address)).Nodup ∧
    r.confirmation.isSome = isConfirmed r.state ∧ (r.state = .normal → r.sources = []) ∧
    (r.held = true → r.state = .isolated)

/-- Every zone runtime record is legal. -/
def zonesOk (s : State) : Prop := ∀ p ∈ s.zones, zoneRecOk p.2

/-- The uptime (R177), the later count (R163), the run fault list (R36), the buffers and counts of the Panel Link Interface
(R148), and the Controller's forward queue, tag counter, error count and stray count (R127) within their stated sizes and
ranges. ListsOk has the others. -/
structure BoundsOk (s : State) : Prop where
  uptime : s.uptime < Config.uptimeModulus
  later : s.capture.later ≤ 255
  faults : s.run.faults.length ≤ Config.faultListSize ∧ s.run.faults.Nodup
  inbound : s.panel.inbound.length ≤ Config.inboundSize
  outbound : s.panel.outbound.length ≤ Config.outboundSize
  panelErrors : s.panel.errors ≤ 65535
  panelOverruns : s.panel.overruns ≤ 65535
  plantErrors : s.plant.errors ≤ 65535
  plantStrays : s.plant.strays ≤ 65535
  forward : s.plant.forward.length ≤ Config.forwardSize
  tag : s.plant.tagCounter < 256

/-- A test run is active (R31). -/
def testActive (s : State) : Prop := fireMode s = true ∧ s.run.test = true

/-- R174: a non-volatile write is under way only in SERVICE mode with no test run, and not during a validation. -/
def writeGuarded (s : State) : Prop :=
  s.nvWrite.isSome = true → s.mode = .service ∧ s.validating = none ∧ ¬ testActive s

/-- R170, R171: a validation is under way only in SERVICE mode with no test run. -/
def validationGuarded (s : State) : Prop :=
  s.validating.isSome = true → s.mode = .service ∧ ¬ testActive s

/-- The request row may be served now (R153, R176). -/
def Serves (row : Instr) (s : State) : Prop := awake s = true ∧ mayServe row s = true

/-- No report between blocks waits: what every command leaves behind it (log entry 4). -/
def quiet (s : State) : Prop := s.runnerIn = [] ∧ s.monitorIn = []

/-! ### The stores' canonical form -/

/-- Each table's entries rise in index, and none is a blank entry. -/
structure TablesCanonical (t : Tables) : Prop where
  outputs : sparseWf blankOutput t.outputs = true
  zones : sparseWf blankZone t.zones = true
  scenarios : sparseWf blankScenario t.scenarios = true
  joints : sparseWf blankJoint t.joints = true
  steps : sparseWf blankStep t.steps = true
  boards : sparseWf blankBoard t.boards = true
  windows : sparseWf blankWindow t.windows = true

/-- Every addressed store of the state is in its canonical form, so that equal contents are equal data. -/
structure Canonical (s : State) : Prop where
  tables : TablesCanonical s.tables
  nv : TablesCanonical s.nv
  zones : sparseWf coldZone s.zones = true
  outs : sparseWf coldOut s.outs = true
  boards : sparseWf BoardSource.unknown s.boards = true
  modules : sparseWf coldModule s.plant.modules = true
  zoneSwitches : sparseWf ZoneSwitch.auto s.ff.zoneSwitches = true
  outputSwitches : sparseWf OutputSwitch.auto s.ff.outputSwitches = true
  lastIssued : sparseWf (none : Option Nat) s.run.lastIssued = true

/-! ### Laws of the machine as a whole -/

/-- R31, R169 to R171, R174: which modes a run, a write and a validation are possible in. -/
structure ModesOk (s : State) : Prop where
  start : s.mode = .start → fireMode s = false
  normal : s.mode = .normal → ¬ testActive s
  service : s.mode = .service → fireMode s = true → s.run.test = true
  write : writeGuarded s
  validation : validationGuarded s

/-- R26, first law, with R31 and R49: a zone that is ACTIVE is a served zone of a run that is not a test run; a test run
serves no zone, and there is no served zone without a run. -/
structure ServedOk (s : State) : Prop where
  active : ∀ z, (zoneRec s z).state = .active → fireMode s = true ∧ s.run.test = false ∧ z ∈ s.run.served
  test : testActive s → s.run.served = []
  idle : fireMode s = false → s.run.served = []

/-- The demand of a fan's slot, 0 where it holds none. -/
def slotDemand (r : OutRec) : Nat :=
  match r.slot with
  | some sl => sl.demand
  | none => 0

/-- R90: on every board the slot holders number no more than start_limit, and their start demands together never exceed
the capacity of the present source. -/
def SlotsOk (s : State) : Prop :=
  ∀ b, (slotHolders s b).length ≤ (boardEntry s b).startLimit ∧
    ((slotHolders s b).map (fun f => slotDemand (outRec s f))).sum ≤ capacity s b

/-- R60: the resolved command of every configured output is that of its layers. -/
def LayersOk (s : State) : Prop := ∀ o ∈ configured s, (outRec s o).resolved = resolve (outEntry s o) (outRec s o)

/-- R128, 3.1: the ranges of table fields that bound lists and counts. -/
structure TablesInRange (t : Tables) : Prop where
  stepCounts : ∀ p ∈ t.scenarios, p.2.stepCount ≤ 48
  link : t.link.retryLimit ≤ 3 ∧ t.link.fastPerSlow ≤ 8 ∧ t.link.burstLimit ≤ 16

/-- R36: the in-flight set holds no more steps than the cursor has passed, so at most 48, and no output twice; there is none
without a run; a DELAY timer runs only at a step whose gate is DELAY. R57, R66: the command queue holds each QUEUED output once and no other; a
proof timer runs only in MOVING, STARTING and STOPPING; an output at NONE is SETTLED or UNKNOWN. R127: the rings hold no
module twice, and the miss, fast and burst counts keep their ranges. -/
structure ListsOk (s : State) : Prop where
  tables : TablesInRange s.tables
  stored : TablesInRange s.nv
  writing : ∀ w, s.nvWrite = some w → fieldsInRange w.ref.table w.fields = true
  flight : s.run.inFlight.length ≤ s.run.cursor ∧ s.run.cursor ≤ (scenarioEntry s).stepCount
  flightOnce : (s.run.inFlight.map (fun i => (stepOf s.tables i).output)).Nodup
  delay : s.run.delay.isSome = true → s.run.cursor < (scenarioEntry s).stepCount ∧
    (stepOf s.tables ((scenarioEntry s).firstStep + s.run.cursor)).gate = 2
  idle : fireMode s = false → s.run.cursor = 0 ∧ s.run.inFlight = [] ∧ s.run.delay = none
  queueOnce : (s.queue.map (fun x => x.output)).Nodup
  queued : ∀ o, o ∈ s.queue.map (fun x => x.output) ↔ (outRec s o).act = .queued
  atNone : ∀ o, (outRec s o).resolved = none → (outRec s o).act = .settled ∨ (outRec s o).act = .unknown
  timer : ∀ o, (outRec s o).timer.isSome = true → proving (outRec s o).act = true
  superseded : ∀ o, (outRec s o).superseded ≤ 255
  fastRing : s.plant.fastRing.Nodup
  slowRing : s.plant.slowRing.Nodup
  misses : ∀ m, (moduleRec s m).misses ≤ 4 ∧ ((moduleRec s m).state ≠ .missing → (moduleRec s m).misses ≤ 3)
  fastCount : s.plant.fastCount ≤ 8
  burst : s.plant.burst ≤ 16

/-! ### Words for the claims -/

/-- The rows that are requests (12.3). -/
def isRequestRow : Instr → Bool
  | .zoneIsolateOn _ _ | .zoneIsolateOff _ _ | .outputReset _ _ | .faultAck _ _ _ | .trailRead _ _ _
  | .statusAskSummary _ _ _ | .statusAskZone _ _ _ | .statusAskOutput _ _ _ | .statusAskRun _ _ _
  | .statusAskBoard _ _ _ | .statusAskFirstFault _ _ _ | .enterService _ | .enterNormal _ | .modeRestart _
  | .tsel _ _ _ | .trd _ | .twr _ _ _ | .testRun _ _ | .testEnd _ | .holdAsk _ | .holdEnd _ => true
  | _ => false

/-- Events recorded one after another, each with its subject and detail. -/
def recordAll (es : List (Ev × Nat × Nat)) (s : State) : State :=
  es.foldl (fun t e => recordEntry e.1 e.2.1 e.2.2 t) s

/-- R174: what non-volatile memory may hold after a write was cut off: the entry as it was, or as written. -/
def cutOff (s : State) (nv : Tables) : Prop :=
  nv = s.nv ∨ ∃ w, s.nvWrite = some w ∧ nv = putEntry w.ref w.fields s.nv

/-- R176: the events of a start after its read: MODE_CHANGE, after CONFIG_INVALID where validation failed. -/
def startEvents (failing : Option EntryRef) : List (Ev × Nat × Nat) :=
  match failing with
  | none => [(.modeChange, 0, 2)]
  | some r => [(.configInvalid, tableCode r.table, r.index), (.modeChange, 0, 1)]

/-- R3, R37, R58, R66, R85, R102, R115, R129, R148, R169, R172, R176: what a start leaves, after the entries `bad` of
`nv` failed their integrity check. -/
structure Started (bad : List EntryRef) (nv : Tables) (t : State) : Prop where
  awake : awake t = true
  tables : t.tables = bad.foldl (fun t r => blankEntry r t) nv
  failing : t.failing = validate t.tables bad
  mode : t.mode = if (validate t.tables bad).isNone then .normal else .service
  window : t.window = { selected := none, cursor := 0 }
  write : t.nvWrite = none ∧ t.validating = none ∧ t.restartDue = false
  zones : t.zones = []
  run : t.run = coldRun
  watches : t.watches = []
  outs : t.outs = coldOuts t.tables
  queue : t.queue = []
  boards : t.boards = []
  ff : t.ff = coldFf t.tables.link.supervision
  plant : t.plant =
    { coldPlant with
      slowRing := slowMembers t, slowCursor := (slowMembers t).head?, pacer := some t.tables.link.pacer }
  panel : t.panel.inbound = [] ∧ t.panel.inService = none ∧ t.panel.errors = 0 ∧ t.panel.overruns = 0 ∧
    t.panel.reportsMissed = false ∧ t.panel.clearing = false
  notices : t.selector = [] ∧ t.entryIntake = [] ∧ t.runnerIn = [] ∧ t.monitorIn = []

end Sys2Proof.Machine
end

