-- ==== Sys2Proof/WellFormed.lean ====
section
/-! DEFINITION. Which terms of the syntax stand for commands that can occur: every operand fits the field that carries it
(spec/12, 12.1, 12.3, 12.5, 12.6; 11.3). -/

namespace Sys2Proof

/-- A value that one byte carries. -/
def fitsByte (n : Nat) : Bool := decide (n < 256)

/-- A value that two bytes carry. -/
def fitsWord (n : Nat) : Bool := decide (n < 65536)

/-- 12.1: a payload holds 0 to 48 bytes. -/
def fitsPayload (p : List Byte) : Bool := decide (p.length ≤ 48)

/-- 12.1: a frame between SYNC and CHECK. -/
def Frame.wellFormed (f : Frame) : Bool :=
  fitsByte f.dest && fitsByte f.src && fitsByte f.kind && fitsByte f.tag && fitsPayload f.payload

/-- The header bytes of a request. -/
def Requester.wellFormed (r : Requester) : Bool := fitsByte r.station && fitsByte r.tag && fitsByte r.own

/-- 11.3: an index of the table. -/
def EntryRef.wellFormed (r : EntryRef) : Bool :=
  match r.table with
  | .output => decide (1 ≤ r.index) && decide (r.index ≤ 160)
  | .zone => decide (1 ≤ r.index) && decide (r.index ≤ 32)
  | .scenario => decide (1 ≤ r.index) && decide (r.index ≤ 48)
  | .joint => decide (1 ≤ r.index) && decide (r.index ≤ 16)
  | .step => decide (r.index ≤ 1023)
  | .board => decide (1 ≤ r.index) && decide (r.index ≤ 8)
  | .window => decide (1 ≤ r.index) && decide (r.index ≤ 8)
  | .link => decide (r.index = 1)

/-- The fields of a ZONE_EVENT or a ZONE_RESET. -/
def IntakeArrival.wellFormed : IntakeArrival → Bool
  | .event z a c => fitsByte z && fitsWord a && fitsByte c
  | .reset z => fitsByte z

/-- Every operand fits the field that carries it. -/
def Instr.wellFormed : Instr → Bool
  | .powerUp bad => bad.all EntryRef.wellFormed
  | .resetLineAssert => true
  | .resetLineRelease bad => bad.all EntryRef.wellFormed
  | .warmStart bad => bad.all EntryRef.wellFormed
  | .uptimeTick => true
  | .panelFrameReceived _ => true
  | .requestArrival f => f.wellFormed
  | .requestTaken => true
  | .outboundFrameSent => true
  | .zoneEvent z a c => fitsByte z && fitsWord a && fitsByte c
  | .zoneReset z => fitsByte z
  | .supplyState b a => fitsByte b && fitsByte a
  | .ffState a p => fitsByte a && fitsPayload p
  | .bldCmd a p => fitsByte a && fitsPayload p
  | .zoneIsolateOn r z => r.wellFormed && fitsByte z
  | .zoneIsolateOff r z => r.wellFormed && fitsByte z
  | .outputReset r o => r.wellFormed && fitsByte o
  | .faultAck r q n => r.wellFormed && fitsWord q && fitsByte n
  | .trailRead r q n => r.wellFormed && fitsWord q && fitsByte n
  | .statusAskSummary r i p => r.wellFormed && fitsByte i && fitsByte p
  | .statusAskZone r i p => r.wellFormed && fitsByte i && fitsByte p
  | .statusAskOutput r i p => r.wellFormed && fitsByte i && fitsByte p
  | .statusAskRun r i p => r.wellFormed && fitsByte i && fitsByte p
  | .statusAskBoard r i p => r.wellFormed && fitsByte i && fitsByte p
  | .statusAskFirstFault r i p => r.wellFormed && fitsByte i && fitsByte p
  | .enterService r => r.wellFormed
  | .enterNormal r => r.wellFormed
  | .validationComplete => true
  | .modeRestart r => r.wellFormed
  | .tsel r t i => r.wellFormed && fitsByte t && fitsWord i
  | .trd r => r.wellFormed
  | .twr r i e => r.wellFormed && fitsWord i && decide (e.length ≤ 46)
  | .nvWriteComplete _ => true
  | .testRun r n => r.wellFormed && fitsByte n
  | .testEnd r => r.wellFormed
  | .holdAsk r => r.wellFormed
  | .holdEnd r => r.wellFormed
  | .forwardCandidate f => f.wellFormed
  | .placementDecision gs => gs.all (fun g => g.all IntakeArrival.wellFormed)
  | .delayTimerExpiry => true
  | .establishDeadlineExpiry => true
  | .plantSendComplete => true
  | .plantFrameReceived _ => true
  | .cmdAck c r => fitsByte c && fitsByte r
  | .stateReply b => fitsPayload b
  | .forwardReply k p => fitsByte k && fitsPayload p
  | .proofTimerExpiry o => decide (1 ≤ o) && decide (o ≤ 160)
  | .replyWindowExpiry => true
  | .pacerTimerExpiry => true
  | .forwardWaitExpiry n => decide (n < Config.forwardSize)
  | .holdTimerExpiry => true
  | .startHeld o => decide (1 ≤ o) && decide (o ≤ 160)
  | .supervisionTimerExpiry => true
  | .powerFailure => true

end Sys2Proof
end

