-- ==== Sys2Proof/Certificates/Slice0/Obligations.lean ====
section
/-! DEFINITION. The statements about the model, for the provers. A statement that gives a command's outcome names the next
state by the writes that make it, each one of the named operations of the model. -/

open Sys2Proof Sys2Proof.Machine

/-! ### Every step -/

/-- One step runs the command at the front of the queue on the state with the queue's rest. On an empty queue the block
idles, which is the model's choice (log entry 17). -/
def Obligations.StepRunsTheFrontCommand : Prop :=
  (∀ (c : Instr) (s : State), step { s with pending := c :: s.pending } = exec c s) ∧
    ∀ s : State, s.pending = [] → step s = .next s

/-- No command ends in a fault or a refusal, and none touches the queue of waiting commands. -/
def Obligations.EveryCommandRunsAndLeavesTheQueue : Prop :=
  ∀ (c : Instr) (s : State), ∃ t, exec c s = .next t ∧ t.pending = s.pending

/-- R177: the uptime counter is 0 after a power-up, rises by 1 at a tick of a powered module, modulo 4294967296, also
while the reset line is held, and every other command leaves it. That it stands at a tick without supply is the model's
choice (log entry 27). -/
def Obligations.UptimeMovesByTickAndPowerUpOnly : Prop :=
  ∀ (c : Instr) (s t : State), exec c s = .next t →
    match c with
    | .powerUp _ => t.uptime = 0
    | .uptimeTick => t.uptime = if s.powered then (s.uptime + 1) % 4294967296 else s.uptime
    | _ => t.uptime = s.uptime

/-- R174: outside a start, which reads them, the tables in force change only when a non-volatile write ends with an equal
read-back: in SERVICE mode, with no test run, and by the one entry written. -/
def Obligations.TablesAreWrittenByTwrOnly : Prop :=
  ∀ (c : Instr) (s t : State), ModesOk s → exec c s = .next t → t.tables ≠ s.tables →
    (match c with
    | .powerUp _ | .resetLineRelease _ | .warmStart _ => True
    | .nvWriteComplete readBackEqual =>
      readBackEqual = true ∧ s.mode = .service ∧ ¬ testActive s ∧
        ∃ w, s.nvWrite = some w ∧ t.tables = putEntry w.ref w.fields s.tables
    | _ => False)

/-- R31, R169 to R171, R174: every step keeps the modes' laws: no run in START, no test run in NORMAL, no other run in
SERVICE, and a write or a validation under way only in SERVICE with no test run. -/
def Obligations.ModesStayLegal : Prop := ∀ s t : State, ModesOk s → step s = .next t → ModesOk t

/-- R165, R166: whatever the command, a LOCKED record's captured fault stands, its lost flag stays set once set and its
later count never falls, except at a cold start and at a FAULT_ACK that carries the record's own sequence and count. -/
def Obligations.FirstFaultLeavesByAcknowledgementOnly : Prop :=
  ∀ (c : Instr) (s t : State) (k : Captured), s.capture.locked = some k → exec c s = .next t →
    (t.capture.locked = some k ∧ (s.capture.lost = true → t.capture.lost = true) ∧
        s.capture.later ≤ t.capture.later) ∨
      (∃ bad, c = .powerUp bad) ∨
      ∃ req, c = .faultAck req k.entry.sequence s.capture.later

/-- R2, R5, R13: every step keeps the zone records legal: at most 8 sources, no address twice, reason and stamp present
exactly while confirmed, a NORMAL zone without sources, the held flag set only while ISOLATED. -/
def Obligations.ZoneRecordsStayLegal : Prop := ∀ s t : State, zonesOk s → step s = .next t → zonesOk t

/-- R36, R127, R148, R161, R163, R177: every step keeps the run fault list, the inbound and outbound buffers and the forward
queue within their sizes, and the uptime, the later count, the tag counter and the four error, stray and overrun counts within
their ranges; and keeps the trail at no more than 256 entries with consecutive numbers modulo 65536 that end just below
the next number. The in-flight set, the command queue, the rings and the other counts are the next statement's. -/
def Obligations.ListsCountsAndTrailStayInBounds : Prop :=
  ∀ s t : State, BoundsOk s → trailOk s.capture → step s = .next t → BoundsOk t ∧ trailOk t.capture

/-- R36, R57, R66, R127: with the tables in their ranges, every step keeps the in-flight set at no more steps than the cursor
has passed, so at most 48, and without an output twice; the command queue with one entry for each QUEUED output and none
for another; the fast and slow rings without a module twice; and the miss, fast, burst and superseded counts within their
ranges. -/
def Obligations.QueueRingsAndFlightStayInBounds : Prop :=
  ∀ s t : State, Canonical s → ModesOk s → ListsOk s → step s = .next t → ListsOk t

/-- Every step keeps every addressed store of the state in its canonical form. -/
def Obligations.StoresStayCanonical : Prop := ∀ s t : State, Canonical s → step s = .next t → Canonical t

/-- R90: every step keeps each board's slot holders within its start_limit and their start demands together within the
capacity of its present source. -/
def Obligations.StartSlotsStayWithinTheBoard : Prop :=
  ∀ s t : State, Canonical s → SlotsOk s → step s = .next t → SlotsOk t

/-- R60, R61: every step leaves the resolved command of every configured output that of its highest layer entry: the entry
of FF, FIRE, SAFE and BLD in this order that is not NONE, or NONE; a LOW of FF or BLD resolves as HIGH for a FAN_SINGLE.
-/
def Obligations.ResolvedCommandFollowsTheLayers : Prop :=
  (∀ s t : State, Canonical s → LayersOk s → step s = .next t → LayersOk t) ∧
  ∀ (e : OutputEntry) (r : OutRec),
    let single := fun (c : Cmd) => if e.kind = 2 ∧ c = .low then Cmd.high else c
    resolve e r =
      match r.ff, r.fire, r.safe, r.bld with
      | some c, _, _, _ => some (single c)
      | none, some c, _, _ => some c
      | none, none, some c, _ => some c
      | none, none, none, some c => some (single c)
      | none, none, none, none => none

/-- R26, first law: every step leaves each ACTIVE zone a served zone of a run that is not a test run, and a test run
without served zones. -/
def Obligations.ActiveZonesAreServed : Prop :=
  ∀ s t : State, Canonical s → ModesOk s → ServedOk s → step s = .next t → ServedOk t

/-- The laws above hold right after reset. -/
def Obligations.ResetObeysTheLaws : Prop :=
  ModesOk State.reset ∧ trailOk State.reset.capture ∧ zonesOk State.reset ∧ BoundsOk State.reset ∧
    ListsOk State.reset ∧ Canonical State.reset ∧ SlotsOk State.reset ∧ LayersOk State.reset ∧ ServedOk State.reset ∧ quiet State.reset

/-- R2 to R25 and R36 to R49 together: outside starts, a zone record changes only by a ZONE_EVENT or ZONE_RESET (as a row
or as a received frame), a ZONE_ISOLATE, a placement decision or the end of a validation. The run's scenario, served
zones and TEST flag change only by a placement decision, the end of a validation, TEST_RUN or TEST_END. -/
def Obligations.OnlyTheirOwnersMoveZonesAndRuns : Prop :=
  ∀ (c : Instr) (s t : State), exec c s = .next t →
    (match c with
    | .powerUp _ | .resetLineRelease _ | .warmStart _ | .placementDecision _ | .validationComplete => True
    | .panelFrameReceived _ | .zoneEvent _ _ _ | .zoneReset _ | .zoneIsolateOn _ _ | .zoneIsolateOff _ _ => True
    | _ => t.zones = s.zones) ∧
    (match c with
    | .powerUp _ | .resetLineRelease _ | .warmStart _ | .placementDecision _ | .validationComplete => True
    | .testRun _ _ | .testEnd _ => True
    | _ => t.run.scenario = s.run.scenario ∧ t.run.served = s.run.served ∧ t.run.test = s.run.test)

/-! ### Starts, power and the clock (chapter 11) -/

/-- R176, R177: a power-up with the reset line released is a cold start. The tables are read, an entry whose integrity
check fails as its blank entry; uptime, trail and first-fault record begin again; the mode becomes NORMAL, or SERVICE
after CONFIG_INVALID, with a MODE_CHANGE event. With the line held, every block takes its values for a start in START
mode, the tables in force stand, and the start waits for the release: the model's choice (log entry 1). The index cursor
of 0 while no table is selected is log entry 1 too. The failing table and index of none before the first validation is log
entry 79. -/
def Obligations.PowerUpIsAColdStart : Prop :=
  (∀ (bad : List EntryRef) (s : State), s.resetHeld = true → ∃ (nv : Tables) (n : Nat),
    cutOff s nv ∧ exec (.powerUp bad) s = .next
      { s with
        powered := true, nv := nv, free := n, nvWrite := none, mode := .start, uptime := 0, capture := coldCapture,
        failing := none, window := { selected := none, cursor := 0 }, validating := none, restartDue := false,
        zones := [], run := coldRun, watches := [], outs := [], queue := [], boards := [],
        ff := coldFf s.tables.link.supervision, plant := coldPlant, panel := coldPanel, selector := [],
        entryIntake := [], runnerIn := [], monitorIn := [] }) ∧
  ∀ (bad : List EntryRef) (s : State), s.resetHeld = false → ∃ (nv : Tables) (t : State),
    cutOff s nv ∧ exec (.powerUp bad) s = .next t ∧ t.nv = nv ∧ Started bad nv t ∧ t.uptime = 0 ∧
      t.capture.locked = none ∧ t.capture.lost = false ∧ t.capture.later = 0 ∧
      (match t.failing with
      | none => t.capture.trail = [⟨0, 0, .modeChange, 0, 2⟩] ∧ t.capture.nextSequence = 1
      | some r =>
        t.capture.trail = [⟨0, 0, .configInvalid, tableCode r.table, r.index⟩, ⟨1, 0, .modeChange, 0, 1⟩] ∧
          t.capture.nextSequence = 2)

/-- R168, R176: the release of a held reset line, and WARM_START once the REPLY to an accepted RESTART has gone, are warm
starts with their causes. Uptime, trail and first-fault record go on, and RESTART is the first event. That a WARM_START
not due and the release of a line not held change nothing, and that a release without supply changes the line alone, are
the model's choice (log entries 18 and 27). The index cursor of 0 while no table is selected is log entry 1. -/
def Obligations.WarmStartsKeepTheRecords : Prop :=
  ∀ (bad : List EntryRef) (s : State),
    (s.powered = true → s.resetHeld = true → ∃ (nv : Tables) (t : State),
      cutOff s nv ∧ exec (.resetLineRelease bad) s = .next t ∧ t.nv = nv ∧ Started bad nv t ∧ t.uptime = s.uptime ∧
        t.capture = (recordAll ((.restart, 0, 1) :: startEvents t.failing) s).capture) ∧
    (awake s = true → s.restartDue = true → ∃ (nv : Tables) (t : State),
      cutOff s nv ∧ exec (.warmStart bad) s = .next t ∧ t.nv = nv ∧ Started bad nv t ∧ t.uptime = s.uptime ∧
        t.capture = (recordAll ((.restart, 0, 2) :: startEvents t.failing) s).capture) ∧
    (s.restartDue = false → exec (.warmStart bad) s = .next s) ∧
    (s.resetHeld = false → exec (.resetLineRelease bad) s = .next s) ∧
    (s.resetHeld = true → s.powered = false →
      exec (.resetLineRelease bad) s = .next { s with resetHeld := false })

/-- R30, R82, R174, R176: asserting the reset line, or losing the supply, cuts off a write under way, the stored entry as it was
or as written, and changes nothing else of the state. While the line is held or the supply is lost the lamps are dark,
ticks of a powered module count the uptime alone, and every command but a power-up, a power failure, an assertion and a
release changes nothing. That the other records stand meanwhile is the model's choice (log entries 18 and 27). A running
sequencer lights FIRE MODE while the run is not IDLE, and FAULT while an output is in FAULT or the record LOCKED. -/
def Obligations.LampsAndTheStoppedSequencer : Prop :=
  (∀ s : State, ∃ (nv : Tables) (n : Nat), cutOff s nv ∧
      exec .resetLineAssert s = .next { s with resetHeld := true, nvWrite := none, nv := nv, free := n }) ∧
  (∀ s : State, ∃ (nv : Tables) (n : Nat), cutOff s nv ∧
      exec .powerFailure s = .next { s with powered := false, nvWrite := none, nv := nv, free := n }) ∧
  (∀ (c : Instr) (s : State), s.powered = false ∨ s.resetHeld = true →
    powerLamp s = s.powered ∧ fireModeLamp s = false ∧ faultLamp s = false ∧
    (match c with
    | .powerUp _ | .powerFailure | .resetLineAssert | .resetLineRelease _ => True
    | .uptimeTick =>
      exec c s = .next (if s.powered then { s with uptime := (s.uptime + 1) % 4294967296 } else s)
    | _ => exec c s = .next s)) ∧
  ∀ s : State, s.powered = true → s.resetHeld = false →
    powerLamp s = true ∧ (fireModeLamp s = true ↔ s.run.state ≠ .idle) ∧
    (faultLamp s = true ↔ (∃ o ∈ configured s, (outRec s o).act = .fault) ∨ s.capture.locked ≠ none)

/-- R55, R69, R123, R144, R177: a tick of a running sequencer raises the uptime by 1 and takes 1 from every running timer
of whole seconds, down to 0 where its expiry is due (log entry 3). Nothing else changes. -/
def Obligations.TickCountsUptimeAndTimers : Prop :=
  ∀ s : State, s.powered = true → s.resetHeld = false → ∃ outs : Sparse OutRec,
    exec .uptimeTick s = .next
      { s with
        uptime := (s.uptime + 1) % 4294967296
        run := { s.run with
          delay := s.run.delay.map (fun n => n - 1)
          deadline := s.run.deadline.map (fun n => n - 1) }
        ff := { s.ff with timer := s.ff.timer.map (fun n => n - 1) }
        plant := { s.plant with hold := { s.plant.hold with timer := s.plant.hold.timer.map (fun n => n - 1) } }
        outs := outs } ∧
      ∀ o, sget coldOut outs o = { outRec s o with timer := (outRec s o).timer.map (fun n => n - 1) }

/-! ### Modes and tables (chapter 11) -/

/-- R170, R171: the three MODE requests, by mode and run. An ENTER_NORMAL in SERVICE mode with no test run stays in service
while the tables are validated. The REPLY OK of a RESTART carries the warm start, due when the frame has been sent. -/
def Obligations.ModeRequestsGoByModeAndRun : Prop :=
  ∀ (req : Requester) (s : State),
    (Serves (.enterService req) s → exec (.enterService req) s = .next
      (match s.mode with
      | .start => answer req .wrongMode s
      | .service => if fireMode s = true ∧ s.run.test = true then answer req .runActive s else answer req .ok s
      | .normal =>
        if s.run.state = .idle then answer req .ok (recordEntry .modeChange 0 (2 * 256 + 1) { s with mode := .service })
        else answer req .runActive s)) ∧
    (Serves (.enterNormal req) s → exec (.enterNormal req) s = .next
      (match s.mode with
      | .start => answer req .wrongMode s
      | .service =>
        if fireMode s = true ∧ s.run.test = true then answer req .runActive s
        else { s with panel := { s.panel with inService := some (.enterNormal req) }, validating := some req }
      | .normal => answer req .ok s)) ∧
    (Serves (.modeRestart req) s → exec (.modeRestart req) s = .next
      (match s.mode with
      | .start => answer req .wrongMode s
      | .service =>
        if fireMode s = true ∧ s.run.test = true then answer req .runActive s
        else answerFrame req 0x40 [0#8] .warmStart s
      | .normal =>
        if s.run.state = .idle then answerFrame req 0x40 [0#8] .warmStart s else answer req .runActive s))

/-- R171: the end of a validation. A failure keeps SERVICE mode, with the failing index, CONFIG_INVALID and INVALID. A
pass re-evaluates the zones, rebuilds the slow ring, makes the mode NORMAL with MODE_CHANGE, revokes the hold where a zone
waits, has the Selector decide, and answers OK. How the row comes to what Zone Intake takes during that decision is log
entry 19. R16, R17: every zone is re-evaluated with its event, and the Selector is told of the confirmations after the
events of all. The ascending order of the zones is the model's choice (log entry 54). Which entry a validation names where
a zone's scenario fails on its steps is log entry 69. R129: the slow ring holds the modules of the configured outputs in
ascending order, its cursor on the lowest. R175, R100: a validation names the first entry, in the order of the tables and
of the indices, whose integrity check failed at the read or which fails its item of R175, and each item is given. That a
STEP entry stands after the scenarios is log entry 14. -/
def Obligations.ValidationEndsInItsOutcome : Prop :=
  (∀ (req : Requester) (s : State), awake s = true → s.validating = some req →
    exec .validationComplete s = .next
      (match validate s.tables [] with
      | some r =>
        answer req .invalid
          (recordEntry .configInvalid (tableCode r.table) r.index
            { s with validating := none, entryIntake := [], failing := some r })
      | none =>
        let u := buildSlowRing (reevaluateZones { s with validating := none, entryIntake := [], failing := none })
        let v := recordEntry .modeChange 0 (modeCode u.mode * 256 + 2) { u with mode := .normal }
        let w := if zoneNumbers.any (fun z => (zoneRec v z).state == .confirmed || (zoneRec v z).state == .secondary)
          then revokeHold v else v
        endStep (answer req .ok (drain (placementDecision s.entryIntake (drain w)))))) ∧
  (∀ s : State,
    let confirmed := fun (z : Nat) => decide ((zoneEntry s z).enabled = 1) && (zoneRec s z).state == .prealarm &&
      decide ((zoneEntry s z).threshold ≤ (zoneRec s z).sources.length)
    let numbers := (List.range 32).map (fun k => k + 1)
    reevaluateZones s = (numbers.filter confirmed).foldl (fun t z => tellConfirmed z t)
      (numbers.foldl (fun t z => reevaluateZone z t) s)) ∧
  (∀ s : State,
    let ring := slowMembers s
    buildSlowRing s = { s with plant := { s.plant with slowRing := ring, slowCursor := ring.head? } } ∧
      ring.Pairwise (fun x y => x < y) ∧ ∀ m, m ∈ ring ↔ ∃ o ∈ configured s, (outEntry s o).module = m) ∧
  (∀ (z : Nat) (s : State),
    let r := zoneRec s z
    let enabled := 1 ≤ z ∧ z ≤ 32 ∧ (zoneEntry s z).enabled = 1
    (¬ enabled → r.state = .normal → reevaluateZone z s = s) ∧
    (¬ enabled → r.state ≠ .normal →
      reevaluateZone z s = recordEntry .zoneReset z (zoneStateCode r.state) (setZone z coldZone s)) ∧
    (enabled → r.state = .prealarm → (zoneEntry s z).threshold ≤ r.sources.length →
      reevaluateZone z s = recordEntry .zoneConfirmed z 0 (setZone z
        { r with state := .confirmed, confirmation := some { reason := .coincidence, stamp := s.uptime } } s)) ∧
    (enabled → ¬ (r.state = .prealarm ∧ (zoneEntry s z).threshold ≤ r.sources.length) → reevaluateZone z s = s)) ∧
  (∀ (t : Tables) (bad : List EntryRef),
    let first := fun (tab : TableId) (low high : Nat) (ok : Nat → Bool) =>
      ((List.range (high + 1 - low)).map (fun k => low + k)).find? (fun n => bad.contains ⟨tab, n⟩ || !ok n)
        |>.map (fun n => (⟨tab, n⟩ : EntryRef))
    validate t bad = List.findSome? id
      [first .link 1 1 (fun _ => linkOk t.link),
        first .output 1 160 (fun o => !isConfigured (outputOf t o) || outputOk t o),
        ((tableFans t).find? (fanBeyond t)).map (fun o => ⟨.output, o⟩),
        first .board 1 8 (fun b => fieldsInRange .board (boardFields (boardOf t b))),
        first .zone 1 32 (fun z => (zoneOf t z).enabled != 1 || zoneOk t z),
        first .scenario 1 48 (fun n => scenarioEntryOk t n && (!scenarioNamed t n || scenarioOk t n)),
        first .step 0 1023 (fun _ => true),
        first .joint 1 16 (fun n => (jointOf t n).zoneA == 0 || jointOk t n),
        first .window 1 8 (fun n => (windowOf t n).count == 0 || windowOk t n)]) ∧
  ∀ (t : Tables) (n : Nat),
    let fits := fun (e : OutputEntry) (c : Nat) => (e.kind = 1 ∧ (c = 1 ∨ c = 2)) ∨
      ((e.kind = 2 ∨ e.kind = 3) ∧ (c = 3 ∨ c = 5)) ∨ (e.kind = 3 ∧ c = 4)
    let fan := fun (o : Nat) => (outputOf t o).kind = 2 ∨ (outputOf t o).kind = 3
    (linkOk t.link = true ↔ fieldsInRange .link (linkFields t.link) = true ∧
      ∀ a ∈ [t.link.firePanel, t.link.ffPanel, t.link.building, t.link.commissioning], a ≠ t.link.own) ∧
    (let e := outputOf t n
    let sb := outputOf t e.standby
    let b := boardOf t e.board
    isConfigured e = true → (outputOk t n = true ↔
      fieldsInRange .output (outputFields e) = true ∧ (e.safeDefault = 0 ∨ fits e e.safeDefault) ∧
      (∀ x ∈ configuredOutputs t, x ≠ n → ¬ ((outputOf t x).module = e.module ∧ (outputOf t x).channel = e.channel)) ∧
      (∀ d ∈ e.path, d ≠ 0 → (outputOf t d).kind = 1) ∧
      (e.standby ≠ 0 → e.standby ≠ n ∧ fan e.standby ∧ sb.standby = 0 ∧
        (∀ x ∈ configuredOutputs t, fan x → x ≠ n → (outputOf t x).standby ≠ e.standby) ∧
        ∀ z < 32, e.standby ∉ (zoneOf t (z + 1)).extract ∧ e.standby ∉ (zoneOf t (z + 1)).reserve) ∧
      (e.kind = 1 → e.tDown = 0 ∧ e.board = 0 ∧ e.standby = 0 ∧ ∀ d ∈ e.path, d = 0) ∧
      (e.kind ≠ 1 → e.role ≠ 2 ∧ 5 ≤ e.tDown ∧ 1 ≤ e.board ∧
        e.runHigh ≤ e.startLoad ∧ e.startLoad ≤ b.capStandby ∧ e.startLoad ≤ b.capMains) ∧
      (e.kind = 3 → e.runLow ≤ e.runHigh ∧ e.runHigh ≤ e.runLow + e.stepLoad ∧
        e.runLow + e.stepLoad ≤ b.capStandby ∧ e.runLow + e.stepLoad ≤ b.capMains))) ∧
    (let upToHere := (tableFans t).filter (fun x => decide (x ≤ n))
    tableFans t = (configuredOutputs t).filter (fun o => (outputOf t o).kind == 2 || (outputOf t o).kind == 3) ∧
    (fanBeyond t n = true ↔ 32 < upToHere.length ∨
      16 < (upToHere.filter (fun x => (outputOf t x).board == (outputOf t n).board)).length)) ∧
    (let e := zoneOf t n
    zoneOk t n = true ↔ fieldsInRange .zone (zoneFields e) = true ∧
      (∀ f ∈ e.extract ++ e.reserve, f ≠ 0 → fan f) ∧ ((e.extract ++ e.reserve).filter (fun f => f != 0)).Nodup ∧
      (∀ x ∈ enabledZones t, x ≠ n → ∀ f ∈ e.extract, f ≠ 0 → f ∉ (zoneOf t x).extract) ∧
      (∀ x ∈ enabledZones t, ∀ f ∈ e.reserve, f ≠ 0 → f ∉ (zoneOf t x).extract) ∧
      (∀ f ∈ e.reserve, f ≠ 0 → (outputOf t f).standby = 0) ∧ scenarioOk t e.scenario = true) ∧
    (let e := scenarioOf t n
    (scenarioEntryOk t n = true ↔ fieldsInRange .scenario (scenarioFields e) = true ∧ e.firstStep + e.stepCount ≤ 1024) ∧
    (scenarioOk t n = true ↔ scenarioEntryOk t n = true ∧ ∀ k < e.stepCount,
      let st := stepOf t (e.firstStep + k)
      fits (outputOf t st.output) st.target ∧ (st.gate = 2 → 1 ≤ st.delay ∧ st.delay ≤ 255)) ∧
    (scenarioNamed t n = true ↔ (∃ z ∈ enabledZones t, (zoneOf t z).scenario = n) ∨
      ∃ p ∈ t.joints, p.2.zoneA ≠ 0 ∧ p.2.scenario = n)) ∧
    (let e := jointOf t n
    let enabled := fun (z : Nat) => 1 ≤ z ∧ z ≤ 32 ∧ (zoneOf t z).enabled = 1
    jointOk t n = true ↔ e.zoneA ≠ e.zoneB ∧ enabled e.zoneA ∧ enabled e.zoneB ∧
      (∀ k < n - 1, let x := jointOf t (k + 1)
        x.zoneA ≠ 0 → ¬ ((x.zoneA = e.zoneA ∧ x.zoneB = e.zoneB) ∨ (x.zoneA = e.zoneB ∧ x.zoneB = e.zoneA))) ∧
      1 ≤ e.scenario ∧ e.scenario ≤ 48 ∧ scenarioOk t e.scenario = true) ∧
    (let w := windowOf t n
    w.count ≠ 0 → (windowOk t n = true ↔ w.panelBase + w.count ≤ 255 ∧ w.plantBase + w.count ≤ 101 ∧
      ∀ k < n - 1, ∀ j < w.count, let x := windowOf t (k + 1)
        ¬ (x.panelBase ≤ w.panelBase + j ∧ w.panelBase + j < x.panelBase + x.count)))

/-- R172, R173: TSEL selects a table and sets the cursor; TRD returns the entry under the cursor as it stands in force and
raises the cursor; each is refused by the first of its checks that fails. -/
def Obligations.TableWindowSelectsAndReads : Prop :=
  ∀ (req : Requester) (table index : Nat) (s : State),
    (Serves (.tsel req table index) s → exec (.tsel req table index) s = .next
      (if s.mode = .start then answer req .wrongMode s
      else match tableOf table with
        | none => answer req .badValue s
        | some t =>
          if firstIndex t ≤ index ∧ index ≤ lastIndex t then
            answer req .ok { s with window := { selected := some t, cursor := index } }
          else answer req .badIndex s)) ∧
    (Serves (.trd req) s → exec (.trd req) s = .next
      (if s.mode = .start then answer req .wrongMode s
      else match s.window.selected with
        | none => answer req .badIndex s
        | some t =>
          if lastIndex t < s.window.cursor then answer req .endOfTable s
          else
            answerFrame req 0x44
              (byte1 (tableCode t) ++ byte2 s.window.cursor
                ++ fieldBytes (fieldWidths t) (entryFields s.tables { table := t, index := s.window.cursor }))
              .nothing { s with window := { s.window with cursor := s.window.cursor + 1 } }))

/-- R173, R174: TWR is checked in the order of R173. An entry that passes stays in service, is being written, and is not
yet in force. A refusal carries the own address; where the link record is the selected table, the one that the TWR was
sent to (log entry 41). That the fans of board 0 are counted as those of a board is log entry 68. R173: check 6 is a range
or set for each field (R34, R35, R84, R128, R156; 1.1, 4.1); that it covers every field, also of an unused entry, and that
a field whose set depends on another has the union is log entry 40. Check 7: at most 16 fans on the board and at most 32
in all. -/
def Obligations.TwrIsCheckedInOrder : Prop :=
  let ranges := fun (t : TableId) => match t with
    | .output =>
      [[(0, 3)], [(1, 100)], [(1, 4)], [(0, 32)], [(1, 3)], [(0, 5)], [(5, 120)], [(0, 0), (5, 300)], [(0, 8)],
        [(0, 4000)], [(0, 4000)], [(0, 4000)], [(0, 4000)], [(0, 600)], [(0, 16)], [(0, 160)]] ++
        List.replicate 4 [(0, 160)] ++ [[(0, 1)]]
    | .zone => [[(0, 1)], [(0, 7)], [(1, 4)], [(1, 48)]] ++ List.replicate 12 [(0, 160)]
    | .scenario => [[(0, 1023)], [(1, 48)], [(10, 900)], [(0, 20000)], [(0, 20000)]]
    | .joint => [[(0, 32)], [(0, 32)], [(1, 48)]]
    | .step => [[(1, 160)], [(1, 5)], [(0, 2)], [(1, 255)]]
    | .board => [[(0, 20000)], [(0, 20000)], [(1, 4)], [(10, 600)]]
    | .window => [[(1, 254)], [(0, 100)], [(1, 100)], [(0, 1)], [(0, 1)]]
    | .link =>
      List.replicate 5 [(1, 254)] ++ [[(101, 254)], [(5, 255)], [(1, 8)], [(1, 16)], [(10, 255)], [(0, 3)], [(1, 255)],
        [(1, 255)], [(10, 3600)], [(2, 60)]]
  (∀ (t : TableId) (f : List Nat),
    fieldsInRange t f = true ↔ f.length = (ranges t).length ∧
      ∀ p ∈ (ranges t).zip f, ∃ r ∈ p.1, r.1 ≤ p.2 ∧ p.2 ≤ r.2) ∧
  (∀ (t : Tables) (board : Nat),
    let fans := (configuredOutputs t).filter (fun o => (outputOf t o).kind == 2 || (outputOf t o).kind == 3)
    fanCountsOk t board = true ↔
      (fans.filter (fun o => (outputOf t o).board == board)).length ≤ 16 ∧ fans.length ≤ 32) ∧
  ∀ (req : Requester) (index : Nat) (entry : List Byte) (s : State), Serves (.twr req index entry) s →
    let refuse := fun (result : Result) =>
      let reply : Frame :=
        { dest := req.station, src := if s.window.selected = some .link then req.own else s.tables.link.own, kind := 0x40,
          tag := req.tag, payload := byte1 (resultCode result) }
      { s with panel := { offerFrame reply .nothing s.panel with inService := none } }
    exec (.twr req index entry) s = .next
      (if s.mode ≠ .service then refuse .wrongMode
      else match s.window.selected with
        | none => refuse .badIndex
        | some t =>
          if fireMode s = true ∧ s.run.test = true then refuse .busy
          else if lastIndex t < s.window.cursor then refuse .endOfTable
          else if index ≠ s.window.cursor then refuse .badIndex
          else match readFields (fieldWidths t) entry with
            | none => refuse .badValue
            | some f =>
              if fieldsInRange t f = false then refuse .badValue
              else if t = .output ∧ isFan (outputOfFields f) = true ∧
                  fanCountsOk (putEntry { table := t, index := index } f s.tables) (outputOfFields f).board = false then
                refuse .badValue
              else { s with
                panel := { s.panel with inService := some (.twr req index entry) }
                nvWrite := some { req := req, ref := { table := t, index := index }, fields := f } })

/-- R174: the end of a write. After an equal read-back the entry is stored and comes into force, the blocks are told, the
cursor rises and the answer is OK. After a differing one the entry in force and the cursor stand and the answer is
STORE_FAILED, with the stored entry as it was or as written (log entry 5). The REPLY carries the own address, or the one
that a TWR of the link record was sent to. R99: a board entry restages its board, which is examined, and its waiting fans
are warned. R81, R99: an output entry of kind UNUSED empties the output's record; one of another kind, module or channel
rebuilds it UNKNOWN, with the layer entries that fit; one of another board or load takes the fan's slot and returns it to
WAIT_START from there and from the states of R95 step 3; any other keeps the record. The resolved command is recomputed,
and the old and the new board are examined. R125: a switch position and a mark that no longer fit are taken back, and the
FF entry is composed. That the rebuilt record keeps last command sent and engaged-as is log entry 35, the order of the
examinations and warnings log entry 59, that the FF entry follows them log entry 65, and that a fan returned to WAIT_START
keeps its held-warned mark log entry 55. -/
def Obligations.WriteEndsInForceOrFailed : Prop :=
  (∀ (w : NvWrite) (s : State), awake s = true → s.nvWrite = some w →
    let answered := fun (result : Result) (u : State) =>
      let reply : Frame :=
        { dest := w.req.station, src := if w.ref.table = .link then w.req.own else u.tables.link.own, kind := 0x40,
          tag := w.req.tag, payload := byte1 (resultCode result) }
      { u with panel := { offerFrame reply .nothing u.panel with inService := none } }
    exec (.nvWriteComplete true) s = .next
      (let stored := { s with nvWrite := none, nv := putEntry w.ref w.fields s.nv }
      let forced := match w.ref.table with
        | .output => ffEntryWritten w.ref.index (outputWritten w.ref.index (outputOfFields w.fields) stored)
        | .board => boardWritten w.ref.index { stored with tables := putEntry w.ref w.fields s.tables }
        | _ => { stored with tables := putEntry w.ref w.fields s.tables }
      let told := drain forced
      endStep (answered .ok { told with window := { told.window with cursor := told.window.cursor + 1 } })) ∧
    ∃ (nv : Tables) (n : Nat), cutOff s nv ∧
      exec (.nvWriteComplete false) s = .next
        (answered .storeFailed { s with nvWrite := none, nv := nv, free := n })) ∧
  let warned := fun (u : State) (f : Nat) =>
    let e := outEntry u f
    let r := outRec u f
    let waited := (u.uptime + 4294967296 - r.joinTime.getD u.uptime) % 4294967296
    if isFan e = true ∧ r.act = .waitStart ∧ r.heldWarned = false ∧ (boardEntry u e.board).holdWarn < waited then
      raise .startHeld f (e.board * 256 + ((waitList u e.board).idxOf f + 1))
        (modOut f (fun r => { r with heldWarned := true }) u)
    else u
  let examined := fun (b : Nat) (s : State) => (waitList (examine b s) b).foldl warned (examine b s)
  (∀ (b : Nat) (s : State), boardWritten b s = examined b (restageBoard b s)) ∧
  (∀ (o : Nat) (new : OutputEntry) (s : State), Canonical s →
    let old := outEntry s o
    let same := new.kind = old.kind ∧ new.module = old.module ∧ new.channel = old.channel
    let loads := new.board ≠ old.board ∨ new.startLoad ≠ old.startLoad ∨ new.runLow ≠ old.runLow ∨
      new.runHigh ≠ old.runHigh ∨ new.stepLoad ≠ old.stepLoad
    let dropped := fun (u : State) => { u with queue := u.queue.filter (fun q => q.output != o) }
    let kept := if same then s else setAct o .unknown s
    let stored := { kept with tables := { kept.tables with outputs := sput blankOutput o new kept.tables.outputs } }
    let r := outRec s o
    let keep := fun (c : Option Cmd) => if fitsKind new c = true then c else none
    let unslotted := modOut o (fun r => { r with slot := none }) stored
    let rebuilt :=
      if isConfigured new = false then modOut o (fun _ => coldOut) (dropped stored)
      else if ¬ same then
        recompute o (modOut o (fun r =>
          { ff := keep r.ff, fire := keep r.fire, safe := keep r.safe, bld := keep r.bld, resolved := r.resolved,
            lastSent := r.lastSent, engaged := r.engaged, act := .unknown, fault := none,
            view := if isFan new = true then .fan .stopped false false else .none, valid := false, unusable := false,
            origin := none, timer := none, clean := false, retried := false, busy := 0, superseded := 0, slot := none,
            joinTime := none, heldWarned := false, waitOpen := false }) (dropped stored))
      else if isFan new = true ∧ loads then
        if ((r.resolved = some .low ∨ r.resolved = some .high) ∧
            (r.act = .queued ∨ r.act = .sent ∨ r.act = .starting ∨ r.act = .settled)) ∨ r.act = .waitStart then
          setAct o .waitStart (dropped (modOut o (fun r =>
            { r with
              retried := false, busy := 0, origin := none, timer := none, clean := false
              joinTime := some (r.joinTime.getD s.uptime), waitOpen := true }) unslotted))
        else unslotted
      else stored
    let t := onOutput o (fun _ => rebuilt) s
    let u := if same then recompute o t else t
    outputWritten o new s = examined new.board (if new.board = old.board then u else examined old.board u)) ∧
  ∀ (o : Nat) (s : State),
    let e := outEntry s o
    let fits :=
      match sget .auto s.ff.outputSwitches o with
      | .auto => isConfigured e
      | .opn | .cls => isDamper e
      | .off | .low | .on => isFan e
    let v := { s with ff := { s.ff with
      outputSwitches := if fits = true then s.ff.outputSwitches else sput .auto o .auto s.ff.outputSwitches
      marks := if isFan e = true then s.ff.marks else s.ff.marks.filter (fun x => x != o) } }
    ffEntryWritten o s = changeLayers (fun o r => { r with ff := composeFf v o })
      ((configured v).filter (fun o => composeFf v o != (outRec v o).ff)) v

/-- R172 to R174, 12.6: an entry that is written reads back as written, every other entry reads as before, the tables keep
their canonical form, and the bytes of an entry within its ranges spell its fields. -/
def Obligations.WrittenEntryReadsBack : Prop :=
  ∀ (t : Tables) (r : EntryRef) (f : List Nat), TablesCanonical t → fieldsInRange r.table f = true →
    entryFields (putEntry r f t) r = f ∧ TablesCanonical (putEntry r f t) ∧
    (∀ r', r.wellFormed = true → r'.wellFormed = true → r' ≠ r →
      entryFields (putEntry r f t) r' = entryFields t r') ∧
    readFields (fieldWidths r.table) (fieldBytes (fieldWidths r.table) f) = some f

/-! ### The panel link (chapters 9 and 12) -/

/-- 12.1, R149, R178: a frame as it is sent is received as that frame. -/
def Obligations.SentFrameIsReceivedAsSent : Prop :=
  ∀ f : Frame, f.wellFormed = true → receive (frameBytes f) = .good f

/-- R149 to R151: what arrives on the panel link is counted as bad, discarded, or sorted by DEST, KIND and sender: into
the inbound buffer, to the Forwarding Map, to its block at once, or to an UNMAPPED_INPUT entry with the fields that R17,
R94 and the frame give. A field that the frame is too short to carry, and the detail of a SUPPLY_STATE, are free values
(log entry 6). That bytes which complete no frame change nothing is the model's choice (log entry 21). That a frame with
surplus bytes is ignored as one that is too short is log entry 70. R150: which station role may send which kind to the own
address, and which kinds are requests. -/
def Obligations.PanelFramesAreSorted : Prop :=
  (∀ (l : LinkRecord) (src kind : Nat),
    permitted l src kind = (src == l.commissioning ||
      match kind with
      | 0x10 | 0x11 | 0x14 => src == l.firePanel
      | 0x18 => src == l.ffPanel
      | 0x1C => src == l.building
      | 0x12 | 0x3A | 0x35 | 0x34 => src == l.firePanel
      | 0x20 => src == l.firePanel || src == l.building
      | _ => false)) ∧
  (∀ kind, kind ∈ requestKinds ↔
    kind ∈ [0x12, 0x3A, 0x35, 0x34, 0x20, 0x30, 0x31, 0x32, 0x33, 0x36, 0x37, 0x38, 0x39]) ∧
  ∀ (bytes : List Byte) (s : State), awake s = true →
    (match receive bytes with
    | .nothing => exec (.panelFrameReceived bytes) s = .next s
    | .bad =>
      exec (.panelFrameReceived bytes) s = .next
        { s with panel := { s.panel with
            errors := if s.panel.errors < 65535 then s.panel.errors + 1 else s.panel.errors } }
    | .good f =>
      let result := exec (.panelFrameReceived bytes) s
      if f.dest = 0 ∨ f.dest = 255 then result = .next s
      else if f.dest ≠ s.tables.link.own then result = exec (.forwardCandidate f) s
      else if f.kind ∈ requestKinds then result = exec (.requestArrival f) s
      else if permitted s.tables.link f.src f.kind = false then
        result = .next (recordEntry .unmappedInput f.src f.kind s)
      else match f.kind, f.payload with
        | 0x10, [z, a, b, c] => result = exec (.zoneEvent z.toNat (a.toNat * 256 + b.toNat) c.toNat) s
        | 0x11, [z] => result = exec (.zoneReset z.toNat) s
        | 0x14, [b, x] => result = exec (.supplyState b.toNat x.toNat) s
        | 0x18, p => result = exec (.ffState f.src p) s
        | 0x1C, p => result = exec (.bldCmd f.src p) s
        | kind, p =>
          if kind = 0x10 ∨ kind = 0x11 ∨ kind = 0x14 then
            ∃ subject detail n : Nat, result = .next (recordEntry .unmappedInput subject detail { s with free := n }) ∧
              (∀ z rest, p = z :: rest → subject = z.toNat) ∧ (kind = 0x11 → detail = 0) ∧
              ∀ z a b rest, kind = 0x10 → p = z :: a :: b :: rest → detail = a.toNat * 256 + b.toNat
          else result = .next (recordEntry .unmappedInput f.src f.kind s))

/-- R153: a request joins the buffer while it holds fewer than 4, and is lost and counted otherwise. The head is taken
while none is in service and fewer than 38 frames wait to go out: refused NOT_PERMITTED, or refused as malformed, or put
in service as the row that it spells. A request row in no state to be served changes nothing (log entry 16). 12.3: the
payload of each request kind spells its row. The SRC of the refusal of a TWR is log entry 41. A request with surplus bytes
is malformed: log entry 70. A request whose answer was discarded leaves service as any other (log entry 84). -/
def Obligations.RequestsAreBufferedAndTaken : Prop :=
  (∀ (f : Frame) (s : State), awake s = true →
    exec (.requestArrival f) s = .next
      { s with panel :=
          if s.panel.inbound.length < 4 then { s.panel with inbound := s.panel.inbound ++ [f] }
          else { s.panel with
            overruns := if s.panel.overruns < 65535 then s.panel.overruns + 1 else s.panel.overruns } }) ∧
  (∀ s : State, awake s = true →
    (s.panel.inbound = [] ∨ s.panel.inService ≠ none ∨ 38 ≤ s.panel.outbound.length →
      exec .requestTaken s = .next s) ∧
    ∀ (f : Frame) (rest : List Frame), s.panel.inbound = f :: rest → s.panel.inService = none →
      s.panel.outbound.length < 38 →
      let u := { s with panel := { s.panel with inbound := rest } }
      let refused := fun (r : Result) =>
        if f.kind = 0x32 then answerWrite s.window.selected (requesterOf f) r u else answer (requesterOf f) r u
      exec .requestTaken s = .next
        (if permitted s.tables.link f.src f.kind = false then refused .notPermitted
        else match readRequest u f with
          | .ok row => { u with panel := { u.panel with inService := some row } }
          | .error r => refused r)) ∧
  (∀ (row : Instr) (s : State), isRequestRow row = true → ¬ Serves row s → exec row s = .next s) ∧
  ∀ (s : State) (own src tag : Nat) (a b c : Byte) (entry : List Byte),
      let req : Requester := { station := src, tag := tag, own := own }
      let read := fun (kind : Nat) (p : List Byte) =>
        readRequest s { dest := own, src := src, kind := kind, tag := tag, payload := p }
      let n := a.toNat
      let w := a.toNat * 256 + b.toNat
      read 0x12 [a, 1#8] = .ok (.zoneIsolateOn req n) ∧ read 0x12 [a, 0#8] = .ok (.zoneIsolateOff req n) ∧
      read 0x3A [a] = .ok (.outputReset req n) ∧ read 0x35 [a, b, c] = .ok (.faultAck req w c.toNat) ∧
      read 0x34 [a, b, c] = .ok (.trailRead req w c.toNat) ∧
      read 0x20 [0#8, a, b] = .ok (.statusAskSummary req n b.toNat) ∧
      read 0x20 [1#8, a, b] = .ok (.statusAskZone req n b.toNat) ∧
      read 0x20 [2#8, a, b] = .ok (.statusAskOutput req n b.toNat) ∧
      read 0x20 [3#8, a, b] = .ok (.statusAskRun req n b.toNat) ∧
      read 0x20 [4#8, a, b] = .ok (.statusAskBoard req n b.toNat) ∧
      read 0x20 [5#8, a, b] = .ok (.statusAskFirstFault req n b.toNat) ∧
      read 0x30 [1#8] = .ok (.enterService req) ∧ read 0x30 [2#8] = .ok (.enterNormal req) ∧
      read 0x30 [3#8] = .ok (.modeRestart req) ∧
      read 0x31 [c, a, b] = .ok (.tsel req c.toNat w) ∧ read 0x33 [] = .ok (.trd req) ∧
      read 0x32 (a :: b :: entry) = .ok (.twr req w entry) ∧
      read 0x36 [a] = .ok (.testRun req n) ∧ read 0x37 [] = .ok (.testEnd req) ∧
      read 0x38 [] = .ok (.holdAsk req) ∧ read 0x39 [] = .ok (.holdEnd req)

/-- R154: an EVENT joins the outbound queue below 32 frames and is dropped otherwise, with REPORTS_MISSED set and the
clearing mark clear; a REPLY joins below 40 and is counted as lost otherwise. The head leaves when it has been sent; the
sending of a summary STATUS clears the flag where no EVENT has been dropped since it was built. That a drop takes the
clearing from every queued frame is log entry 42, and that the row changes nothing on an empty queue log entry 18. That
any part of a summary may clear the flag is log entry 60. That the first of two summary STATUS frames takes the clearing
mark is log entry 77. That a request leaves service also where its answer was discarded is log entry 84. -/
def Obligations.OutboundQueueAdmitsAndSends : Prop :=
  (∀ (ev : Ev) (subject detail : Nat) (s : State),
    let e : TrailEntry := ⟨s.capture.nextSequence, s.uptime, ev, subject, detail⟩
    let f : Frame :=
      { dest := s.tables.link.firePanel, src := s.tables.link.own, kind := 0x42, tag := s.capture.nextSequence % 256,
        payload := byte2 e.sequence ++ byte4 e.uptime ++ byte1 (evCode ev) ++ byte2 subject ++ byte2 detail }
    let p := (recordEntry ev subject detail s).panel
    (s.panel.outbound.length < 32 → p = { s.panel with outbound := s.panel.outbound ++ [⟨f, .nothing⟩] }) ∧
    (32 ≤ s.panel.outbound.length →
      p.reportsMissed = true ∧ p.clearing = false ∧
        p.outbound.map (fun q => q.frame) = s.panel.outbound.map (fun q => q.frame) ∧
        ∀ q ∈ p.outbound, q.after ≠ .clearReportsMissed)) ∧
  (∀ (req : Requester) (r : Result) (s : State),
    let f : Frame :=
      { dest := req.station, src := s.tables.link.own, kind := 0x40, tag := req.tag, payload := byte1 (resultCode r) }
    answer req r s =
      if s.panel.outbound.length < 40 then
        { s with panel := { s.panel with outbound := s.panel.outbound ++ [⟨f, .nothing⟩], inService := none } }
      else { s with panel := { s.panel with
        overruns := if s.panel.overruns < 65535 then s.panel.overruns + 1 else s.panel.overruns, inService := none } }) ∧
  ∀ s : State, awake s = true →
    match s.panel.outbound with
    | [] => exec .outboundFrameSent s = .next s
    | q :: rest =>
      let u := { s with panel := { s.panel with outbound := rest } }
      exec .outboundFrameSent s = .next
        (match q.after with
        | .nothing => u
        | .clearReportsMissed =>
          if s.panel.clearing then { u with panel := { u.panel with reportsMissed := false, clearing := false } } else u
        | .warmStart => { u with restartDue := true })

/-- R140, R149, R150, R156 to R158: a forwarding candidate is discarded in START mode, recorded as unmapped from a station
of no role, refused with FWD_FAIL by the first check that fails, or translated and joined to the forward queue. The
holder's frames pass R157's checks while the hold is HELD. Where two windows cover a station, the one of lowest index is
taken (log entry 61). That one in START mode is discarded also from a station of no role is log entry 78. That a CMD of
LEN 0 passes the ownership check is log entry 85. -/
def Obligations.CandidatesAreCheckedAndForwarded : Prop :=
  ∀ (f : Frame) (s : State), awake s = true →
    let l := s.tables.link
    let fail := fun (r : FailReason) => sendFail f.src f.tag f.dest r s
    let window := (s.tables.windows.map (fun p => p.2)).find? (fun w =>
      w.count != 0 && decide (w.panelBase ≤ f.dest) && decide (f.dest < w.panelBase + w.count))
    let holder := f.src = l.commissioning
    exec (.forwardCandidate f) s = .next
      (if s.mode = .start then s
      else if f.src ≠ l.firePanel ∧ f.src ≠ l.ffPanel ∧ f.src ≠ l.building ∧ f.src ≠ l.commissioning then
        recordEntry .unmappedInput f.src f.kind s
      else endStep
        (match window with
        | none => fail .noWindow
        | some w =>
          let station := w.plantBase + (f.dest - w.panelBase)
          let free := s.plant.hold.state = .held ∧ holder
          if ¬ free ∧ fireMode s = true ∧ w.fireBlock = 1 ∧ f.kind ≠ 0x62 then fail .fireBlocked
          else if ¬ free ∧ w.permission = 0 ∧ f.kind ≠ 0x62 then fail .readOnly
          else if ¬ free ∧ f.kind = 0x60 ∧ s.mode ≠ .service ∧ f.payload ≠ [] ∧
              (outputAt s station (byteAt f.payload 0)).isSome = true then fail .owned
          else if (s.plant.hold.state = .pending ∨ s.plant.hold.state = .held) ∧ ¬ holder then fail .held
          else if 8 ≤ s.plant.forward.length then fail .full
          else { s with plant := { s.plant with forward := s.plant.forward ++
            [{ frame := { f with dest := station, src := l.plantMaster }, station := f.src, tag := f.tag,
               addressed := f.dest, wait := l.forwardWait }] } }))

/-! ### Zones and the Selector (chapters 1 and 2) -/

/-- R5: an arrival joins an alarm source set, which keeps its order, its limit of 8 and no address twice. R4, R6 to R8, R13:
a ZONE_EVENT is ignored with UNMAPPED_INPUT, or its source joins the zone's set and the zone's state decides: PREALARM, a
confirmation with its reason, stamp and event that the Selector and the hold are told of, a record alone, or the held
flag. A duplicate DETECTOR leaves a zone in PREALARM as it is. -/
def Obligations.AlarmsJoinTheSetAndMoveTheirZone : Prop :=
  (∀ (a : AlarmSource) (set : List AlarmSource),
    (a.address ∉ set.map (fun x => x.address) → set.length < 8 → joinSources a set = set ++ [a]) ∧
    (a.address ∉ set.map (fun x => x.address) → 8 ≤ set.length → joinSources a set = set) ∧
    (a.address ∈ set.map (fun x => x.address) → a.cls = .detector → joinSources a set = set) ∧
    (a.address ∈ set.map (fun x => x.address) → a.cls = .confirming →
      joinSources a set = set.map (fun x => if x.address = a.address then { x with cls := .confirming } else x)) ∧
    (set.length ≤ 8 → (joinSources a set).length ≤ 8) ∧
    ((set.map (fun x => x.address)).Nodup → ((joinSources a set).map (fun x => x.address)).Nodup)) ∧
  ∀ (z source cls : Nat) (s : State), awake s = true →
    let ignored := s.mode = .start ∨ z = 0 ∨ 32 < z ∨ (zoneEntry s z).enabled ≠ 1 ∨ source = 0 ∨ 4095 < source
    (ignored ∨ (cls ≠ 1 ∧ cls ≠ 2) →
      zoneEventTaken z source cls s = recordEntry .unmappedInput z source s ∧
      exec (.zoneEvent z source cls) s = .next (endStep (recordEntry .unmappedInput z source s))) ∧
    ∀ c : SourceClass, cls = sourceClassCode c → ¬ ignored →
      let r := zoneRec s z
      let set := joinSources { address := source, cls := c } r.sources
      let reason := if c = .confirming then ConfirmReason.confirmingSource else .coincidence
      let confirmed := recordEntry .zoneConfirmed z source
        (setZone z { r with
          state := .confirmed, sources := set, confirmation := some { reason := reason, stamp := s.uptime } } s)
      let atThreshold := (zoneEntry s z).threshold ≤ set.length
      let isNew := source ∉ r.sources.map (fun x => x.address)
      let taken :=
        match r.state with
        | .normal =>
          if c = .confirming ∨ atThreshold then tellConfirmed z confirmed
          else recordEntry .zonePrealarm z source (setZone z { r with state := .prealarm, sources := set } s)
        | .prealarm =>
          if c = .confirming ∨ (isNew ∧ atThreshold) then tellConfirmed z confirmed
          else setZone z { r with sources := set } s
        | .confirmed | .active | .secondary => setZone z { r with sources := set } s
        | .isolated => setZone z { r with sources := set, held := true } s
      zoneEventTaken z source cls s = taken ∧ exec (.zoneEvent z source cls) s = .next (endStep taken)

/-- R8, R19, R143, R144: a confirmation reaches the Selector in NORMAL mode, and in every mode the hold: a pending hold is
refused with REVOKED, a HELD one is released with reason REVOKED, becoming FREE at once with no exchange in flight. -/
def Obligations.ConfirmationsReachSelectorAndHold : Prop :=
  ∀ (z : Nat) (s : State),
    let u := match s.plant.hold.state with
      | .pending =>
        let free := { s with plant := { s.plant with hold := { s.plant.hold with state := .free, ask := none } } }
        (match s.plant.hold.ask with
        | some req => sendReply req .revoked free
        | none => free)
      | .held =>
        let leaving := { s with plant := { s.plant with hold :=
          { s.plant.hold with state := .releasePending, reason := .revoked, timer := none } } }
        if s.plant.exchange.isSome then leaving else freeHold leaving
      | .free | .releasePending => s
    tellConfirmed z s = if u.mode = .normal then { u with selector := u.selector ++ [.confirmed z] } else u

/-- R9: a ZONE_RESET returns the zone to NORMAL, or empties an isolated zone's held set, with its event; the Selector is told
of a confirmed zone's reset, and keeps the notice in NORMAL mode (R19; log entry 20). In START mode or for a number outside
1 to 32 it is ignored. -/
def Obligations.ZoneResetReturnsTheZone : Prop :=
  ∀ (z : Nat) (s : State), awake s = true →
    let r := zoneRec s z
    exec (.zoneReset z) s = .next
      (if s.mode = .start ∨ z = 0 ∨ 32 < z then recordEntry .unmappedInput z 0 s
      else match r.state with
        | .isolated => recordEntry .zoneReset z 5 (setZone z { r with sources := [], held := false } s)
        | .normal | .prealarm => recordEntry .zoneReset z (zoneStateCode r.state) (setZone z coldZone s)
        | .confirmed | .active | .secondary =>
          let u := recordEntry .zoneReset z (zoneStateCode r.state) (setZone z coldZone s)
          if s.mode = .normal then { u with selector := u.selector ++ [.reset z] } else u)

/-- R11, R12, R14: ZONE_ISOLATE in both directions: its refusals, the isolation of a zone in NORMAL or PREALARM, and the
presentation of the held set. That a HOLD_ASK which the presented zone revokes is answered before the OK is the model's
choice (log entry 56). -/
def Obligations.ZonesAreIsolatedAndPresented : Prop :=
  ∀ (req : Requester) (z : Nat) (s : State),
    let r := zoneRec s z
    let n := r.sources.length
    let inService := 1 ≤ z ∧ z ≤ 32 ∧ (zoneEntry s z).enabled = 1
    (Serves (.zoneIsolateOn req z) s → exec (.zoneIsolateOn req z) s = .next
      (if s.mode = .start then answer req .wrongMode s
      else if ¬ inService then answer req .badIndex s
      else match r.state with
        | .normal | .prealarm =>
          answer req .ok (recordEntry .zoneIsolated z n
            (setZone z { r with state := .isolated, sources := [], held := false } s))
        | .confirmed | .active | .secondary => answer req .zoneBusy s
        | .isolated => answer req .ok s)) ∧
    (Serves (.zoneIsolateOff req z) s → exec (.zoneIsolateOff req z) s = .next
      (if s.mode = .start then answer req .wrongMode s
      else if ¬ inService then answer req .badIndex s
      else endStep (answer req .ok
        (let u := { s with panel := { s.panel with inService := some (.zoneIsolateOff req z) } }
        let lift := fun (record : ZoneRec) => recordEntry .zoneDeisolated z n (setZone z record u)
        if r.state ≠ .isolated then u
        else if (∃ a ∈ r.sources, a.cls = .confirming) ∨ (zoneEntry s z).threshold ≤ n then
          tellConfirmed z (recordEntry .heldPresented z n (lift { r with
            state := .confirmed, confirmation := some { reason := .held, stamp := s.uptime }, held := false }))
        else if r.sources = [] then lift { r with state := .normal, held := false }
        else recordEntry .zonePrealarm z 0 (lift { r with state := .prealarm, held := false })))))

/-- R10: Zone Intake takes a request to make a confirmed zone ACTIVE or SECONDARY, with its event where the state changes,
and refuses it for any other zone. R22, R23: the new served zones are the kept pair; or the kept zone, or else the first
waiting zone, with its first joint partner in waiting order, in the order of their joint entry; or that zone alone with
its own scenario; or none. R24: on a repeat the zones that the decision has made ACTIVE are not kept and wait at their own
rank. R21: the waiting set is ordered by priority, then stamp, then number; that stamps are compared as plain numbers,
also over a wrap of the counter, is log entry 7. -/
def Obligations.SelectorChoosesAndAsks : Prop :=
  (∀ (z detail : Nat) (s : State), ∀ want ∈ [(ZoneState.active, Ev.zoneActive), (.secondary, .zoneSecondary)],
    let r := zoneRec s z
    zoneRequest z want.1 want.2 detail s =
      if r.state = .normal ∨ r.state = .prealarm ∨ r.state = .isolated then (s, false)
      else if r.state = want.1 then (s, true)
      else (recordEntry want.2 z detail (setZone z { r with state := want.1 } s), true)) ∧
  ∀ (s : State) (made waiting : List Nat),
    let kept := s.run.served.filter (fun z => (zoneRec s z).state == .active && !made.contains z)
    (∀ z, z ∈ waitingSet s made ↔ 1 ≤ z ∧ z ≤ 32 ∧ ((zoneRec s z).state = .confirmed ∨ (zoneRec s z).state = .secondary ∨
      (z ∈ made ∧ (zoneRec s z).state = .active))) ∧
    (let priority := fun (z : Nat) => (zoneEntry s z).priority
    let stamp := fun (z : Nat) => ((zoneRec s z).confirmation.map (fun c => c.stamp)).getD 0
    (waitingSet s made).Pairwise (fun x y => priority x < priority y ∨
      (priority x = priority y ∧ (stamp x < stamp y ∨ (stamp x = stamp y ∧ x < y))))) ∧
    let pairOf := fun (p q : Nat) (e : JointEntry) =>
      (∃ n, (n, e) ∈ s.tables.joints) ∧ e.zoneA ≠ 0 ∧
        ((e.zoneA = p ∧ e.zoneB = q) ∨ (e.zoneA = q ∧ e.zoneB = p))
    let servesWith := fun (p : Nat) (answer : List Nat × Nat) =>
      (∃ before q after e, waiting.filter (fun z => z != p) = before ++ q :: after ∧ pairOf p q e ∧
        (∀ x ∈ before, ∀ e', ¬ pairOf p x e') ∧ answer = ([e.zoneA, e.zoneB], e.scenario)) ∨
      ((∀ x ∈ waiting, x ≠ p → ∀ e, ¬ pairOf p x e) ∧ answer = ([p], (zoneEntry s p).scenario))
    (∀ p q, kept = [p, q] → newServed s made waiting = ([p, q], s.run.scenario)) ∧
    (∀ p, kept = [p] → servesWith p (newServed s made waiting)) ∧
    (∀ c rest, kept = [] → waiting = c :: rest → servesWith c (newServed s made waiting)) ∧
    (kept = [] → waiting = [] → newServed s made waiting = ([], 0))

/-- R19, R23 to R25: the Selector takes the notice that has waited longest: in NORMAL mode by a placement decision,
otherwise without one (log entry 20); with no notice waiting it decides nothing. A decision during which Zone Intake takes
nothing records ZONE_ACTIVE, with the scenario, for each new served zone that was not ACTIVE, in served order, then
ZONE_SECONDARY for each other waiting zone that was not SECONDARY, in waiting order, and then gives the Runner a load, a
switch, an end or nothing (R25). It makes the new served zones ACTIVE and every other waiting zone SECONDARY, leaves every
other zone, leaves the run on the new served zones and their scenario, or without a run where there is none, and leaves
the Selector the other notices. While a validation is under way the row also gives what Zone Intake takes during the
decision at its end (R171). R20, R24: with arrivals during the decision, one group is taken by Zone Intake just before
each request; a refused ACTIVE request ends the asking, the next group is taken, and the decision is taken again with the
zones it has made ACTIVE; a refused SECONDARY request is passed over; the groups left are taken before the Runner's
instruction. How the arrivals fall between the requests is log entry 19. -/
def Obligations.PlacementDecisionServesTheNewZones : Prop :=
  let instructed := fun (target : List Nat × Nat) (v : State) =>
    if fireMode v = false then (if target.1 = [] then v else loadRun false target.2 target.1 v)
    else if target.1 = [] then endRun v
    else if target.1 = v.run.served ∧ target.2 = v.run.scenario then v
    else switchRun target.2 target.1 v
  (∀ (during : List (List IntakeArrival)) (s : State), awake s = true → s.selector = [] →
    exec (.placementDecision during) s = .next (if s.validating.isSome then { s with entryIntake := during } else s)) ∧
  (∀ (notice : SelectorNotice) (rest : List SelectorNotice) (s : State), awake s = true → s.selector = notice :: rest →
    let u := { s with selector := rest }
    (∀ during, s.mode ≠ .normal → exec (.placementDecision during) s = .next
      (if s.validating.isSome then { u with entryIntake := during } else u)) ∧
    (∀ during, s.mode = .normal → s.validating = none →
      exec (.placementDecision during) s = .next (endStep (placementDecision during u))) ∧
    (s.mode = .normal → s.validating = none →
      let target := newServed u [] (waitingSet u [])
      let asked := fun (want : ZoneState) (ev : Ev) (detail : Nat) (zs : List Nat) (v : State) =>
        zs.foldl (fun v z => recordEntry ev z detail (setZone z { zoneRec v z with state := want } v)) v
      let v := asked .secondary .zoneSecondary 0
        ((waitingSet u []).filter (fun z => (zoneRec u z).state != .secondary && !target.1.contains z))
        (asked .active .zoneActive target.2 (target.1.filter (fun z => (zoneRec u z).state != .active)) u)
      exec (.placementDecision []) s = .next (endStep (instructed target v))) ∧
    (s.mode = .normal → ModesOk s → ServedOk s → Canonical s →
      ∃ t, exec (.placementDecision []) s = .next t ∧ t.selector = rest ∧
        let target := newServed u [] (waitingSet u [])
        (∀ z, (zoneRec t z).state =
          if z ∈ target.1 then .active else if z ∈ waitingSet u [] then .secondary else (zoneRec s z).state) ∧
        (∀ z, (zoneRec t z).sources = (zoneRec s z).sources ∧ (zoneRec t z).confirmation = (zoneRec s z).confirmation) ∧
        t.run.served = target.1 ∧
        (target.1 ≠ [] → fireMode t = true ∧ t.run.test = false ∧ t.run.scenario = target.2) ∧
        (target.1 = [] → fireMode t = false))) ∧
  (∀ (z source cls : Nat) (s : State), takeIntake (.event z source cls) s = zoneEventTaken z source cls s ∧
    (awake s = true → exec (.zoneReset z) s = .next (takeIntake (.reset z) s))) ∧
  (∀ p : Placing,
    takeGroup p =
      (match p.during with
      | [] => p
      | group :: later => { p with during := later, state := group.foldl (fun v a => takeIntake a v) p.state }) ∧
    ∀ (scenario z : Nat) (zs : List Nat),
      let q := takeGroup p
      let active := zoneRequest z .active .zoneActive scenario q.state
      let secondary := zoneRequest z .secondary .zoneSecondary 0 q.state
      askActive scenario [] p = (p, true) ∧ askSecondary [] p = p ∧
      askActive scenario (z :: zs) p =
        (if active.2 = true then askActive scenario zs { q with made := q.made ++ [z], state := active.1 }
        else ({ q with state := active.1 }, false)) ∧
      askSecondary (z :: zs) p = askSecondary zs { q with state := secondary.1 }) ∧
  (∀ (during : List (List IntakeArrival)) (s : State),
    placementDecision during s =
      (decisionTimes (during.flatten.length + 1) { during := during, made := [], state := s }).state) ∧
  ∀ (n : Nat) (p : Placing), p.during.flatten.length < n →
    let s := p.state
    let waiting := waitingSet s p.made
    let target := newServed s p.made waiting
    let answers := askActive target.2 (target.1.filter (fun z => (zoneRec s z).state != .active)) p
    let placed := askSecondary
      (waiting.filter (fun z => (zoneRec s z).state != .secondary && !target.1.contains z)) answers.1
    let given := placed.during.flatten.foldl (fun v a => takeIntake a v) placed.state
    decisionTimes n p =
      if answers.2 = true then { placed with during := [], state := instructed target given }
      else decisionTimes n (takeGroup answers.1)

/-! ### The run (chapters 2, 3 and 6) -/

/-- R31, R32: TEST_RUN and TEST_END: the first refusal that applies, or the load of a test run, or its end. -/
def Obligations.TestRunsBeginAndEnd : Prop :=
  ∀ (req : Requester) (n : Nat) (s : State),
    (Serves (.testRun req n) s → exec (.testRun req n) s = .next
      (if s.mode ≠ .service then answer req .wrongMode s
      else if n = 0 ∨ 48 < n then answer req .badIndex s
      else if s.run.state ≠ .idle then answer req .runActive s
      else if s.plant.hold.state ≠ .free then answer req .busy s
      else if scenarioOk s.tables n = false then answer req .badValue s
      else endStep (answer req .ok (drain (loadRun true n []
        { s with panel := { s.panel with inService := some (.testRun req n) } }))))) ∧
    (Serves (.testEnd req) s → exec (.testEnd req) s = .next
      (if s.mode ≠ .service then answer req .wrongMode s
      else if s.run.state = .idle then answer req .ok s
      else endStep (answer req .ok (drain (endRun
        { s with panel := { s.panel with inService := some (.testEnd req) } })))))

/-- R39, R48, R49, R61: a load, a switch and an end. A load raises RUN_START, begins fire mode, which makes every SAFE
entry its output's safe_default, and issues its steps. A switch releases the engagements of R48 step 1, clears the FIRE
entries of step 2 as one change and keeps the others, replaces the context, raises RUN_SWITCH and issues its steps. An end
releases every fan, clears FIRE and SAFE entries as one change, raises RUN_END and leaves the context IDLE. That the
reports of each change are taken at once is the model's choice (log entry 4). R102, R103, R112: the watches of the served
zones, with requirement 1 for the first and 2 for the second; a zone watched before keeps its pending reserve alone. A
safe_default that does not fit its output is its SAFE entry as it stands (log entry 80). That the last issued steps stand
after an end is log entry 86. -/
def Obligations.LoadSwitchAndEndSetTheRun : Prop :=
  ∀ (n : Nat) (served : List Nat) (s : State),
    let e := scenarioOf s.tables n
    let loading := fun (test : Bool) =>
      { s with run := { s.run with
        state := .staging, test := test, late := false, degraded := false, scenario := n, served := served, cursor := 0,
        inFlight := [], lastIssued := [], delay := none, deadline := some e.establish, faults := [], overflow := false,
        startStamp := some s.uptime, stageStamp := some s.uptime } }
    let names := fun (o : Nat) => ∃ k < e.stepCount, (stepOf s.tables (e.firstStep + k)).output = o
    let releasedNow := releaseFans ((fans s).filter (releasedAtSwitch s n served)) s
    let cleared := changeLayers (fun _ r => { r with fire := none })
      ((configured s).filter (clearedAtSwitch releasedNow n)) releasedNow
    let switching := takeReports cleared
    let stopping := { s with run := { s.run with delay := none, deadline := none, inFlight := [] } }
    let stopped := takeReports (endFire (releaseFans (fans s) stopping))
    let loaded := loadRun false n served s
    let tested := loadRun true n served s
    let switched := switchRun n served s
    let ended := endRun s
    (∀ t ∈ [loaded, tested, switched], fireMode t = true ∧ t.run.late = false ∧ t.run.scenario = n ∧
      t.run.served = served ∧ t.run.stageStamp = some s.uptime) ∧
    loaded.run.test = false ∧ tested.run.test = true ∧ switched.run.test = s.run.test ∧
    loaded.run.startStamp = some s.uptime ∧ tested.run.startStamp = some s.uptime ∧
    switched.run.startStamp = s.run.startStamp ∧
    loaded.watches.map (fun w => w.zone) = served ∧ tested.watches = s.watches ∧
    (s.run.test = false → switched.watches.map (fun w => w.zone) = served ∧ ended.watches = []) ∧
    (∀ (zones : List Nat) (old : List Watch), watchesFor zones e old = zones.mapIdx (fun k z =>
      { zone := z, requirement := if k = 0 then e.requirement1 else e.requirement2, watching := false, deficit := false,
        exhausted := false, cursor := 1, pending := (old.find? (fun w => w.zone == z)).bind (fun w => w.pending) })) ∧
    (∀ test : Bool, loadRun test n served s = advance
      (let begun := takeReports
        (beginFire (recordEntry .runStart n (served.getD 0 0 * 256 + served.getD 1 0) (loading test)))
      if test then begun else { begun with watches := watchesFor served e [] })) ∧
    switched = advance
      (let t := recordEntry .runSwitch n s.run.scenario
        { switching with run := { switching.run with
          state := .staging, scenario := n, served := served, cursor := 0, inFlight := [], lastIssued := [], delay := none,
          late := false, deadline := some e.establish, stageStamp := some s.uptime } }
      if s.run.test then t else { t with watches := watchesFor served e s.watches }) ∧
    (Canonical s → ∀ o ∈ configured s,
      let r := outRec s o
      let b := outRec (beginFire s) o
      let c := outRec cleared o
      let releases := isFan (outEntry s o) = true ∧
        (match r.engaged with
        | .none => False
        | .reserveFor z => z ∉ served
        | .standbyFor d => engagementZone s d ∉ served ∧ ¬ names d)
      (b.safe = cmdOf (outEntry s o).safeDefault ∧ b.fire = r.fire ∧ b.ff = r.ff ∧ b.bld = r.bld ∧
        b.engaged = r.engaged) ∧
      (c.safe = r.safe ∧ c.ff = r.ff ∧ c.bld = r.bld) ∧
      (releases → c.engaged = .none) ∧ (¬ releases → c.engaged = r.engaged) ∧
      (names o ∨ c.engaged ≠ .none → c.fire = r.fire) ∧ (¬ names o → c.engaged = .none → c.fire = none)) ∧
    (let u := recordEntry .runEnd s.run.scenario (stopped.run.faults.length + if stopped.run.overflow then 256 else 0) stopped
    let v := if s.run.test then u else { u with watches := [] }
    ended = { v with run := { s.run with
      state := .idle, test := false, late := false, scenario := 0, served := [], cursor := 0, inFlight := [],
      delay := none, deadline := none, faults := stopped.run.faults, overflow := stopped.run.overflow,
      degraded := stopped.run.degraded } }) ∧
    s.run.faults <+: stopped.run.faults ∧
    (Canonical s → ∀ o ∈ configured s,
      (outRec ended o).fire = none ∧ (outRec ended o).safe = none ∧
        (outRec ended o).ff = (outRec s o).ff ∧ (outRec ended o).bld = (outRec s o).bld ∧
        (isFan (outEntry s o) = true → (outRec ended o).engaged = .none))

/-- R40 to R45: to issue a step is to note it, to write its target as the FIRE entry, to place it by the Resolver's answer
and to let an engaged standby follow it. R52: the standbys engaged for the step's fan take its target as FIRE entry, HIGH
for LOW to a FAN_SINGLE, and are released by STOP. Advancing issues the step at the cursor for as long as its gate lets
it, starts the DELAY timer of a DELAY step, or makes a STAGING run with every step settled ESTABLISHED. The expiry of the
DELAY timer issues the held step and goes on; that of the establish deadline while STAGING sets LATE, reports RUN_LATE
with the steps not yet settled, and starts the deficit tests of a run that is not a test run. The order of a step's parts
and of the reports is log entries 4 and 12; that the row of a timer that has not run out does nothing is log entries 3 and
18. The seconds of RUN_ESTABLISHED over a wrap are log entry 7. -/
def Obligations.StepsAreIssuedAndRunTimersExpire : Prop :=
  (∀ (i : Nat) (s : State),
    let st := stepOf s.tables i
    let o := st.output
    let t := writeFire o (cmdOf st.target)
      { s with run := { s.run with lastIssued := sput none o (some i) s.run.lastIssued } }
    let r := outRec t o
    let placed := match r.act, r.fault with
      | .settled, _ => t
      | .fault, some f =>
        if (t.runnerIn.drop s.runnerIn.length).any (fun x => match x with
          | .fault o' _ => o' == o
          | _ => false) then takeReports t
        else takeFault o f.code t
      | _, _ => { t with run := { t.run with
        inFlight := t.run.inFlight.filter (fun k => (stepOf t.tables k).output != o) ++ [i] } }
    issueStep i s =
      match cmdOf st.target with
      | some c => followStep o c placed
      | none => placed) ∧
  (∀ (duty : Nat) (c : Cmd) (s : State),
    followStep duty c s = ((fans s).filter (fun f => (outRec s f).engaged == .standbyFor duty)).foldl (fun t f =>
      let u := writeFire f (some (if c = .low ∧ isFanSingle (outEntry t f) = true then .high else c)) t
      if c = .stop then
        let v := modOut f (fun r => { r with engaged := .none }) u
        { v with monitorIn := v.monitorIn ++ ((v.run.served.filter
          (fun z => duty != 0 && (zoneEntry v z).extract.contains duty)).map MonitorNotice.testZone) }
      else u) s) ∧
  (∀ s : State,
    (fireMode s = false → advance s = s) ∧
    (fireMode s = true → s.run.cursor ≤ (scenarioEntry s).stepCount →
      let u := takeReports s
      let e := scenarioEntry s
      let i := e.firstStep + s.run.cursor
      let st := stepOf s.tables i
      advance s =
        if s.run.cursor = e.stepCount then
          (if u.run.inFlight = [] ∧ u.run.state = .staging then
            let v := recordEntry .runEstablished s.run.scenario
              (min ((s.uptime + 4294967296 - s.run.stageStamp.getD 0) % 4294967296) 65535)
              { u with run := { u.run with state := .established, deadline := none } }
            if s.run.late = false ∧ s.run.test = false then { v with monitorIn := v.monitorIn ++ [.startWatching] } else v
          else u)
        else if st.gate = 2 then
          (if s.run.delay.isSome then u else { u with run := { u.run with delay := some st.delay } })
        else if st.gate = 1 ∧ u.run.inFlight ≠ [] then u
        else
          let v := issueStep i u
          advance { v with run := { v.run with cursor := s.run.cursor + 1 } })) ∧
  ∀ s : State, awake s = true →
    (exec .delayTimerExpiry s = .next
      (if s.run.delay = some 0 then
        let u := issueStep ((scenarioEntry s).firstStep + s.run.cursor) { s with run := { s.run with delay := none } }
        endStep (advance { u with run := { u.run with cursor := u.run.cursor + 1 } })
      else s)) ∧
    (exec .establishDeadlineExpiry s = .next
      (if s.run.state = .staging ∧ s.run.deadline = some 0 then
        let unsettled := ((scenarioEntry s).stepCount - s.run.cursor) + s.run.inFlight.length
        let u := report
          { event := .runLate, subject := s.run.scenario, detail := unsettled, clean := .none,
            facts := some
              { scenario := s.run.scenario, stepIndex := cursorStep s, seconds := runSeconds s } }
          { s with run := { s.run with late := true, deadline := none } }
        endStep (if s.run.test then u else { u with monitorIn := u.monitorIn ++ [.startWatching] })
      else s))

/-- R42, R46, R50, R51, R53: a report takes its output's step out of the in-flight set. A fault of a run output joins the
run fault list, or sets its overflow flag; a fault of an engaged standby reports EXTRACT_LOST; a fault of a fan whose FIRE
entry is LOW or HIGH engages its free standby with that entry, or reports EXTRACT_LOST where the standby is in FAULT. A
reserve is engaged with FIRE HIGH when the conditions of R53 hold. Which path dampers are run outputs is log entry 57.
R46: a run output is named by a step of the running scenario, or is an extract fan of a served zone, its standby, an
engaged standby, a reserve engaged for a served zone, or a path damper of such a fan. -/
def Obligations.RunFaultsEngageStandbysAndReserves : Prop :=
  (∀ (o : Nat) (code : FaultCode) (s : State),
    let left := { s with run := { s.run with
      inFlight := s.run.inFlight.filter (fun i => (stepOf s.tables i).output != o) } }
    takeReport (.settled o) s = left ∧ takeReport (.fault o code) s = takeFault o code left) ∧
  (∀ (o : Nat) (code : FaultCode) (s : State),
    (fireMode s = false → takeFault o code s = s) ∧
    (fireMode s = true →
      let listed :=
        if isRunOutput s o = false ∨ o ∈ s.run.faults then s
        else if s.run.faults.length < 16 then
          { s with run := { s.run with faults := s.run.faults ++ [o], degraded := true } }
        else { s with run := { s.run with overflow := true, degraded := true } }
      let lost := fun (duty : Nat) (u : State) => report
        { event := .extractLost, subject := engagementZone u duty, detail := duty, clean := .none,
          facts := some { scenario := u.run.scenario, stepIndex := cursorStep u, seconds := runSeconds u } } u
      let u := match (outRec s o).engaged with
        | .standbyFor d => lost d listed
        | _ => listed
      let sb := (outEntry s o).standby
      let calls := isFan (outEntry s o) = true ∧
        code ∈ [FaultCode.noRun, .tripped, .localControl, .noResponse, .lostProof, .path, .busy] ∧ sb ≠ 0 ∧
        isFan (outEntry s sb) = true ∧ ((outRec s sb).fire = none ∨ (outRec s sb).fire = some .stop)
      takeFault o code s =
        match (outRec s o).fire with
        | some c =>
          if calls ∧ (c = .low ∨ c = .high) then
            (if (outRec s sb).act = .fault then lost o u
            else
              let entry := if c = .low ∧ isFanSingle (outEntry s sb) = true then Cmd.high else c
              let v := recordEntry .standbyEngaged sb o
                (modOut sb (fun r => { r with engaged := .standbyFor o }) (writeFire sb (some entry) u))
              { v with monitorIn := v.monitorIn ++ ((v.run.served.filter
                (fun z => o != 0 && (zoneEntry v z).extract.contains o)).map MonitorNotice.testZone) })
          else u
        | none => u)) ∧
  (∀ (s : State) (o : Nat),
    let named := fun (x : Nat) => ∃ z ∈ s.run.served, x ≠ 0 ∧ x ∈ (zoneEntry s z).extract
    let runFan := fun (f : Nat) => isFan (outEntry s f) = true ∧
      (named f ∨ (f ≠ 0 ∧ ∃ z ∈ s.run.served, ∃ d ∈ (zoneEntry s z).extract, d ≠ 0 ∧ (outEntry s d).standby = f) ∨
        (∃ z ∈ s.run.served, (outRec s f).engaged = .reserveFor z) ∨ ∃ d, (outRec s f).engaged = .standbyFor d)
    isRunOutput s o = true ↔ fireMode s = true ∧
      ((∃ k < (scenarioEntry s).stepCount, (stepOf s.tables ((scenarioEntry s).firstStep + k)).output = o) ∨ runFan o ∨
        (isDamper (outEntry s o) = true ∧ ∃ f ∈ fans s, runFan f ∧ o ∈ (outEntry s f).path))) ∧
  ∀ (f z : Nat) (s : State),
    (reserveAllowed s f z = true ↔ fireMode s = true ∧ s.run.test = false ∧ z ∈ s.run.served ∧
      (outRec s f).engaged = .none ∧ (outRec s f).act ≠ .fault) ∧
    engageReserve f z s = recordEntry .reserveEngaged f z
      (modOut f (fun r => { r with engaged := .reserveFor z }) (writeFire f (some .high) s))

/-- R105, R106: the proven extract of a fan from its view, and the extract sum of a zone over its counted fans. R107,
R108, R111: a deficit test of a WATCHING zone begins a deficit below the requirement, with EXTRACT_DEFICIT and, where no
reserve is pending, an engagement step; it ends a deficit once the sum meets the requirement, with EXTRACT_RESTORED. R109:
the engagement step at the reserve cursor: past the list or at an empty entry EXHAUSTED and the second EXTRACT_DEFICIT,
the shortfall plus 32768; a refused fan passed over; an engaged one pending where it is neither SETTLED nor in FAULT, and
otherwise the deficit tested and the step gone on with. What the Monitor does with each notice: R104, every INACTIVE watch
becomes WATCHING and is tested in served order; R107, every watch that counts the fan whose proven extract has changed is
tested, and the zone of a fan engaged or released; R110, a pending reserve that has settled or faulted is no longer
pending, and a deficit not exhausted ends or takes an engagement step. When the notices are taken is log entry 4. -/
def Obligations.ExtractIsCountedAndTested : Prop :=
  (∀ (e : OutputEntry) (r : OutRec),
    (r.valid = false → provenExtract e r = 0) ∧
    ∀ (speed : Speed) (trip localFlag : Bool), r.valid = true → r.view = .fan speed trip localFlag →
      provenExtract e r =
        if trip then 0
        else match speed with
          | .stopped => 0
          | .low => e.extractHigh * e.low16 / 16
          | .high => e.extractHigh) ∧
  (∀ (s : State) (z : Nat),
    extractSum s z =
      ((fans s).filter (fun f =>
        let inList := fun (g : Nat) => g != 0 && (zoneEntry s z).extract.contains g
        inList f || (match (outRec s f).engaged with
          | .standbyFor d => inList d
          | .reserveFor x => x == z
          | .none => false))).foldr (fun f sum => provenExtract (outEntry s f) (outRec s f) + sum) 0) ∧
  (∀ (z : Nat) (w : Watch) (s : State), s.watches.find? (fun w => w.zone == z) = some w →
    let sum := extractSum s z
    let put := fun (f : Watch → Watch) =>
      { s with watches := s.watches.map (fun w => if w.zone == z then f w else w) }
    deficitTest z s =
      if w.watching = false then s
      else if w.deficit = true then
        if w.requirement ≤ sum then
          recordEntry .extractRestored z sum (put (fun w => { w with deficit := false, exhausted := false }))
        else s
      else if sum < w.requirement then
        let u := raise .extractDeficit z (w.requirement - sum)
          (put (fun w => { w with deficit := true, exhausted := false, cursor := 1 }))
        if w.pending = none then engagementStep z u else u
      else s) ∧
  (∀ (z : Nat) (w : Watch) (s : State), s.watches.find? (fun w => w.zone == z) = some w →
    1 ≤ w.cursor → (zoneEntry s z).reserve.length ≤ 4 →
    let put := fun (f : Watch → Watch) (u : State) =>
      { u with watches := u.watches.map (fun w => if w.zone == z then f w else w) }
    let f := (zoneEntry s z).reserve.getD (w.cursor - 1) 0
    let next := put (fun w => { w with cursor := w.cursor + 1 }) { s with monitorIn := s.monitorIn ++ [.testZone z] }
    let u := engageReserve f z next
    engagementStep z s =
      if f = 0 then
        raise .extractDeficit z (w.requirement - extractSum s z + 32768) (put (fun w => { w with exhausted := true }) s)
      else if reserveAllowed s f z = false then engagementStep z next
      else if (outRec u f).act ≠ .settled ∧ (outRec u f).act ≠ .fault then put (fun w => { w with pending := some f }) u
      else if w.requirement ≤ extractSum u z then
        recordEntry .extractRestored z (extractSum u z) (put (fun w => { w with deficit := false, exhausted := false }) u)
      else engagementStep z u) ∧
  (∀ s : State,
    takeMonitor .startWatching s =
      ((s.watches.filter (fun w => w.watching == false)).map (fun w => w.zone)).foldl (fun t z => deficitTest z t)
        { s with watches := s.watches.map (fun w => { w with watching := true }) }) ∧
  (∀ (f : Nat) (s : State),
    let counted := fun (z : Nat) =>
      let inList := fun (g : Nat) => g != 0 && (zoneEntry s z).extract.contains g
      inList f || (match (outRec s f).engaged with
        | .standbyFor d => inList d
        | .reserveFor x => x == z
        | .none => false)
    takeMonitor (.extractChanged f) s =
      ((s.watches.map (fun w => w.zone)).filter counted).foldl (fun t z => deficitTest z t) s) ∧
  (∀ (z : Nat) (s : State), takeMonitor (.testZone z) s = deficitTest z s) ∧
  ∀ (f : Nat) (s : State),
    takeMonitor (.reserveOutcome f) s =
      match s.watches.find? (fun w => w.pending == some f) with
      | none => s
      | some w =>
        let put := fun (g : Watch → Watch) (u : State) =>
          { u with watches := u.watches.map (fun x => if x.zone == w.zone then g x else x) }
        let t := put (fun x => { x with pending := none }) s
        if w.deficit = true ∧ w.exhausted = false then
          if w.requirement ≤ extractSum s w.zone then
            recordEntry .extractRestored w.zone (extractSum s w.zone)
              (put (fun x => { x with deficit := false, exhausted := false }) t)
          else engagementStep w.zone t
        else t

/-! ### The layers (chapters 4, 7 and 9) -/

/-- R152: a BLD_CMD is ignored whole, or each fitting entry becomes its output's BLD entry, the later one of an output, all
as one change, and each other entry is reported. That a BLD_CMD with no entries is ignored whole is the model's choice
(log entry 39). -/
def Obligations.BuildingEntriesAreOneChange : Prop :=
  ∀ (src : Nat) (payload : List Byte) (s : State), awake s = true →
    (s.mode = .start ∨ payload = [] ∨ payload.length % 2 ≠ 0 →
      exec (.bldCmd src payload) s = .next (endStep (recordEntry .unmappedInput src 0x1C s))) ∧
    ∀ entries : List (Byte × Byte), s.mode ≠ .start → entries ≠ [] →
      payload = entries.flatMap (fun e => [e.1, e.2]) →
      let fits := fun (e : Byte × Byte) =>
        decide (1 ≤ e.1.toNat) && decide (e.1.toNat ≤ 160) && isConfigured (outEntry s e.1.toNat)
          && decide (e.2.toNat ≤ 5) && fitsKind (outEntry s e.1.toNat) (cmdOf e.2.toNat)
      let rest := recordAll
        ((entries.filter (fun e => !fits e)).map (fun e => (.unmappedInput, e.1.toNat, e.2.toNat))) s
      let last := fun (o : Nat) => ((entries.filter fits).reverse.find? (fun e => e.1.toNat == o)).map (fun e => e.2)
      exec (.bldCmd src payload) s = .next (endStep
        (changeLayers
          (fun o r => { r with bld := match last o with
            | some c => cmdOf c.toNat
            | none => r.bld })
          ((configured s).filter (fun o => (last o).isSome)) rest))

/-- R118: the FF entry composed for an output. -/
def Obligations.FirefighterEntryIsComposed : Prop :=
  ∀ (s : State) (o : Nat),
    let e := outEntry s o
    let sw := sget .auto s.ff.outputSwitches o
    composeFf s o =
      match sw with
      | .opn => some .opn
      | .cls => some .cls
      | .off => some .stop
      | .low => some .low
      | .on => some .high
      | .auto =>
        if isFan e = true ∧ o ∈ s.ff.marks then some .stop
        else if e.zone = 0 then none
        else match sget .auto s.ff.zoneSwitches e.zone with
          | .auto => none
          | .off => if isFan e then some .stop else none
          | .extract =>
            if isFan e then (if e.role = 1 then some .high else none)
            else if e.role = 1 ∨ e.role = 2 then some .opn
            else none

/-- R116, R119 to R124: an FF_STATE from the firefighter panel's station counts for supervision. Its content is ignored
whole in START mode or when malformed; otherwise the ALL-STOP edge is taken, then the switch entries, and the FF entries
that differ reach the Resolver as one change. The expiry of the supervision timer makes the panel LOST with its stamp and
FF_LOST with the time it was started at, and leaves switches, ALL-STOP and marks. The seconds since the loss over a wrap
are log entry 7, and that the row of a timer that has not run out does nothing log entry 3. That an ALL-STOP marks more
than 32 fans where the tables in force have them is log entry 64. That an FF_STATE of a station with both the firefighter
panel's and the commissioning role counts is log entry 83. -/
def Obligations.FirefighterFramesAndLossAreTaken : Prop :=
  ∀ (src : Nat) (payload : List Byte) (s : State), awake s = true →
    let heard := { s with ff := { s.ff with
      panel := .present, lostStamp := none, timer := some s.tables.link.supervision,
      supervision := s.tables.link.supervision } }
    let u :=
      if src ≠ s.tables.link.ffPanel then s
      else match s.ff.panel with
        | .present => heard
        | .unknown => recordEntry .ffRestored 0 0 heard
        | .lost => recordEntry .ffRestored 0
            (min ((s.uptime + 4294967296 - s.ff.lostStamp.getD s.uptime) % 4294967296) 65535) heard
    let edge := fun (active : Bool) =>
      if active = s.ff.allStop then u
      else if active then
        recordEntry .ffAllstopOn 0 (fans s).length { u with ff := { u.ff with allStop := true, marks := fans s } }
      else recordEntry .ffAllstopOff 0 s.ff.marks.length { u with ff := { u.ff with allStop := false, marks := [] } }
    let given := fun (v : State) => changeLayers (fun o r => { r with ff := composeFf v o })
      ((configured v).filter (fun o => composeFf v o != (outRec v o).ff)) v
    exec (.ffState src payload) s = .next (endStep
      (match payload with
      | [] => recordEntry .unmappedInput 0 0 u
      | a :: entries =>
        if s.mode = .start ∨ entries.length % 3 ≠ 0 ∨ 1 < a.toNat then recordEntry .unmappedInput 0 0 u
        else given (takeSwitches entries (edge (a == 1#8))))) ∧
    exec .supervisionTimerExpiry s = .next
      (if s.ff.timer = some 0 then
        recordEntry .ffLost 0 s.ff.supervision
          { s with ff := { s.ff with panel := .lost, lostStamp := some s.uptime, timer := none } }
      else s)

/-- R117: a switch entry that fails a check is reported, with the switch and position as received, and leaves the image;
one that repeats the image changes nothing; a change moves the image and releases the marks of its fan or of its zone's
fans (R121). The entries of a frame are taken one after another. -/
def Obligations.SwitchEntriesMoveTheImage : Prop :=
  ∀ (number position : Nat) (s : State),
    (∀ kind, kind ≠ 1 → kind ≠ 2 → takeSwitch kind number position s = recordEntry .unmappedInput number position s) ∧
    takeSwitch 1 number position s =
      (match zoneSwitchOf position with
      | some p =>
        if number = 0 ∨ 32 < number then recordEntry .unmappedInput number position s
        else if sget .auto s.ff.zoneSwitches number = p then s
        else { s with ff := { s.ff with
          zoneSwitches := sput .auto number p s.ff.zoneSwitches
          marks := s.ff.marks.filter (fun o => (outEntry s o).zone != number) } }
      | none => recordEntry .unmappedInput number position s) ∧
    takeSwitch 2 number position s =
      (match outputSwitchOf position with
      | some p =>
        if number = 0 ∨ 160 < number ∨ fitsSwitch (outEntry s number) p = false then
          recordEntry .unmappedInput number position s
        else if sget .auto s.ff.outputSwitches number = p then s
        else { s with ff := { s.ff with
          outputSwitches := sput .auto number p s.ff.outputSwitches
          marks := s.ff.marks.filter (fun o => o != number) } }
      | none => recordEntry .unmappedInput number position s) ∧
    (∀ (e : OutputEntry) (p : OutputSwitch), fitsSwitch e p =
      match p with
      | .auto => isConfigured e
      | .opn | .cls => isDamper e
      | .off | .low | .on => isFan e) ∧
    ∀ (a b c : Byte) (rest : List Byte),
      takeSwitches (a :: b :: c :: rest) s = takeSwitches rest (takeSwitch a.toNat b.toNat c.toNat s)

/-! ### Outputs and staged starting (chapters 4 and 5) -/

/-- R62, R90, R92: where an output is placed for its command: UNKNOWN or FAULT without a valid view, FAULT for a trip,
local or conflicting view, SETTLED where the view agrees, QUEUED at the tail for a movement or a fan stop; a speed step
joins the wait list, and a fan start passes its path first (R72): it joins where the path passes, faults PATH where the
path fails, and waits in WAIT_PATH otherwise. A fan that joins is never QUEUED without a slot of its start's demand, and
waits from its kept join time where its wait goes on, otherwise from now (R89, R97). R72: a fan in WAIT_PATH is judged so
again when the view, its validity or the state of one of its path dampers changes. R77: what goes with FAULT: the code,
the queue entry and the proof, the report, the slot, the Runner and the Monitor. R70, R93, R110: what goes with SETTLED. A
fan left in the queue with a start and no slot is placed afresh, but for a hold: log entry 28. The ascending order of the
fans judged is log entry 52, and that a fault ends a wait with its join time log entry 30. R56, R59: when a view agrees
with a command, and which command to which view is a fan start or a speed step. That one which keeps the slot of an
earlier start stays in the queue is log entry 72. -/
def Obligations.OutputsArePlacedForTheirCommand : Prop :=
  let isOpen := fun (s : State) (d : Nat) =>
    (outRec s d).view = .atOpen ∧ (outRec s d).valid = true ∧ (outRec s d).act ≠ .fault
  let dampers := fun (e : OutputEntry) => e.path.filter (fun d => d != 0)
  let passes := fun (s : State) (e : OutputEntry) =>
    dampers e = [] ∨ (e.interlock = 0 ∧ ∀ d ∈ dampers e, isOpen s d) ∨ (e.interlock ≠ 0 ∧ ∃ d ∈ dampers e, isOpen s d)
  let fails := fun (s : State) (e : OutputEntry) => dampers e ≠ [] ∧
    ((e.interlock = 0 ∧ ∃ d ∈ dampers e, (outRec s d).act = .fault) ∨
      (e.interlock ≠ 0 ∧ ∀ d ∈ dampers e, (outRec s d).act = .fault))
  (∀ (e : OutputEntry) (v : View) (c : Cmd),
    let speed := match v with
      | .fan x _ _ => some x
      | _ => none
    let plain := viewTrip v = false ∧ viewLocal v = false
    (viewAgrees v c = true ↔
      match c with
      | .opn => v = .atOpen
      | .cls => v = .atClosed
      | .stop => speed = some .stopped
      | .low => speed = some .low ∧ plain
      | .high => speed = some .high ∧ plain) ∧
    (isFanStart e v c = true ↔ (e.kind = 2 ∨ e.kind = 3) ∧ (c = .low ∨ c = .high) ∧ speed = some .stopped) ∧
    (isSpeedStep e v c = true ↔ e.kind = 3 ∧ c = .high ∧ speed = some .low) ∧
    needsSlot e v c = (isFanStart e v c || isSpeedStep e v c)) ∧
  (∀ (o : Nat) (c : Cmd) (s : State), Canonical s → o ∈ configured s → (outRec s o).resolved = some c →
    let e := outEntry s o
    let r := outRec s o
    let t := place o s
    let u := outRec t o
    let faulted := fun (code : FaultCode) (cause : Cause) => u.act = .fault ∧ u.fault = some ⟨code, cause⟩
    let joined := u.act = .waitStart ∨ (u.act = .queued ∧ ∃ hold, u.slot = some ⟨startDemand e r.view c, hold⟩)
    (r.valid = false → (moduleRec s e.module).state = .missing → faulted .noResponse .missing) ∧
    (r.valid = false → (moduleRec s e.module).state ≠ .missing → u.act = .unknown) ∧
    (r.valid = true → viewTrip r.view = true → faulted .tripped .none) ∧
    (r.valid = true → viewTrip r.view = false → viewLocal r.view = true → faulted .localControl .none) ∧
    (r.valid = true → r.view = .conflict → faulted .conflict .none) ∧
    (r.valid = true → viewTrip r.view = false → viewLocal r.view = false → r.view ≠ .conflict →
      (viewAgrees r.view c = true → u.act = .settled) ∧
      (viewAgrees r.view c = false →
        let waiting := setAct o .waitPath s
        (needsSlot e r.view c = false → u.act = .queued ∧ t.queue = s.queue ++ [⟨o, c⟩]) ∧
        (isSpeedStep e r.view c = true → joined) ∧
        (needsSlot e r.view c = true → u.act = .waitStart →
          u.joinTime = some (if r.waitOpen = true then r.joinTime.getD s.uptime else s.uptime)) ∧
        (isFanStart e r.view c = true →
          (passes waiting e → joined) ∧
          (¬ passes waiting e → fails waiting e → faulted .path .none) ∧
          (¬ passes waiting e → ¬ fails waiting e → u.act = .waitPath))))) ∧
  (∀ (f : Nat) (s : State), (outRec s f).act = .waitPath →
    let e := outEntry s f
    (passes s e → judgePath f s = joinWait f s) ∧
    (¬ passes s e → fails s e → judgePath f s = toFault f .path .none s) ∧
    (¬ passes s e → ¬ fails s e → judgePath f s = s)) ∧
  (∀ (o : Nat) (code : FaultCode) (cause : Cause) (s : State), Canonical s →
    let r := outRec s o
    let ends := r.act = .waitPath ∨ r.act = .waitStart ∨ r.waitOpen = true
    let recorded := modOut o (fun r => { r with
      fault := some ⟨code, cause⟩, origin := none, timer := none, clean := false
      joinTime := if ends then none else r.joinTime
      heldWarned := if ends then false else r.heldWarned
      waitOpen := false }) s
    let told := report
      { event := .outputFault, subject := o, detail := faultCodeOf code * 256 + causeCode cause
        clean := if r.act = .moving ∨ r.act = .starting ∨ r.act = .stopping then (if r.clean then .set else .clear) else .none
        facts := some (faultFacts s o) }
      (setAct o .fault { recorded with queue := recorded.queue.filter (fun q => q.output != o) })
    let freed := modOut o (fun r => { r with slot := none }) told
    let t := if isFan (outEntry s o) = true then examine (outEntry s o).board freed else freed
    toFault o code cause s = { t with
      runnerIn := t.runnerIn ++ [.fault o code]
      monitorIn := match (outRec t o).engaged with
        | .reserveFor _ => t.monitorIn ++ [.reserveOutcome o]
        | _ => t.monitorIn }) ∧
  (∀ (o : Nat) (s : State),
    let r := outRec s o
    let t := setAct o .settled
      (modOut o (fun r => { r with fault := none, origin := none, timer := none, clean := false, slot := none }) s)
    let told :=
      if r.act = .settled then t
      else { t with
        runnerIn := t.runnerIn ++ [.settled o]
        monitorIn := match (outRec t o).engaged with
          | .reserveFor _ => t.monitorIn ++ [.reserveOutcome o]
          | _ => t.monitorIn }
    settle o s =
      if (r.slot ≠ none ∨ r.act = .waitStart) ∧ isFan (outEntry told o) = true then examine (outEntry told o).board told
      else told) ∧
  (∀ (o : Nat) (work : State → State) (s : State),
    let t := work s
    let r := outRec t o
    isDamper (outEntry s o) = false → isDamper (outEntry t o) = false →
      onOutput o work s =
        match r.resolved with
        | some c =>
          if r.act = .queued ∧ needsSlot (outEntry t o) r.view c = true ∧ r.slot = none ∧
              t.plant.hold.state ≠ .held ∧ t.plant.hold.state ≠ .releasePending then
            place o { t with queue := t.queue.filter (fun q => q.output != o) }
          else t
        | none => t) ∧
  ∀ (d : Nat) (work : State → State) (s : State),
    let t := work s
    let r := outRec s d
    let r' := outRec t d
    isDamper (outEntry s d) = true → isDamper (outEntry t d) = true →
      onOutput d work s =
        if r.act = r'.act ∧ r.view = r'.view ∧ r.valid = r'.valid then t
        else ((fans t).filter (fun f => (outRec t f).act == .waitPath && (outEntry t f).path.contains d)).foldl
          (fun u f => judgePath f u) t

/-- R60, R62 to R65, R78: what a recomputation does to an output. An unchanged command leaves it alone, but that a fan in
WAIT_START may have another class and its board is examined (R91). A change to NONE settles it, or makes it UNKNOWN, with
nothing queued, proven or held. A change to another command counts a supersede of an output QUEUED or outstanding, clears
its retried flag and its proof, and puts the new command in its queue place, or at the tail, with the slot that R65 gives;
a fan start or speed step without a slot of equal demand is placed by R62 instead. From SETTLED, UNKNOWN, WAIT_PATH and
WAIT_START the output is placed by R62 for the new command, a wait being given up, and a wait list left is examined. An
output in FAULT makes a new attempt: the fault is removed, OUTPUT_RECOVERED with way COMMAND is recorded and the output is
placed by R62. What placing gives is the statement before. That the retried flag is cleared from every state, so in SENT
too, is log entry 31. A slot of equal demand is kept for the new command also in SENT (log entry 58), is released in
QUEUED also before a retry (log entry 53), and stands in STOPPING (log entry 63). That the examination for the list left
comes after the fan is placed is log entry 82. The premise ListsOk is the law that QueueRingsAndFlightStayInBounds has
every step keep; the statement uses its clause that an output is in the queue exactly when it is QUEUED. A slot held while
SENT with a command that is no start goes as a start's (log entry 87); one that a queued start of equal demand took over
is released at once (log entry 88). -/
def Obligations.ChangedCommandsSupersede : Prop :=
  ∀ (o : Nat) (s : State), Canonical s → ListsOk s → o ∈ configured s →
    let e := outEntry s o
    let r := outRec s o
    let n := resolve e r
    let t := recompute o s
    let u := outRec t o
    let busy := r.act = .queued ∨ r.act = .sent ∨ r.act = .moving ∨ r.act = .starting ∨ r.act = .stopping
    let waits := r.act = .waitPath ∨ r.act = .waitStart
    let ends := waits ∨ r.waitOpen = true
    let taken := modOut o (fun r => { r with
      resolved := n, retried := false, act := if waits then .unknown else r.act
      joinTime := if ends then none else r.joinTime
      heldWarned := if ends then false else r.heldWarned
      waitOpen := false }) s
    let examined := fun (v : State) => if isFan e = true then examine e.board v else v
    (n = r.resolved → r.act ≠ .waitStart → t = s) ∧
    (n = r.resolved → r.act = .waitStart → t = examined s) ∧
    (n ≠ r.resolved → u.resolved = n) ∧
    (n = none → n ≠ r.resolved →
      u.act = (if r.valid then .settled else .unknown) ∧ o ∉ t.queue.map (fun q => q.output) ∧ u.slot = none ∧
        u.fault = none ∧ u.timer = none ∧ u.origin = none ∧ u.clean = false ∧ u.retried = false ∧ u.busy = 0) ∧
    ∀ c, n = some c → n ≠ r.resolved →
      let fits := needsSlot e r.view c = true ∧ ∃ hold, r.slot = some ⟨startDemand e r.view c, hold⟩
      (¬ busy → u.superseded = r.superseded) ∧
      (r.act = .settled ∨ r.act = .unknown ∨ r.act = .waitPath → t = onOutput o (place o) taken) ∧
      (r.act = .waitStart → t = onOutput o (fun v => examined (place o v)) taken) ∧
      (r.act = .fault → u.retried = false ∧ u.busy = 0 ∧
        t = onOutput o (fun v => place o (recordEntry .outputRecovered o 2
          (modOut o (fun r => { r with fault := none, retried := false, busy := 0 }) v))) taken) ∧
      (busy →
        u.superseded = (if r.superseded < 255 then r.superseded + 1 else 255) ∧ u.retried = false ∧
          u.origin = none ∧ u.timer = none ∧ u.clean = false) ∧
      (busy → needsSlot e r.view c = true → ¬ fits →
        u.act = .waitPath ∨ u.act = .waitStart ∨ (u.act = .fault ∧ u.fault = some ⟨.path, .none⟩) ∨
          (u.act = .queued ∧ u.slot = some ⟨startDemand e r.view c, .needed⟩)) ∧
      (busy → (needsSlot e r.view c = false ∨ fits) →
        u.act = .queued ∧
        (r.act = .queued → t.queue.take s.queue.length =
          s.queue.map (fun q => if q.output = o then ⟨o, c⟩ else q)) ∧
        (r.act ≠ .queued → t.queue.take (s.queue.length + 1) = s.queue ++ [⟨o, c⟩]) ∧
        (fits → u.slot = some ⟨startDemand e r.view c, .needed⟩) ∧
        (¬ fits → u.slot =
          match r.slot, r.act with
          | none, _ => none
          | some ⟨_, .needed⟩, .queued => none
          | some ⟨d, .needed⟩, .sent => some ⟨d, .untilExchangeEnds⟩
          | some ⟨d, .needed⟩, .starting => some ⟨d, .untilReplaced⟩
          | some sl, _ => some sl))

/-- R71, R79: OUTPUT_RESET gives an output in FAULT a new attempt and leaves any other as it is. The expiry of a proof
timer retries a clean first failure once, and faults otherwise with the code for its kind, its command and its clean flag.
That the row of a timer that has not run out does nothing is the model's choice (log entry 3). -/
def Obligations.ResetAndProofExpiry : Prop :=
  ∀ (req : Requester) (o : Nat) (s : State),
    (Serves (.outputReset req o) s → exec (.outputReset req o) s = .next
      (if s.mode = .start then answer req .wrongMode s
      else if o = 0 ∨ 160 < o ∨ isConfigured (outEntry s o) = false then answer req .badIndex s
      else if (outRec s o).act ≠ .fault then answer req .ok s
      else endStep (answer req .ok (drain (onOutput o
        (fun u => place o (recordEntry .outputRecovered o 3
          (modOut o (fun r => { r with fault := none, retried := false, busy := 0 }) u)))
        { s with panel := { s.panel with inService := some (.outputReset req o) } }))))) ∧
    (awake s = true → exec (.proofTimerExpiry o) s = .next
      (let r := outRec s o
      if r.timer ≠ some 0 then s
      else endStep (onOutput o (fun u =>
        match r.resolved with
        | some c =>
          if r.clean = true ∧ r.retried = false then
            enqueue o c (modOut o (fun r =>
              { r with retried := true, origin := none, timer := none, clean := false }) u)
          else if isDamper (outEntry s o) then toFault o (if r.clean then .noProof else .stuck) .none u
          else toFault o (if r.clean = true ∧ r.act = .stopping then .noStop else .noRun) .none u
        | none =>
          if isDamper (outEntry s o) then toFault o (if r.clean then .noProof else .stuck) .none u
          else toFault o (if r.clean = true ∧ r.act = .stopping then .noStop else .noRun) .none u) s)))

/-- R65, R68, R69, R132: a CMD_ACK ends the command in flight and clears its module's miss count. For an output still SENT
it is accepted into MOVING, STARTING or STOPPING with that state's proof time, queued again or faulted; for a superseded
one it only decides the kept slot. With no command in flight it is a stray frame, and a result outside the four is counted
as an error (log entry 24). What R69's table does not name is log entry 11: LOW at a view other than HIGH, HIGH at HIGH
and STOP at STOPPED. The cut of the busy count at its limit is log entry 33. That ACCEPTED of a superseded exchange keeps
the busy count is log entry 81. -/
def Obligations.CommandAnswersEndTheExchange : Prop :=
  ∀ (channel result : Nat) (s : State), awake s = true →
    (∀ (o sends : Nat) (f : Frame) (window : Option Nat),
      s.plant.exchange = some ⟨.ownCommand o, f, sends, window⟩ → Canonical s →
      let m := f.dest
      let u := setModule m { moduleRec s m with misses := 0 } { s with plant := { s.plant with exchange := none } }
      let e := outEntry s o
      let r := outRec s o
      let limit := s.tables.link.busyLimit
      exec (.cmdAck channel result) s = .next
        (if 3 < result then
          { s with plant := { s.plant with
            errors := if s.plant.errors < 65535 then s.plant.errors + 1 else s.plant.errors } }
        else endStep (onOutput o (fun v =>
          match r.act, r.resolved with
          | .sent, none => v
          | .sent, some c =>
            (match result with
            | 0 =>
              let act :=
                if isDamper e then Act.moving
                else match c, r.view with
                  | .stop, _ => .stopping
                  | .low, .fan .high _ _ => .stopping
                  | _, _ => .starting
              let time := if act = .stopping then e.tDown else e.tMain
              let w := setAct o act (modOut o (fun r =>
                { r with busy := 0, origin := some r.view, clean := true, timer := some time }) v)
              (match r.slot with
              | some ⟨_, .untilReplaced⟩ => releaseSlot o w
              | _ => w)
            | 1 =>
              let w := modOut o (fun r => { r with busy := min limit (r.busy + 1) }) v
              if limit ≤ r.busy + 1 then toFault o .busy .none w else enqueue o c w
            | 2 => toFault o .localControl .none (modOut o (fun r =>
                { r with view := match r.view with
                  | .fan speed trip _ => .fan speed trip true
                  | view => view }) v)
            | _ => toFault o .noResponse .badChannel v)
          | _, _ =>
            (match r.slot with
            | some ⟨demand, .untilExchangeEnds⟩ =>
              if result = 0 then modOut o (fun r => { r with slot := some ⟨demand, .untilReplaced⟩ }) v
              else releaseSlot o v
            | some ⟨_, .untilReplaced⟩ => if result = 0 then releaseSlot o v else v
            | _ => v)) u))) ∧
    ((∀ o f sends window, s.plant.exchange ≠ some ⟨.ownCommand o, f, sends, window⟩) →
      exec (.cmdAck channel result) s = .next
        { s with plant := { s.plant with
          strays := if s.plant.strays < 65535 then s.plant.strays + 1 else s.plant.strays } })

/-- R59, R74, R133, R134: the STATE of the poll in flight ends it. The module is PRESENT with no misses, after
MODULE_RECOVERED where it was MISSING; then its readings are handed over in channel order, each as feedback where its
fitted indication matches the output's kind and as unusable otherwise, and the outputs that its loss faulted make new
attempts, each with OUTPUT_RECOVERED of way MODULE. A reading becomes the view, marked valid. An unusable one marks the
view not valid, makes an output of command NONE UNKNOWN and takes any other that is not in FAULT to FAULT NO_RESPONSE with
cause BAD_CHANNEL. A STATE with no poll in flight is a stray (log entry 24), one longer than four readings cannot be
decoded (log entry 70); the seconds MISSING over a wrap are log entry 7. The order of the new attempts is log entry 52,
that the Monitor's tests follow all the readings log entry 62, and that an unusable reading takes the fan out of the load
sums log entry 51. What a reading does to the output's state is the next statement's. The bits that 12.5 gives as 0 are
not looked at: log entry 71. -/
def Obligations.StateRepliesAreDecoded : Prop :=
  (∀ (readings : List Byte) (s : State), awake s = true →
    (∀ (f : Frame) (sends : Nat) (window : Option Nat), s.plant.exchange = some ⟨.ownPoll, f, sends, window⟩ →
      let m := f.dest
      let missing := (moduleRec s m).state = .missing
      let since := (moduleRec s m).missingStamp.getD s.uptime
      let ended := { s with plant := { s.plant with exchange := none } }
      let present := setModule m { moduleRec s m with state := .present, missingStamp := none } ended
      let told := if missing then
          recordEntry .moduleRecovered m (min ((s.uptime + 4294967296 - since) % 4294967296) 65535) present
        else present
      let read := takeReadings m readings (setModule m { moduleRec told m with misses := 0 } told)
      exec (.stateReply readings) s = .next
        (if readings.length = 4 ∧ ∀ b ∈ readings, b.toNat / 64 ≠ 3 ∧ ¬ (b.toNat / 64 = 2 ∧ b.toNat % 4 = 3) then
          endStep (if missing then outputsReturned m read else read)
        else { s with plant := { s.plant with
          errors := if s.plant.errors < 65535 then s.plant.errors + 1 else s.plant.errors } })) ∧
    ((∀ f sends window, s.plant.exchange ≠ some ⟨.ownPoll, f, sends, window⟩) →
      exec (.stateReply readings) s = .next
        { s with plant := { s.plant with
          strays := if s.plant.strays < 65535 then s.plant.strays + 1 else s.plant.strays } })) ∧
  (∀ (m : Nat) (readings : List Byte) (s : State),
    let channels := [1, 2, 3, 4].flatMap (fun channel =>
      (configured s).filter (fun o => (outEntry s o).channel == channel && (outEntry s o).module == m))
    takeReadings m readings s = channels.foldl (fun t o =>
      let b := byteAt readings ((outEntry t o).channel - 1)
      if (isDamper (outEntry t o) = true ∧ b / 64 = 1) ∨ (isFan (outEntry t o) = true ∧ b / 64 = 2) then takeReading o b t
      else takeUnusable o t) s ∧
    outputsReturned m s = channels.foldl (fun t o =>
      if (outRec t o).act = .fault ∧ (outRec t o).fault = some ⟨.noResponse, .missing⟩ then
        onOutput o (fun u => place o (recordEntry .outputRecovered o 5
          (modOut o (fun r => { r with fault := none, retried := false, busy := 0 }) u))) t
      else t) s) ∧
  (∀ (o : Nat) (s : State),
    let e := outEntry s o
    let r := outRec s o
    let w := modOut o (fun r => { r with valid := false, unusable := true }) s
    let seen :=
      if isFan e = true ∧ provenExtract e r ≠ provenExtract e (outRec w o) then
        { w with monitorIn := w.monitorIn ++ [.extractChanged o] }
      else w
    let t := onOutput o (fun _ =>
      if r.resolved = none then setAct o .unknown seen
      else if r.act = .fault then seen
      else toFault o .noResponse .badChannel seen) s
    takeUnusable o s =
      if contribution (outEntry t o) (outRec t o) < contribution e r then
        (if isFan (outEntry t o) = true then examine (outEntry t o).board t else t)
      else t) ∧
  ∀ (o b : Nat) (s : State), Canonical s → o ∈ configured s →
    let u := outRec (takeReading o b s) o
    u.valid = true ∧ u.view =
      if isDamper (outEntry s o) then
        (match b % 2, b / 2 % 2 with
        | 1, 0 => .atOpen
        | 0, 1 => .atClosed
        | 0, _ => .travel
        | _, _ => .conflict)
      else
        .fan (if b % 4 = 0 then .stopped else if b % 4 = 1 then .low else .high) (b / 4 % 2 == 1) (b / 8 % 2 == 1)

/-- R70, R75, R76, R78, R80: what a reading does to an output's state. A change of view that shows a trip, a local flag or
a conflict faults it, in every state but FAULT and UNKNOWN; that this goes before a proof, so that a STOPPING fan stopped
with its trip flag newly set faults, is log entry 32. An output MOVING, STARTING or STOPPING is proven by a view that
agrees, and any other change clears its clean flag. A SETTLED output that departs is queued during a hold, queued once as
a damper, and faults LOST_PROOF otherwise. An UNKNOWN output, and a waiting fan whose running speed changes (R72), is
placed by R62: a start or step goes to WAIT_PATH or WAIT_START, faults PATH or is queued with its slot. R71, R78: an
output in FAULT leaves it at an agreeing reading, with OUTPUT_RECOVERED of way FEEDBACK, and SETTLED; when its trip or
local flag clears it makes a new attempt: the fault is removed, OUTPUT_RECOVERED of way FLAG is recorded and the output is
placed by R62. Where a view that agreed before does not bring it out, that a fault with cause MISSING waits for its
module, and that FEEDBACK goes before FLAG, is log entry 34. The Monitor hears of a change of proven extract (R59, R107),
and a fallen contribution has the board examined (R91). That a fan which leaves the wait list is placed before its board
is examined for the leaving is log entry 82. So it is where one reading has a contribution fall and the fan join (log
entry 89). -/
def Obligations.ReadingsMoveTheOutput : Prop :=
  ∀ (o b : Nat) (s : State), Canonical s → o ∈ configured s →
    let e := outEntry s o
    let r := outRec s o
    let u := outRec (takeReading o b s) o
    let v := readingView e b
    let faulted := fun (code : FaultCode) => u.act = .fault ∧ u.fault = some ⟨code, .none⟩
    let shown :=
      if viewTrip v then some FaultCode.tripped
      else if viewLocal v then some .localControl
      else if v = .conflict then some .conflict
      else none
    let held := s.plant.hold.state = .held
    let lost := r.fault = some ⟨.noResponse, .missing⟩
    let examined := fun (w : State) => if isFan e = true then examine e.board w else w
    let seen :=
      let w := modOut o (fun r => { r with view := v, valid := true, unusable := false }) s
      if isFan e = true ∧ provenExtract e r ≠ provenExtract e { r with view := v, valid := true } then
        { w with monitorIn := w.monitorIn ++ [.extractChanged o] }
      else w
    let moved := fun (w : State) =>
      let t := onOutput o (fun _ => w) s
      if contribution e (outRec t o) < contribution e r then examined t else t
    let starts := fun (c : Cmd) => u.act = .waitPath ∨ u.act = .waitStart ∨ faulted .path ∨
      (u.act = .queued ∧ u.slot = some ⟨startDemand e v c, .needed⟩)
    (r.resolved = none → u.act = if r.act = .unknown then .settled else r.act) ∧
    ∀ c, r.resolved = some c →
      let agree := viewAgrees v c = true
      let flagged := fun (w : View) =>
        (r.fault.map (fun f => f.code) = some .tripped ∧ viewTrip w = true) ∨
        (r.fault.map (fun f => f.code) = some .localControl ∧ viewLocal w = true)
      (∀ code, shown = some code → v ≠ r.view → r.act ≠ .fault → r.act ≠ .unknown → faulted code) ∧
      (r.act = .unknown →
        (∀ code, shown = some code → faulted code) ∧
        (shown = none → agree → u.act = .settled) ∧
        (shown = none → ¬ agree → needsSlot e v c = false → u.act = .queued) ∧
        (shown = none → ¬ agree → needsSlot e v c = true → starts c) ∧
        takeReading o b s = moved (place o seen)) ∧
      (shown = none ∨ v = r.view →
        (r.act = .moving ∨ r.act = .starting ∨ r.act = .stopping →
          (agree → u.act = .settled ∧ u.origin = none ∧ u.timer = none ∧ u.clean = false ∧ u.slot = none) ∧
          (¬ agree → u.act = r.act ∧ u.timer = r.timer ∧ u.clean = if v = r.view then r.clean else false)) ∧
        (r.act = .settled →
          (agree → u.act = .settled) ∧
          (¬ agree → held → u.act = .queued ∧ u.retried = r.retried) ∧
          (¬ agree → ¬ held → isDamper e = true → r.retried = false → u.act = .queued ∧ u.retried = true) ∧
          (¬ agree → ¬ held → isDamper e = false ∨ r.retried = true → faulted .lostProof)) ∧
        (r.act = .sent → u.act = .sent) ∧
        (r.act = .queued → r.slot ≠ none ∨ needsSlot e v c = false → u.act = .queued) ∧
        (r.act = .waitPath ∨ r.act = .waitStart →
          (viewSpeed v = viewSpeed r.view → u.act = r.act) ∧
          (viewSpeed v ≠ viewSpeed r.view → shown = none → agree → u.act = .settled) ∧
          (viewSpeed v ≠ viewSpeed r.view → shown = none → ¬ agree → needsSlot e v c = false → u.act = .queued) ∧
          (viewSpeed v ≠ viewSpeed r.view → shown = none → ¬ agree → needsSlot e v c = true → starts c) ∧
          (viewSpeed v ≠ viewSpeed r.view →
            takeReading o b s = moved (if r.act = .waitStart then examined (place o seen) else place o seen)))) ∧
      (r.act = .fault →
        let comes := agree ∧ ¬ ((r.valid = true ∧ viewAgrees r.view c = true) ∧ flagged r.view)
        let cleared := flagged r.view ∧ ¬ flagged v
        (lost → u.act = .fault ∧ u.fault = r.fault) ∧
        (¬ lost → comes → u.act = .settled ∧ u.fault = none ∧ u.retried = r.retried ∧ u.busy = r.busy ∧
          takeReading o b s = moved (settle o (recordEntry .outputRecovered o 1
            (modOut o (fun r => { r with fault := none }) seen)))) ∧
        (¬ lost → ¬ comes → cleared → u.retried = false ∧ u.busy = 0 ∧
          takeReading o b s = moved (place o (recordEntry .outputRecovered o 4
            (modOut o (fun r => { r with fault := none, retried := false, busy := 0 }) seen)))) ∧
        (¬ lost → ¬ comes → ¬ cleared → u.act = .fault ∧ u.fault = r.fault))

/-- R94, R95: a SUPPLY_STATE is ignored with UNMAPPED_INPUT, its detail a free value; or repeats the present source; or
changes it: the source is recorded, every slot on the board is released, every fan of R95 step 3 returns to WAIT_START, the
event follows, and then the list is examined. No other board's output is touched by the return. The order of the warnings
that follow is log entry 59. -/
def Obligations.SourceChangeRestagesTheBoard : Prop :=
  (∀ (b source : Nat) (s : State), awake s = true →
    let ignored := s.mode = .start ∨ b = 0 ∨ 8 < b ∨ fansOn s b = [] ∨ (source ≠ 1 ∧ source ≠ 2 ∧ source ≠ 3)
    (ignored → ∃ detail n : Nat,
      exec (.supplyState b source) s = .next (endStep (recordEntry .unmappedInput b detail { s with free := n }))) ∧
    (¬ ignored → ∀ src, boardSourceCode src = source →
      exec (.supplyState b source) s = .next (endStep
        (if src = boardSource s b then s
        else examineAndWarn b (recordEntry .supplyChange b (boardSourceCode (boardSource s b) * 256 + source)
          (restageBoard b { s with boards := sput .unknown b src s.boards })))))) ∧
  ∀ (b : Nat) (s : State), Canonical s →
    let t := restageBoard b s
    ∀ o, outRec t o =
      let r := outRec s o
      if o ∉ fansOn s b then r
      else if (r.resolved = some .low ∨ r.resolved = some .high) ∧
          (r.act = .queued ∨ r.act = .sent ∨ r.act = .starting ∨ r.act = .settled) then
        { r with
          slot := none, act := .waitStart, retried := false, busy := 0, origin := none, timer := none, clean := false,
          joinTime := some (r.joinTime.getD s.uptime), waitOpen := true }
      else { r with slot := none }

/-- R89, R90, R92, R98: the head of a board's wait list is admitted exactly when the board is not DEAD, a slot is free and
the load fits, and then the next head is tested; a head that is not admitted stops the examination. A fan contributes the
demand of its slot, or else its running load by view, 0 after an unusable reading (log entry 51). A waiting fan is warned
once its waiting time exceeds hold_warn. That time over a wrap is log entry 7, and that the row before it is due does
nothing log entry 3. R89: a wait list holds the fans of its board in WAIT_START, by class, join time and number; that join
times are compared as plain numbers over a wrap of the counter is log entry 7. R86: the capacity under each source. R88:
the start demand. A fan that names board 0 is staged on a board 0 with the blank entry (log entry 73). -/
def Obligations.HeadOfTheWaitListIsAdmittedFirst : Prop :=
  (∀ (b : Nat) (s : State), Canonical s →
    let cls := fun (f : Nat) =>
      let r := outRec s f
      if r.ff ≠ none then 1 else if r.fire ≠ none then 2 else if r.safe ≠ none then 3 else if r.bld ≠ none then 4 else 0
    let joined := fun (f : Nat) => (outRec s f).joinTime.getD 0
    (∀ f, fanClass (outRec s f) = cls f) ∧
    (∀ f, f ∈ waitList s b ↔ f ∈ configured s ∧ isFan (outEntry s f) = true ∧ (outEntry s f).board = b ∧
      (outRec s f).act = .waitStart) ∧
    (waitList s b).Pairwise (fun x y =>
      cls x < cls y ∨ (cls x = cls y ∧ (joined x < joined y ∨ (joined x = joined y ∧ x < y)))) ∧
    capacity s b =
      match boardSource s b with
      | .mains => (boardEntry s b).capMains
      | .standby | .unknown => (boardEntry s b).capStandby
      | .dead => 0) ∧
  (∀ (e : OutputEntry) (speed : Speed) (trip localFlag : Bool) (c : Cmd),
    startDemand e (.fan speed trip localFlag) c =
      match speed, c with
      | .stopped, _ => e.startLoad
      | .low, .high => e.runLow + e.stepLoad
      | .low, _ => e.runLow
      | .high, _ => e.runHigh) ∧
  (∀ (b : Nat) (s : State), Canonical s →
    (waitList s b = [] → examine b s = s) ∧
    ∀ f rest c, waitList s b = f :: rest → (outRec s f).resolved = some c →
      let others := (fansOn s b).filter (fun x => x != f)
      let contributes := fun (x : Nat) =>
        let e := outEntry s x
        let r := outRec s x
        match r.slot with
        | some ⟨demand, _⟩ => demand
        | none =>
          if r.unusable then 0
          else match r.view with
            | .fan .low _ _ => e.runLow
            | .fan .high _ _ => e.runHigh
            | _ => 0
      let load := (others.map contributes).sum
      let demand := startDemand (outEntry s f) (outRec s f).view c
      let admitted := boardSource s b ≠ .dead ∧
        ((fansOn s b).filter (fun x => (outRec s x).slot.isSome)).length < (boardEntry s b).startLimit ∧
        load + demand ≤ capacity s b
      let slotted := modOut f (fun r => { r with slot := some ⟨demand, .needed⟩, heldWarned := false, waitOpen := false }) s
      (¬ admitted → examine b s = s) ∧
      (admitted → examine b s = examine b
        (if (outRec s f).valid = true ∧ viewAgrees (outRec s f).view c = true then settleRecord f slotted
        else enqueue f c slotted))) ∧
  ∀ (f : Nat) (s : State), awake s = true →
    let e := outEntry s f
    let r := outRec s f
    let waits := isFan e = true ∧ r.act = .waitStart ∧ r.heldWarned = false
    let waited := (s.uptime + 4294967296 - r.joinTime.getD s.uptime) % 4294967296
    exec (.startHeld f) s = .next
      (if waits ∧ (boardEntry s e.board).holdWarn < waited then
        raise .startHeld f (e.board * 256 + ((waitList s e.board).idxOf f + 1))
          { s with outs := sput coldOut f { r with heldWarned := true } s.outs }
      else s)

/-! ### The plant link (chapter 8) -/

/-- R138, R139, R143, R146: the end of a command that moved plant takes the waiting reports, moves on a hold that waits
for the line, takes reports, grants at most one exchange and takes the reports of the grant, the Runner's before the
Monitor's (log entries 4 and 13). With an exchange in flight and no report waiting it changes nothing; on a free line a
pending hold is granted and one that leaves is freed, and then the arbiter grants at most one exchange: a poll once the
burst limit is reached, else a command, else a poll, else a forwarded frame. The one grant a command, and the limit tested
as reached or passed, are the model's choice (log entries 13 and 22). R67, R72, R132: the grant of a command sends the
head of the queue and makes its output SENT, on which the fans in WAIT_PATH that name a damper are judged; R138: the grant
of a poll sends ASK to the module chosen and restarts the pacer. R136: a module joins the fast ring at its tail with its
first outstanding output and leaves it with its last, the cursor passing to the module that followed, or to the head.
R139, R144: during a hold only its holder's forward entries may go. -/
def Obligations.ArbiterGrantsAndSends : Prop :=
  (∀ (o : Nat) (a : Act) (s : State),
    let outstanding := fun (x : Act) => x = .sent ∨ x = .moving ∨ x = .starting ∨ x = .stopping
    let m := (outEntry s o).module
    let others := ∃ x ∈ configured s, (outEntry s x).module = m ∧ x ≠ o ∧ outstanding (outRec s x).act
    let t := modOut o (fun r => { r with act := a }) s
    let ring := s.plant.fastRing
    let rest := ring.filter (fun x => x != m)
    (((outstanding (outRec s o).act ↔ outstanding a) ∨ others) → setAct o a s = t) ∧
    (¬ outstanding (outRec s o).act → outstanding a → ¬ others →
      setAct o a s = if m ∈ ring then t else { t with plant := { s.plant with
        fastRing := ring ++ [m], fastCursor := if ring = [] then some m else s.plant.fastCursor } }) ∧
    (outstanding (outRec s o).act → ¬ outstanding a → ¬ others →
      setAct o a s = { t with plant := { s.plant with
        fastRing := rest
        fastCursor :=
          if s.plant.fastCursor = some m then (if rest = [] then none else ringNext ring m)
          else s.plant.fastCursor } })) ∧
  (∀ (before after : List Nat) (m : Nat), m ∉ before → ringNext (before ++ m :: after) m = (after ++ before ++ [m]).head?) ∧
  (∀ s : State, endStep s = drain (arbitrate (drain (holdProgress (drain s))))) ∧
  (∀ s : State, quiet s →
    (s.plant.exchange.isSome = true → endStep s = s) ∧
    (s.plant.exchange = none →
      (s.plant.hold.state = .free ∨ s.plant.hold.state = .held → endStep s = drain (arbitrate s)) ∧
      (s.plant.hold.state = .pending → endStep s = drain (arbitrate (drain (grantHold s)))) ∧
      (s.plant.hold.state = .releasePending → endStep s = drain (arbitrate (drain (freeHold s)))))) ∧
  (∀ s : State,
    drain s = drainTimes 100000 s ∧ drainTimes 0 s = s ∧
    ∀ n, drainTimes (n + 1) s =
      match s.runnerIn, s.monitorIn with
      | x :: rest, _ =>
        let u := { s with runnerIn := rest }
        let o := match x with
          | .settled o => o
          | .fault o _ => o
        let flew := u.run.inFlight.any (fun i => (stepOf u.tables i).output == o)
        drainTimes n (if flew then advance (takeReport x u) else takeReport x u)
      | [], y :: rest => drainTimes n (takeMonitor y { s with monitorIn := rest })
      | [], [] => s) ∧
  (∀ (s : State) (e : ForwardEntry), mayForward s e = true ↔
    s.plant.hold.state = .free ∨ (s.plant.hold.state = .held ∧ e.station = s.tables.link.commissioning)) ∧
  (∀ s : State,
    let polls := s.plant.ready = true ∧ s.plant.hold.state = .free ∧ ¬ (s.plant.fastRing = [] ∧ s.plant.slowRing = [])
    let commands := s.queue ≠ [] ∧ s.plant.hold.state = .free
    let burst := fun (n : Nat) => { s with plant := { s.plant with burst := n } }
    arbitrate s =
      if s.plant.exchange ≠ none ∨ s.plant.hold.state = .pending ∨ s.plant.hold.state = .releasePending then s
      else if polls ∧ s.tables.link.burstLimit ≤ s.plant.burst then grantPoll (burst 0)
      else if commands ∧ polls then grantCommand (burst (s.plant.burst + 1))
      else if commands then grantCommand (burst 0)
      else if polls then grantPoll (burst 0)
      else match s.plant.forward.find? (mayForward s) with
        | none => s
        | some e =>
          { s with plant := { s.plant with
            forward := s.plant.forward.erase e
            exchange := some ⟨.forward e.station e.tag e.addressed, e.frame, 1, none⟩ } }) ∧
  ∀ s : State,
    let l := s.tables.link
    (∀ o c rest, s.queue = ⟨o, c⟩ :: rest → Canonical s → o ∈ configured s →
      let t := grantCommand s
      let f : Frame :=
        { dest := (outEntry s o).module, src := l.plantMaster, kind := 0x60, tag := s.plant.tagCounter,
          payload := byte1 (outEntry s o).channel ++ byte1 (cmdCode c) }
      let sent := setAct o .sent (modOut o (fun r => { r with lastSent := some c }) { s with queue := rest })
      let judged := if isDamper (outEntry s o) = true ∧ (outRec s o).act ≠ .sent then rejudge o sent else sent
      t = { judged with plant := { judged.plant with
          exchange := some ⟨.ownCommand o, f, 1, none⟩, tagCounter := (judged.plant.tagCounter + 1) % 256 } } ∧
        outRec t o = { outRec s o with lastSent := some c, act := .sent } ∧
        (isDamper (outEntry s o) = false → t.queue = rest)) ∧
    (∀ m (fast : Bool), (if fast then s.plant.fastCursor else s.plant.slowCursor) = some m →
      (fast = true ↔ (s.plant.fastCursor ≠ none ∧
        (s.plant.fastCount < l.fastPerSlow ∨ s.plant.slowCursor = none))) →
      let f : Frame := { dest := m, src := l.plantMaster, kind := 0x62, tag := s.plant.tagCounter, payload := [] }
      grantPoll s =
        { s with plant := { s.plant with
          fastCursor := if fast then ringNext s.plant.fastRing m else s.plant.fastCursor
          slowCursor := if fast then s.plant.slowCursor else ringNext s.plant.slowRing m
          fastCount := if ¬ fast then 0
            else if s.plant.fastCount < l.fastPerSlow then s.plant.fastCount + 1 else 1
          pacer := some l.pacer, ready := false, tagCounter := (s.plant.tagCounter + 1) % 256
          exchange := some ⟨.ownPoll, f, 1, none⟩ } })

/-- R130, R131, R134, R135, R138: a send that has left the line starts its reply window; the pacer's expiry sets the ready
flag; a window's expiry sends a command again up to the retry limit and then makes its module MISSING, raises a poll's
miss count, or fails a forwarded frame. Without a send, a window or a pacer running, the row changes nothing (log entry
18). That an unanswered command makes its module MISSING in every module state is log entry 38. R74, R135: a module
becomes MISSING with its stamp and MODULE_MISSING, whose detail is the number of its configured outputs, and then each of
them in ascending channel has its view marked not valid: in FAULT it keeps its code, under NONE it becomes UNKNOWN, and
otherwise it faults NO_RESPONSE with cause MISSING. Sends or misses above 1 + a lowered retry limit act as at it (log
entry 90). The lost fans still count in the extract sum captured with MODULE_MISSING (log entry 91). -/
def Obligations.PlantLinkTimersExpire : Prop :=
  (∀ (m : Nat) (s : State),
    let named := (configured s).filter (fun o => (outEntry s o).module == m)
    let told := raise .moduleMissing m named.length
      (setModule m { moduleRec s m with state := .missing, missingStamp := some s.uptime } s)
    let channels := [1, 2, 3, 4].flatMap (fun channel =>
      (configured told).filter (fun o => (outEntry told o).channel == channel && (outEntry told o).module == m))
    moduleMissing m s = channels.foldl (fun t o => onOutput o (fun u =>
      let e := outEntry u o
      let r := outRec u o
      let w := modOut o (fun r => { r with valid := false }) u
      let seen :=
        if isFan e = true ∧ provenExtract e r ≠ provenExtract e (outRec w o) then
          { w with monitorIn := w.monitorIn ++ [.extractChanged o] }
        else w
      if r.act = .fault then seen
      else if r.resolved = none then setAct o .unknown seen
      else toFault o .noResponse .missing seen) t) told) ∧
  ∀ s : State, awake s = true →
    let ended := { s with plant := { s.plant with exchange := none } }
    (exec .pacerTimerExpiry s = .next
      (if s.plant.pacer = none then s
      else endStep { s with plant := { s.plant with pacer := none, ready := true } })) ∧
    (s.plant.exchange = none →
      exec .plantSendComplete s = .next s ∧ exec .replyWindowExpiry s = .next s) ∧
    ∀ x, s.plant.exchange = some x →
      (exec .plantSendComplete s = .next
        (if x.window = none then
          { s with plant := { s.plant with exchange := some { x with window := some s.tables.link.replyWindow } } }
        else s)) ∧
      (x.window = none → exec .replyWindowExpiry s = .next s) ∧
      (x.window ≠ none → exec .replyWindowExpiry s = .next (endStep
        (let m := x.frame.dest
        let r := moduleRec s m
        match x.kind with
        | .ownCommand _ =>
          if x.sends < 1 + s.tables.link.retryLimit then
            { s with plant := { s.plant with exchange := some { x with sends := x.sends + 1, window := none } } }
          else moduleMissing m ended
        | .ownPoll =>
          if r.state = .missing then ended
          else if s.tables.link.retryLimit + 1 ≤ r.misses + 1 then
            moduleMissing m (setModule m { r with misses := r.misses + 1 } ended)
          else setModule m { r with misses := r.misses + 1 } ended
        | .forward station tag addressed => sendFail station tag addressed .noReply ended)))

/-- R130 to R133, R140, R141, R158: what arrives on the plant link is counted as an error or a stray, or is the awaited
reply and acts as the row of its exchange. The reply to a forwarded frame is decoded where it is a STATE and returned to
its origin; a forward entry's wait ends with FWD_FAIL TIMEOUT. That bytes which complete no frame change nothing is log
entry 21, a CMD_ACK of wrong length and a FORWARD_REPLY without its exchange log entry 24, an absent forward entry log
entry 18. That the reply goes out before what the Runner and the Monitor report of its readings is log entry 66, and that
surplus bytes make a STATE or CMD_ACK undecodable log entry 70. That a STATE of a station above 100 is decoded as a
module's is log entry 75. -/
def Obligations.PlantFramesAndForwardsAreTaken : Prop :=
  ∀ s : State, awake s = true →
    let stray := { s with plant := { s.plant with
      strays := if s.plant.strays < 65535 then s.plant.strays + 1 else s.plant.strays } }
    let bad := { s with plant := { s.plant with
      errors := if s.plant.errors < 65535 then s.plant.errors + 1 else s.plant.errors } }
    let ended := { s with plant := { s.plant with exchange := none } }
    (∀ bytes,
      match receive bytes with
      | .nothing => exec (.plantFrameReceived bytes) s = .next s
      | .bad => exec (.plantFrameReceived bytes) s = .next bad
      | .good f =>
        (s.plant.exchange = none → exec (.plantFrameReceived bytes) s = .next stray) ∧
        ∀ x, s.plant.exchange = some x →
          let awaited := f.src = x.frame.dest ∧ f.dest = s.tables.link.plantMaster ∧ f.tag = x.frame.tag
          exec (.plantFrameReceived bytes) s =
            match x.kind with
            | .ownCommand _ =>
              if awaited ∧ f.kind = 0x61 then
                if f.payload.length = 2 then exec (.cmdAck (byteAt f.payload 0) (byteAt f.payload 1)) s else .next bad
              else .next stray
            | .ownPoll => if awaited ∧ f.kind = 0x63 then exec (.stateReply f.payload) s else .next stray
            | .forward _ _ _ => if awaited then exec (.forwardReply f.kind f.payload) s else .next stray) ∧
    (∀ kind payload f sends window station tag addressed,
      s.plant.exchange = some ⟨.forward station tag addressed, f, sends, window⟩ →
      exec (.forwardReply kind payload) s = .next
        (if (kind = 0x63 ∧ decodable payload = false) ∨
            (kind = 0x61 ∧ (payload.length ≠ 2 ∨ 3 < byteAt payload 1)) then bad
        else
          let heard :=
            if kind = 0x63 then stateDecoded f.dest payload ended
            else if kind = 0x61 then setModule f.dest { moduleRec s f.dest with misses := 0 } ended
            else ended
          let reply : Frame := { dest := station, src := addressed, kind := kind, tag := tag, payload := payload }
          endStep { heard with panel := offerFrame reply .nothing heard.panel })) ∧
    ((∀ f sends window station tag addressed,
        s.plant.exchange ≠ some ⟨.forward station tag addressed, f, sends, window⟩) →
      ∀ kind payload, exec (.forwardReply kind payload) s = .next stray) ∧
    ∀ place, exec (.forwardWaitExpiry place) s = .next
      (match s.plant.forward[place]? with
      | none => s
      | some e => endStep (sendFail e.station e.tag e.addressed .timeout
          { s with plant := { s.plant with forward := s.plant.forward.eraseIdx place } }))

/-- R142 to R146: HOLD_ASK is refused by the first condition of R142 that applies, or makes the hold HOLD_PENDING and
leaves service; a pending hold is granted once the line is free: HELD with its timer, the other stations' forward entries
refused HELD, HOLD_GRANTED, and the HOLD_ASK answered OK. HOLD_END and the hold timer release it, and a released hold is
FREE once the line is free: the holder's forward entries refused HELD, HOLD_ENDED, and the plant re-asserted. That the row
of a hold timer that has not run out does nothing is log entries 3 and 18. That a hold which becomes FREE drops its
release reason is log entry 26, and the ascending order of the re-asserted outputs log entry 52. That a fan placed then
may fault PATH is log entry 67. That the removed entries are refused in queue order is log entry 74. -/
def Obligations.HoldIsAskedGrantedAndReleased : Prop :=
  ∀ (req : Requester) (s : State),
    let h := s.plant.hold
    let withHold := fun (x : Hold) (u : State) => { u with plant := { u.plant with hold := x } }
    let l := s.tables.link
    let refused := fun (own : Bool) (u : State) =>
      (u.plant.forward.filter (fun e => (e.station == l.commissioning) == own)).foldl
        (fun t e => sendFail e.station e.tag e.addressed .held t)
        { u with plant := { u.plant with
          forward := u.plant.forward.filter (fun e => (e.station == l.commissioning) != own) } }
    let granted := recordEntry .holdGranted l.commissioning l.holdLimit
      (refused false (withHold { h with state := .held, timer := some l.holdLimit } s))
    let released := recordEntry .holdEnded l.commissioning (releaseCode h.reason)
      (refused true (withHold { h with state := .free, reason := .none } s))
    let replaced := (configured s).foldl (fun t o =>
      match (outRec t o).resolved with
      | some c =>
        if (outRec t o).act = .queued ∧ needsSlot (outEntry t o) (outRec t o).view c = true ∧
            slotFits (outEntry t o) (outRec t o) c = false then onOutput o (place o) (dequeue o t)
        else t
      | none => t) released
    grantHold s =
      (match h.ask with
      | some asked => sendReply asked .ok (withHold { granted.plant.hold with ask := none } granted)
      | none => granted) ∧
    freeHold s = (configured s).foldl (fun t o =>
      match (outRec t o).resolved with
      | some c =>
        if (outRec t o).act = .settled ∧ (outRec t o).valid = true ∧ viewAgrees (outRec t o).view c = false then
          onOutput o (place o) t
        else t
      | none => t) replaced ∧
    (Serves (.holdAsk req) s → exec (.holdAsk req) s = .next
      (if s.mode = .start then answer req .wrongMode s
      else if h.state ≠ .free then answer req .busy s
      else if s.run.state ≠ .idle then answer req .runActive s
      else if s.mode = .normal ∧ (zoneNumbers.any (fun z =>
          (zoneRec s z).state == .confirmed || (zoneRec s z).state == .secondary)) = true then answer req .zoneBusy s
      else if (configured s).any (fun o => [Act.queued, .waitPath, .waitStart, .sent, .moving, .starting,
          .stopping].contains (outRec s o).act) = true then answer req .busy s
      else endStep { withHold { h with state := .pending, ask := some req } s with
        panel := { s.panel with inService := none } })) ∧
    (Serves (.holdEnd req) s → exec (.holdEnd req) s = .next
      (let u := { s with panel := { s.panel with inService := some (.holdEnd req) } }
      let leaving := withHold { h with state := .releasePending, reason := .ended, timer := none } u
      if s.mode = .start then answer req .wrongMode s
      else endStep (answer req .ok
        (match h.state with
        | .free | .releasePending => u
        | .pending =>
          (match h.ask with
          | some asked => sendReply asked .revoked (withHold { h with state := .free, ask := none } u)
          | none => withHold { h with state := .free } u)
        | .held => drain (if s.plant.exchange = none then freeHold leaving else leaving))))) ∧
    (awake s = true → exec .holdTimerExpiry s = .next
      (if h.state = .held ∧ h.timer = some 0 then
        endStep (withHold { h with state := .releasePending, reason := .timeout, timer := none } s)
      else s)) ∧
    holdProgress s =
      (if s.plant.exchange ≠ none then s
      else match h.state with
        | .pending => grantHold s
        | .releasePending => freeHold s
        | _ => s)

/-! ### Capture, trail and reports (chapters 9 and 10) -/

/-- R161: to record an event is to place an entry of the next sequence number, the uptime, the code, the subject and the
detail as the newest of at most 256, and to raise the next number by 1, from 65535 to 0; the EVENT frame that goes with it
is the statement of the outbound queue. R47, R114, R164: the facts of a run and the extract sum that are captured; the run
seconds over a wrap are log entry 7. R159, R160, R162, R164, R165: a report is recorded, with its EVENT; an ADVISORY one
does no more. A CRITICAL one locks an EMPTY record with its entry, facts, sum and clean flag, and records FFR_CAPTURED;
while LOCKED it sets the lost flag and counts, to at most 255. The sum captured with MODULE_MISSING reads the views before
they are marked not valid (log entry 91). -/
def Obligations.CriticalReportsLockTheRecord : Prop :=
  (∀ (ev : Ev) (subject detail : Nat) (s : State),
    let t := recordEntry ev subject detail s
    let held := s.capture.trail
    let kept := if held.length < 256 then held else held.drop (held.length - 255)
    t = { s with
      panel := t.panel
      capture := { s.capture with
        trail := kept ++ [⟨s.capture.nextSequence, s.uptime, ev, subject, detail⟩]
        nextSequence := (s.capture.nextSequence + 1) % 65536 } }) ∧
  (∀ s : State,
    let e := scenarioEntry s
    let step := e.firstStep + if s.run.cursor < e.stepCount then s.run.cursor else e.stepCount - 1
    let seconds := match s.run.startStamp with
      | some t => (s.uptime + 4294967296 - t) % 4294967296
      | none => 0
    let idle : RunFacts := ⟨0, 0, 0⟩
    (1 ≤ e.stepCount → runFacts s = if fireMode s then ⟨s.run.scenario, step, seconds⟩ else idle) ∧
    (1 ≤ e.stepCount → ∀ o, faultFacts s o =
      if fireMode s then ⟨s.run.scenario, (sget none s.run.lastIssued o).getD step, seconds⟩ else idle) ∧
    firstServedSum s =
      match s.run.served with
      | z :: _ => if (s.watches.map (fun w => w.zone)).contains z then extractSum s z else 0
      | [] => 0) ∧
  ∀ (r : Report) (s : State),
    let u := recordEntry r.event r.subject r.detail s
    let critical := match r.event with
      | .outputFault => isRunOutput s r.subject
      | .moduleMissing => (configured s).any (fun o => (outEntry s o).module == r.subject && isRunOutput s o)
      | .startHeld =>
        decide (1 ≤ fanClass (outRec s r.subject) ∧ fanClass (outRec s r.subject) ≤ 3) && isRunOutput s r.subject
      | .extractDeficit => decide (32768 ≤ r.detail)
      | .runLate | .extractLost => true
      | _ => false
    let facts := r.facts.getD (runFacts s)
    report r s =
      if critical = false then u
      else match s.capture.locked with
        | none =>
          let captured : Captured :=
            { entry := ⟨s.capture.nextSequence, s.uptime, r.event, r.subject, r.detail⟩
              facts := { facts with seconds := min facts.seconds 65535 }
              extractSum := firstServedSum s
              clean := r.clean }
          recordEntry .ffrCaptured r.subject s.capture.nextSequence
            { u with capture := { u.capture with locked := some captured } }
        | some _ =>
          let later := if s.capture.later < 255 then s.capture.later + 1 else s.capture.later
          { u with capture := { u.capture with lost := true, later := later } }

/-- R166, R167: FAULT_ACK empties a LOCKED record whose sequence and later count it carries, and is refused otherwise;
TRAIL_READ returns the entries from its start sequence on, at most 4, with the gap flag where the start is not held, and
leaves the trail. -/
def Obligations.FaultsAreAcknowledgedAndTrailRead : Prop :=
  ∀ (req : Requester) (start count : Nat) (s : State),
    (Serves (.faultAck req start count) s → exec (.faultAck req start count) s = .next
      (match s.capture.locked with
      | none => answer req .ok s
      | some k =>
        if start = k.entry.sequence ∧ count = s.capture.later then
          answer req .ok { s with capture := { s.capture with locked := none, lost := false, later := 0 } }
        else answer req .badValue s)) ∧
    (Serves (.trailRead req start count) s → start < 65536 →
      exec (.trailRead req start count) s = .next
        (let held := s.capture.trail.length
        let d := (s.capture.nextSequence + 65536 - start) % 65536
        let found :=
          if d = 0 then []
          else if d ≤ held then (s.capture.trail.drop (held - d)).take (min count 4)
          else s.capture.trail.take (min count 4)
        let gap : Byte := if held < d then 1#8 else 0#8
        if count = 0 then answer req .badValue s
        else answerFrame req 0x45
          (byte2 s.capture.nextSequence ++ [gap] ++ byte1 found.length ++ found.flatMap entryBytes) .nothing s))

/-- R155, R179: each STATUS_ASK is refused for an index outside its selector's range or a part that its report does not
have, and is otherwise answered with that part, the number of parts and the uptime. The parts of a report are its bytes in
order. A summary built while REPORTS_MISSED is set sets the clearing mark (R154). That any of its parts does so is log
entry 60. R18, R36, R55, R83, R101, R102, R126, R147, R155, R163: what each report holds, part by part, with the codes of
12.7. The layout of its parts where the rules leave it open is log entry 43, the record of an unconfigured output log
entry 36, its module state log entry 76. -/
def Obligations.StatusIsAnsweredInParts : Prop :=
  (∀ (req : Requester) (index part : Nat) (s : State),
    let reply := fun (selector : Nat) (inRange : Bool) (report : List Byte) =>
      if inRange = false ∨ partCount report ≤ part then answer req .badIndex s
      else
        let marked := if selector = 0 ∧ s.panel.reportsMissed = true ∧ s.panel.outbound.length < 40
          then { s with panel := { s.panel with clearing := true } } else s
        answerFrame req 0x41
          ([BitVec.ofNat 8 selector, BitVec.ofNat 8 index, BitVec.ofNat 8 part, BitVec.ofNat 8 (partCount report)]
            ++ byte4 s.uptime ++ (report.drop (40 * part)).take 40)
          (if selector = 0 ∧ s.panel.reportsMissed = true then .clearReportsMissed else .nothing) marked
    (Serves (.statusAskSummary req index part) s →
      exec (.statusAskSummary req index part) s = .next (reply 0 (index == 0) (summaryReport s))) ∧
    (Serves (.statusAskZone req index part) s →
      exec (.statusAskZone req index part) s = .next
        (reply 1 (decide (1 ≤ index ∧ index ≤ 32)) (zoneReport s index))) ∧
    (Serves (.statusAskOutput req index part) s →
      exec (.statusAskOutput req index part) s = .next
        (reply 2 (decide (1 ≤ index ∧ index ≤ 160)) (outputReport s index))) ∧
    (Serves (.statusAskRun req index part) s →
      exec (.statusAskRun req index part) s = .next (reply 3 (index == 0) (runReport s))) ∧
    (Serves (.statusAskBoard req index part) s →
      exec (.statusAskBoard req index part) s = .next
        (reply 4 (decide (1 ≤ index ∧ index ≤ 8)) (boardReport s index))) ∧
    (Serves (.statusAskFirstFault req index part) s →
      exec (.statusAskFirstFault req index part) s = .next (reply 5 (index == 0) (firstFaultReport s)))) ∧
  (∀ report : List Byte,
    (List.range (partCount report)).flatMap (fun part => (report.drop (40 * part)).take 40) = report ∧
      1 ≤ partCount report ∧ (report.length ≠ 0 → 40 * (partCount report - 1) < report.length)) ∧
  (∀ n : Nat, byte1 n = [BitVec.ofNat 8 n] ∧ byte2 n = [BitVec.ofNat 8 (n / 256), BitVec.ofNat 8 n] ∧
    byte4 n = [BitVec.ofNat 8 (n / 16777216), BitVec.ofNat 8 (n / 65536), BitVec.ofNat 8 (n / 256), BitVec.ofNat 8 n]) ∧
  ([Mode.start, .service, .normal].map modeCode = [0, 1, 2] ∧
    [TableId.output, .zone, .scenario, .joint, .step, .board, .window, .link].map tableCode = [1, 2, 3, 4, 5, 6, 7, 8] ∧
    [RunState.idle, .staging, .established].map runStateCode = [0, 1, 2] ∧
    [ZoneState.normal, .prealarm, .confirmed, .active, .secondary, .isolated].map zoneStateCode = [0, 1, 2, 3, 4, 5] ∧
    [SourceClass.detector, .confirming].map sourceClassCode = [1, 2] ∧
    [ConfirmReason.coincidence, .confirmingSource, .held].map confirmReasonCode = [1, 2, 3] ∧
    [BoardSource.unknown, .mains, .standby, .dead].map boardSourceCode = [0, 1, 2, 3] ∧
    [PanelState.unknown, .present, .lost].map panelStateCode = [0, 1, 2] ∧
    [HoldState.free, .pending, .held, .releasePending].map holdStateCode = [0, 1, 2, 3] ∧
    [ReleaseReason.none, .revoked, .timeout, .ended].map releaseCode = [0, 1, 2, 3] ∧
    [ModuleState.unknown, .present, .missing].map moduleStateCode = [0, 1, 2] ∧
    [ZoneSwitch.auto, .extract, .off].map zoneSwitchCode = [0, 1, 2] ∧
    [OutputSwitch.auto, .opn, .cls, .off, .low, .on].map outputSwitchCode = [0, 1, 2, 3, 4, 5] ∧
    [Act.unknown, .settled, .queued, .waitPath, .waitStart, .sent, .moving, .starting, .stopping, .fault].map actCode =
      [0, 1, 2, 3, 4, 5, 6, 7, 8, 9] ∧
    [FaultCode.noProof, .stuck, .conflict, .noRun, .noStop, .lostProof, .tripped, .localControl, .noResponse, .busy,
      .path].map faultCodeOf = [1, 2, 3, 4, 5, 6, 7, 8, 9, 10, 11] ∧
    [Cause.none, .missing, .badChannel].map causeCode = [0, 1, 2] ∧
    [Clean.none, .clear, .set].map cleanCode = [0, 1, 2] ∧
    [Ev.zonePrealarm, .zoneConfirmed, .zoneActive, .zoneSecondary, .zoneReset, .zoneIsolated, .zoneDeisolated,
      .heldPresented].map evCode = [0x01, 0x02, 0x03, 0x04, 0x05, 0x06, 0x07, 0x08] ∧
    [Ev.runStart, .runSwitch, .runEstablished, .runLate, .runEnd].map evCode = [0x10, 0x11, 0x12, 0x13, 0x14] ∧
    [Ev.outputFault, .outputRecovered, .standbyEngaged, .extractDeficit, .reserveEngaged, .extractRestored,
      .extractLost].map evCode = [0x20, 0x21, 0x22, 0x23, 0x24, 0x25, 0x26] ∧
    [Ev.moduleMissing, .moduleRecovered, .supplyChange, .startHeld, .ffAllstopOn, .ffAllstopOff, .ffLost,
      .ffRestored].map evCode = [0x30, 0x31, 0x32, 0x33, 0x40, 0x41, 0x42, 0x43] ∧
    [Ev.holdGranted, .holdEnded, .modeChange, .restart, .configInvalid, .unmappedInput, .ffrCaptured].map evCode =
      [0x50, 0x51, 0x52, 0x53, 0x54, 0x55, 0x56]) ∧
  ∀ (s : State) (n : Nat),
    let yes := fun (b : Bool) => byte1 (if b then 1 else 0)
    let may1 := fun (x : Option Nat) => match x with
      | some k => byte1 1 ++ byte1 k
      | none => [0#8, 0#8]
    let may2 := fun (x : Option Nat) => match x with
      | some k => byte1 1 ++ byte2 k
      | none => [0#8, 0#8, 0#8]
    let may4 := fun (x : Option Nat) => match x with
      | some k => byte1 1 ++ byte4 k
      | none => [0#8, 0#8, 0#8, 0#8, 0#8]
    let list := fun (elements : List (List Byte)) => byte1 elements.length ++ elements.flatten
    let numbers := fun (last : Nat) => (List.range last).map (fun k => k + 1)
    let modules := fun (x : ModuleState) => byte1 ((numbers 100).filter (fun m => (moduleRec s m).state == x)).length
    let cmd := fun (c : Option Cmd) => byte1 (match c with
      | none => 0 | some .opn => 1 | some .cls => 2 | some .stop => 3 | some .low => 4 | some .high => 5)
    let view := fun (v : View) (valid : Bool) =>
      byte1 (match v with
        | .none => 0 | .atOpen => 1 | .atClosed => 2 | .travel => 3 | .conflict => 4
        | .fan .stopped _ _ => 5 | .fan .low _ _ => 6 | .fan .high _ _ => 7)
        ++ yes (viewTrip v) ++ yes (viewLocal v) ++ yes valid
    summaryReport s =
      byte1 (modeCode s.mode) ++ byte4 s.uptime
        ++ (match s.failing with
          | some r => byte1 1 ++ byte1 (tableCode r.table) ++ byte2 r.index
          | none => [0#8, 0#8, 0#8, 0#8])
        ++ byte1 (runStateCode s.run.state) ++ byte1 s.run.scenario ++ yes s.run.test ++ yes s.run.late ++ yes s.run.degraded
        ++ (numbers 32).flatMap (fun z => byte1 (zoneStateCode (zoneRec s z).state) ++ yes (zoneRec s z).held)
        ++ (numbers 8).flatMap (fun b => byte1 (boardSourceCode (boardSource s b)))
        ++ byte1 (panelStateCode s.ff.panel) ++ yes s.ff.allStop ++ byte1 s.ff.marks.length
        ++ byte1 (holdStateCode s.plant.hold.state) ++ byte1 (releaseCode s.plant.hold.reason)
        ++ modules .unknown ++ modules .present ++ modules .missing
        ++ byte1 s.queue.length ++ byte1 s.plant.burst ++ byte1 s.plant.forward.length ++ byte1 s.plant.fastRing.length
        ++ byte2 s.plant.errors ++ byte2 s.plant.strays
        ++ yes s.capture.locked.isSome ++ byte1 ((configured s).filter (fun o => (outRec s o).act == .fault)).length
        ++ byte2 s.panel.errors ++ byte2 s.panel.overruns ++ byte1 s.panel.outbound.length ++ yes s.panel.reportsMissed ∧
    (let r := zoneRec s n
    zoneReport s n =
      byte1 (zoneStateCode r.state)
        ++ list (r.sources.map (fun a => byte2 a.address ++ byte1 (sourceClassCode a.cls)))
        ++ may1 (r.confirmation.map (fun c => confirmReasonCode c.reason)) ++ may4 (r.confirmation.map (fun c => c.stamp))
        ++ yes r.held ++ byte1 (zoneSwitchCode (sget .auto s.ff.zoneSwitches n))) ∧
    (let e := outEntry s n
    let known := isConfigured e
    let fan := known && isFan e
    let r := if known then outRec s n else coldOut
    let place := (s.queue.map (fun q => q.output)).idxOf n
    outputReport s n =
      cmd r.ff ++ cmd r.fire ++ cmd r.safe ++ cmd r.bld ++ cmd r.resolved
        ++ may1 (if fan && r.resolved.isSome then some (fanClass r) else none)
        ++ cmd r.lastSent ++ byte1 (actCode r.act)
        ++ (match r.fault with
          | some f => byte1 1 ++ byte1 (faultCodeOf f.code) ++ byte1 (causeCode f.cause)
          | none => [0#8, 0#8, 0#8])
        ++ view r.view r.valid
        ++ (match r.origin with
          | some v => byte1 1 ++ view v true
          | none => [0#8, 0#8, 0#8, 0#8, 0#8])
        ++ may1 (r.origin.map (fun _ => if r.clean then 1 else 0)) ++ may2 r.timer
        ++ yes r.retried ++ byte1 r.busy ++ byte1 r.superseded
        ++ (if fan then byte1 1 ++ yes r.slot.isSome else [0#8, 0#8]) ++ may2 (r.slot.map (fun x => x.demand))
        ++ (if fan then byte1 1 ++ (match r.engaged with
            | .none => [0#8, 0#8]
            | .standbyFor d => byte1 1 ++ byte1 d
            | .reserveFor z => byte1 2 ++ byte1 z) else [0#8, 0#8, 0#8])
        ++ byte1 (if known && decide (place < s.queue.length) then place + 1 else 0) ++ byte1 s.queue.length
        ++ byte1 (moduleStateCode (if known then (moduleRec s e.module).state else .unknown))
        ++ byte1 (outputSwitchCode (if known then sget .auto s.ff.outputSwitches n else .auto))
        ++ (if fan then byte1 1 ++ yes (s.ff.marks.contains n) else [0#8, 0#8])) ∧
    (let r := s.run
    runReport s =
      byte1 (runStateCode r.state) ++ yes r.test ++ yes r.late ++ yes r.degraded ++ byte1 r.scenario
        ++ list (r.served.map byte1) ++ byte1 r.cursor ++ list (r.inFlight.map byte2)
        ++ (numbers 160).flatMap (fun o => may2 (sget none r.lastIssued o))
        ++ may1 r.delay ++ may2 r.deadline ++ list (r.faults.map byte1) ++ yes r.overflow
        ++ may4 r.startStamp ++ may4 r.stageStamp
        ++ list (s.watches.map (fun w => byte1 w.zone ++ byte2 w.requirement ++ yes w.watching ++ yes w.deficit
          ++ yes w.exhausted ++ byte1 w.cursor ++ may1 w.pending ++ byte2 (extractSum s w.zone)))) ∧
    (let e := boardEntry s n
    let load := fun (f : Nat) => contribution (outEntry s f) (outRec s f)
    let holders := (fansOn s n).filter (fun f => (outRec s f).slot.isSome)
    let known := fansOn s n ≠ []
    boardReport s n =
      byte1 (boardSourceCode (if known then boardSource s n else .unknown))
        ++ byte2 (if known then capacity s n else e.capStandby) ++ byte1 e.startLimit
        ++ list (holders.map (fun f => byte1 f ++ byte2 (load f))) ++ byte2 (((fansOn s n).map load).sum)
        ++ list ((waitList s n).map (fun f => byte1 f ++ byte1 (fanClass (outRec s f))
          ++ byte4 ((outRec s f).joinTime.getD 0) ++ yes (outRec s f).heldWarned))) ∧
    firstFaultReport s =
      match s.capture.locked with
      | some k =>
        byte1 1 ++ byte1 1 ++ byte2 k.entry.sequence
          ++ byte1 1 ++ byte1 (evCode k.entry.event) ++ byte2 k.entry.subject ++ byte2 k.entry.detail
          ++ may1 (some k.facts.scenario) ++ may2 (some k.facts.stepIndex) ++ may2 (some k.facts.seconds)
          ++ may2 (some k.extractSum) ++ may1 (some (cleanCode k.clean)) ++ may4 (some k.entry.uptime)
          ++ yes s.capture.lost ++ byte1 s.capture.later
      | none => List.replicate 28 0#8 ++ yes s.capture.lost ++ byte1 s.capture.later
end

