-- ==== Sys2Proof/Laws/State.lean ====
section
/-! SUPPORT. One lemma per field for each named write of the state, so that no proof unfolds a record update. -/

namespace Sys2Proof.Machine

variable (s : State)

/-! ### setRun -/

@[simp] theorem setRun_powered (f : Run → Run) : (setRun f s).powered = s.powered := rfl
@[simp] theorem setRun_resetHeld (f : Run → Run) : (setRun f s).resetHeld = s.resetHeld := rfl
@[simp] theorem setRun_mode (f : Run → Run) : (setRun f s).mode = s.mode := rfl
@[simp] theorem setRun_uptime (f : Run → Run) : (setRun f s).uptime = s.uptime := rfl
@[simp] theorem setRun_tables (f : Run → Run) : (setRun f s).tables = s.tables := rfl
@[simp] theorem setRun_nv (f : Run → Run) : (setRun f s).nv = s.nv := rfl
@[simp] theorem setRun_window (f : Run → Run) : (setRun f s).window = s.window := rfl
@[simp] theorem setRun_nvWrite (f : Run → Run) : (setRun f s).nvWrite = s.nvWrite := rfl
@[simp] theorem setRun_validating (f : Run → Run) : (setRun f s).validating = s.validating := rfl
@[simp] theorem setRun_failing (f : Run → Run) : (setRun f s).failing = s.failing := rfl
@[simp] theorem setRun_restartDue (f : Run → Run) : (setRun f s).restartDue = s.restartDue := rfl
@[simp] theorem setRun_zones (f : Run → Run) : (setRun f s).zones = s.zones := rfl
@[simp] theorem setRun_run (f : Run → Run) : (setRun f s).run = f s.run := rfl
@[simp] theorem setRun_watches (f : Run → Run) : (setRun f s).watches = s.watches := rfl
@[simp] theorem setRun_outs (f : Run → Run) : (setRun f s).outs = s.outs := rfl
@[simp] theorem setRun_queue (f : Run → Run) : (setRun f s).queue = s.queue := rfl
@[simp] theorem setRun_boards (f : Run → Run) : (setRun f s).boards = s.boards := rfl
@[simp] theorem setRun_ff (f : Run → Run) : (setRun f s).ff = s.ff := rfl
@[simp] theorem setRun_plant (f : Run → Run) : (setRun f s).plant = s.plant := rfl
@[simp] theorem setRun_panel (f : Run → Run) : (setRun f s).panel = s.panel := rfl
@[simp] theorem setRun_capture (f : Run → Run) : (setRun f s).capture = s.capture := rfl
@[simp] theorem setRun_selector (f : Run → Run) : (setRun f s).selector = s.selector := rfl
@[simp] theorem setRun_entryIntake (f : Run → Run) : (setRun f s).entryIntake = s.entryIntake := rfl
@[simp] theorem setRun_runnerIn (f : Run → Run) : (setRun f s).runnerIn = s.runnerIn := rfl
@[simp] theorem setRun_monitorIn (f : Run → Run) : (setRun f s).monitorIn = s.monitorIn := rfl
@[simp] theorem setRun_free (f : Run → Run) : (setRun f s).free = s.free := rfl
@[simp] theorem setRun_pending (f : Run → Run) : (setRun f s).pending = s.pending := rfl

/-! ### setPlant -/

@[simp] theorem setPlant_powered (f : Plant → Plant) : (setPlant f s).powered = s.powered := rfl
@[simp] theorem setPlant_resetHeld (f : Plant → Plant) : (setPlant f s).resetHeld = s.resetHeld := rfl
@[simp] theorem setPlant_mode (f : Plant → Plant) : (setPlant f s).mode = s.mode := rfl
@[simp] theorem setPlant_uptime (f : Plant → Plant) : (setPlant f s).uptime = s.uptime := rfl
@[simp] theorem setPlant_tables (f : Plant → Plant) : (setPlant f s).tables = s.tables := rfl
@[simp] theorem setPlant_nv (f : Plant → Plant) : (setPlant f s).nv = s.nv := rfl
@[simp] theorem setPlant_window (f : Plant → Plant) : (setPlant f s).window = s.window := rfl
@[simp] theorem setPlant_nvWrite (f : Plant → Plant) : (setPlant f s).nvWrite = s.nvWrite := rfl
@[simp] theorem setPlant_validating (f : Plant → Plant) : (setPlant f s).validating = s.validating := rfl
@[simp] theorem setPlant_failing (f : Plant → Plant) : (setPlant f s).failing = s.failing := rfl
@[simp] theorem setPlant_restartDue (f : Plant → Plant) : (setPlant f s).restartDue = s.restartDue := rfl
@[simp] theorem setPlant_zones (f : Plant → Plant) : (setPlant f s).zones = s.zones := rfl
@[simp] theorem setPlant_run (f : Plant → Plant) : (setPlant f s).run = s.run := rfl
@[simp] theorem setPlant_watches (f : Plant → Plant) : (setPlant f s).watches = s.watches := rfl
@[simp] theorem setPlant_outs (f : Plant → Plant) : (setPlant f s).outs = s.outs := rfl
@[simp] theorem setPlant_queue (f : Plant → Plant) : (setPlant f s).queue = s.queue := rfl
@[simp] theorem setPlant_boards (f : Plant → Plant) : (setPlant f s).boards = s.boards := rfl
@[simp] theorem setPlant_ff (f : Plant → Plant) : (setPlant f s).ff = s.ff := rfl
@[simp] theorem setPlant_plant (f : Plant → Plant) : (setPlant f s).plant = f s.plant := rfl
@[simp] theorem setPlant_panel (f : Plant → Plant) : (setPlant f s).panel = s.panel := rfl
@[simp] theorem setPlant_capture (f : Plant → Plant) : (setPlant f s).capture = s.capture := rfl
@[simp] theorem setPlant_selector (f : Plant → Plant) : (setPlant f s).selector = s.selector := rfl
@[simp] theorem setPlant_entryIntake (f : Plant → Plant) : (setPlant f s).entryIntake = s.entryIntake := rfl
@[simp] theorem setPlant_runnerIn (f : Plant → Plant) : (setPlant f s).runnerIn = s.runnerIn := rfl
@[simp] theorem setPlant_monitorIn (f : Plant → Plant) : (setPlant f s).monitorIn = s.monitorIn := rfl
@[simp] theorem setPlant_free (f : Plant → Plant) : (setPlant f s).free = s.free := rfl
@[simp] theorem setPlant_pending (f : Plant → Plant) : (setPlant f s).pending = s.pending := rfl

/-! ### setPanel -/

@[simp] theorem setPanel_powered (f : Panel → Panel) : (setPanel f s).powered = s.powered := rfl
@[simp] theorem setPanel_resetHeld (f : Panel → Panel) : (setPanel f s).resetHeld = s.resetHeld := rfl
@[simp] theorem setPanel_mode (f : Panel → Panel) : (setPanel f s).mode = s.mode := rfl
@[simp] theorem setPanel_uptime (f : Panel → Panel) : (setPanel f s).uptime = s.uptime := rfl
@[simp] theorem setPanel_tables (f : Panel → Panel) : (setPanel f s).tables = s.tables := rfl
@[simp] theorem setPanel_nv (f : Panel → Panel) : (setPanel f s).nv = s.nv := rfl
@[simp] theorem setPanel_window (f : Panel → Panel) : (setPanel f s).window = s.window := rfl
@[simp] theorem setPanel_nvWrite (f : Panel → Panel) : (setPanel f s).nvWrite = s.nvWrite := rfl
@[simp] theorem setPanel_validating (f : Panel → Panel) : (setPanel f s).validating = s.validating := rfl
@[simp] theorem setPanel_failing (f : Panel → Panel) : (setPanel f s).failing = s.failing := rfl
@[simp] theorem setPanel_restartDue (f : Panel → Panel) : (setPanel f s).restartDue = s.restartDue := rfl
@[simp] theorem setPanel_zones (f : Panel → Panel) : (setPanel f s).zones = s.zones := rfl
@[simp] theorem setPanel_run (f : Panel → Panel) : (setPanel f s).run = s.run := rfl
@[simp] theorem setPanel_watches (f : Panel → Panel) : (setPanel f s).watches = s.watches := rfl
@[simp] theorem setPanel_outs (f : Panel → Panel) : (setPanel f s).outs = s.outs := rfl
@[simp] theorem setPanel_queue (f : Panel → Panel) : (setPanel f s).queue = s.queue := rfl
@[simp] theorem setPanel_boards (f : Panel → Panel) : (setPanel f s).boards = s.boards := rfl
@[simp] theorem setPanel_ff (f : Panel → Panel) : (setPanel f s).ff = s.ff := rfl
@[simp] theorem setPanel_plant (f : Panel → Panel) : (setPanel f s).plant = s.plant := rfl
@[simp] theorem setPanel_panel (f : Panel → Panel) : (setPanel f s).panel = f s.panel := rfl
@[simp] theorem setPanel_capture (f : Panel → Panel) : (setPanel f s).capture = s.capture := rfl
@[simp] theorem setPanel_selector (f : Panel → Panel) : (setPanel f s).selector = s.selector := rfl
@[simp] theorem setPanel_entryIntake (f : Panel → Panel) : (setPanel f s).entryIntake = s.entryIntake := rfl
@[simp] theorem setPanel_runnerIn (f : Panel → Panel) : (setPanel f s).runnerIn = s.runnerIn := rfl
@[simp] theorem setPanel_monitorIn (f : Panel → Panel) : (setPanel f s).monitorIn = s.monitorIn := rfl
@[simp] theorem setPanel_free (f : Panel → Panel) : (setPanel f s).free = s.free := rfl
@[simp] theorem setPanel_pending (f : Panel → Panel) : (setPanel f s).pending = s.pending := rfl

/-! ### setCapture -/

@[simp] theorem setCapture_powered (f : Capture → Capture) : (setCapture f s).powered = s.powered := rfl
@[simp] theorem setCapture_resetHeld (f : Capture → Capture) : (setCapture f s).resetHeld = s.resetHeld := rfl
@[simp] theorem setCapture_mode (f : Capture → Capture) : (setCapture f s).mode = s.mode := rfl
@[simp] theorem setCapture_uptime (f : Capture → Capture) : (setCapture f s).uptime = s.uptime := rfl
@[simp] theorem setCapture_tables (f : Capture → Capture) : (setCapture f s).tables = s.tables := rfl
@[simp] theorem setCapture_nv (f : Capture → Capture) : (setCapture f s).nv = s.nv := rfl
@[simp] theorem setCapture_window (f : Capture → Capture) : (setCapture f s).window = s.window := rfl
@[simp] theorem setCapture_nvWrite (f : Capture → Capture) : (setCapture f s).nvWrite = s.nvWrite := rfl
@[simp] theorem setCapture_validating (f : Capture → Capture) : (setCapture f s).validating = s.validating := rfl
@[simp] theorem setCapture_failing (f : Capture → Capture) : (setCapture f s).failing = s.failing := rfl
@[simp] theorem setCapture_restartDue (f : Capture → Capture) : (setCapture f s).restartDue = s.restartDue := rfl
@[simp] theorem setCapture_zones (f : Capture → Capture) : (setCapture f s).zones = s.zones := rfl
@[simp] theorem setCapture_run (f : Capture → Capture) : (setCapture f s).run = s.run := rfl
@[simp] theorem setCapture_watches (f : Capture → Capture) : (setCapture f s).watches = s.watches := rfl
@[simp] theorem setCapture_outs (f : Capture → Capture) : (setCapture f s).outs = s.outs := rfl
@[simp] theorem setCapture_queue (f : Capture → Capture) : (setCapture f s).queue = s.queue := rfl
@[simp] theorem setCapture_boards (f : Capture → Capture) : (setCapture f s).boards = s.boards := rfl
@[simp] theorem setCapture_ff (f : Capture → Capture) : (setCapture f s).ff = s.ff := rfl
@[simp] theorem setCapture_plant (f : Capture → Capture) : (setCapture f s).plant = s.plant := rfl
@[simp] theorem setCapture_panel (f : Capture → Capture) : (setCapture f s).panel = s.panel := rfl
@[simp] theorem setCapture_capture (f : Capture → Capture) : (setCapture f s).capture = f s.capture := rfl
@[simp] theorem setCapture_selector (f : Capture → Capture) : (setCapture f s).selector = s.selector := rfl
@[simp] theorem setCapture_entryIntake (f : Capture → Capture) : (setCapture f s).entryIntake = s.entryIntake := rfl
@[simp] theorem setCapture_runnerIn (f : Capture → Capture) : (setCapture f s).runnerIn = s.runnerIn := rfl
@[simp] theorem setCapture_monitorIn (f : Capture → Capture) : (setCapture f s).monitorIn = s.monitorIn := rfl
@[simp] theorem setCapture_free (f : Capture → Capture) : (setCapture f s).free = s.free := rfl
@[simp] theorem setCapture_pending (f : Capture → Capture) : (setCapture f s).pending = s.pending := rfl

/-! ### setFf -/

@[simp] theorem setFf_powered (f : FfUnit → FfUnit) : (setFf f s).powered = s.powered := rfl
@[simp] theorem setFf_resetHeld (f : FfUnit → FfUnit) : (setFf f s).resetHeld = s.resetHeld := rfl
@[simp] theorem setFf_mode (f : FfUnit → FfUnit) : (setFf f s).mode = s.mode := rfl
@[simp] theorem setFf_uptime (f : FfUnit → FfUnit) : (setFf f s).uptime = s.uptime := rfl
@[simp] theorem setFf_tables (f : FfUnit → FfUnit) : (setFf f s).tables = s.tables := rfl
@[simp] theorem setFf_nv (f : FfUnit → FfUnit) : (setFf f s).nv = s.nv := rfl
@[simp] theorem setFf_window (f : FfUnit → FfUnit) : (setFf f s).window = s.window := rfl
@[simp] theorem setFf_nvWrite (f : FfUnit → FfUnit) : (setFf f s).nvWrite = s.nvWrite := rfl
@[simp] theorem setFf_validating (f : FfUnit → FfUnit) : (setFf f s).validating = s.validating := rfl
@[simp] theorem setFf_failing (f : FfUnit → FfUnit) : (setFf f s).failing = s.failing := rfl
@[simp] theorem setFf_restartDue (f : FfUnit → FfUnit) : (setFf f s).restartDue = s.restartDue := rfl
@[simp] theorem setFf_zones (f : FfUnit → FfUnit) : (setFf f s).zones = s.zones := rfl
@[simp] theorem setFf_run (f : FfUnit → FfUnit) : (setFf f s).run = s.run := rfl
@[simp] theorem setFf_watches (f : FfUnit → FfUnit) : (setFf f s).watches = s.watches := rfl
@[simp] theorem setFf_outs (f : FfUnit → FfUnit) : (setFf f s).outs = s.outs := rfl
@[simp] theorem setFf_queue (f : FfUnit → FfUnit) : (setFf f s).queue = s.queue := rfl
@[simp] theorem setFf_boards (f : FfUnit → FfUnit) : (setFf f s).boards = s.boards := rfl
@[simp] theorem setFf_ff (f : FfUnit → FfUnit) : (setFf f s).ff = f s.ff := rfl
@[simp] theorem setFf_plant (f : FfUnit → FfUnit) : (setFf f s).plant = s.plant := rfl
@[simp] theorem setFf_panel (f : FfUnit → FfUnit) : (setFf f s).panel = s.panel := rfl
@[simp] theorem setFf_capture (f : FfUnit → FfUnit) : (setFf f s).capture = s.capture := rfl
@[simp] theorem setFf_selector (f : FfUnit → FfUnit) : (setFf f s).selector = s.selector := rfl
@[simp] theorem setFf_entryIntake (f : FfUnit → FfUnit) : (setFf f s).entryIntake = s.entryIntake := rfl
@[simp] theorem setFf_runnerIn (f : FfUnit → FfUnit) : (setFf f s).runnerIn = s.runnerIn := rfl
@[simp] theorem setFf_monitorIn (f : FfUnit → FfUnit) : (setFf f s).monitorIn = s.monitorIn := rfl
@[simp] theorem setFf_free (f : FfUnit → FfUnit) : (setFf f s).free = s.free := rfl
@[simp] theorem setFf_pending (f : FfUnit → FfUnit) : (setFf f s).pending = s.pending := rfl

/-! ### setQueue -/

@[simp] theorem setQueue_powered (f : List QueueEntry → List QueueEntry) : (setQueue f s).powered = s.powered := rfl
@[simp] theorem setQueue_resetHeld (f : List QueueEntry → List QueueEntry) : (setQueue f s).resetHeld = s.resetHeld := rfl
@[simp] theorem setQueue_mode (f : List QueueEntry → List QueueEntry) : (setQueue f s).mode = s.mode := rfl
@[simp] theorem setQueue_uptime (f : List QueueEntry → List QueueEntry) : (setQueue f s).uptime = s.uptime := rfl
@[simp] theorem setQueue_tables (f : List QueueEntry → List QueueEntry) : (setQueue f s).tables = s.tables := rfl
@[simp] theorem setQueue_nv (f : List QueueEntry → List QueueEntry) : (setQueue f s).nv = s.nv := rfl
@[simp] theorem setQueue_window (f : List QueueEntry → List QueueEntry) : (setQueue f s).window = s.window := rfl
@[simp] theorem setQueue_nvWrite (f : List QueueEntry → List QueueEntry) : (setQueue f s).nvWrite = s.nvWrite := rfl
@[simp] theorem setQueue_validating (f : List QueueEntry → List QueueEntry) : (setQueue f s).validating = s.validating := rfl
@[simp] theorem setQueue_failing (f : List QueueEntry → List QueueEntry) : (setQueue f s).failing = s.failing := rfl
@[simp] theorem setQueue_restartDue (f : List QueueEntry → List QueueEntry) : (setQueue f s).restartDue = s.restartDue := rfl
@[simp] theorem setQueue_zones (f : List QueueEntry → List QueueEntry) : (setQueue f s).zones = s.zones := rfl
@[simp] theorem setQueue_run (f : List QueueEntry → List QueueEntry) : (setQueue f s).run = s.run := rfl
@[simp] theorem setQueue_watches (f : List QueueEntry → List QueueEntry) : (setQueue f s).watches = s.watches := rfl
@[simp] theorem setQueue_outs (f : List QueueEntry → List QueueEntry) : (setQueue f s).outs = s.outs := rfl
@[simp] theorem setQueue_queue (f : List QueueEntry → List QueueEntry) : (setQueue f s).queue = f s.queue := rfl
@[simp] theorem setQueue_boards (f : List QueueEntry → List QueueEntry) : (setQueue f s).boards = s.boards := rfl
@[simp] theorem setQueue_ff (f : List QueueEntry → List QueueEntry) : (setQueue f s).ff = s.ff := rfl
@[simp] theorem setQueue_plant (f : List QueueEntry → List QueueEntry) : (setQueue f s).plant = s.plant := rfl
@[simp] theorem setQueue_panel (f : List QueueEntry → List QueueEntry) : (setQueue f s).panel = s.panel := rfl
@[simp] theorem setQueue_capture (f : List QueueEntry → List QueueEntry) : (setQueue f s).capture = s.capture := rfl
@[simp] theorem setQueue_selector (f : List QueueEntry → List QueueEntry) : (setQueue f s).selector = s.selector := rfl
@[simp] theorem setQueue_entryIntake (f : List QueueEntry → List QueueEntry) : (setQueue f s).entryIntake = s.entryIntake := rfl
@[simp] theorem setQueue_runnerIn (f : List QueueEntry → List QueueEntry) : (setQueue f s).runnerIn = s.runnerIn := rfl
@[simp] theorem setQueue_monitorIn (f : List QueueEntry → List QueueEntry) : (setQueue f s).monitorIn = s.monitorIn := rfl
@[simp] theorem setQueue_free (f : List QueueEntry → List QueueEntry) : (setQueue f s).free = s.free := rfl
@[simp] theorem setQueue_pending (f : List QueueEntry → List QueueEntry) : (setQueue f s).pending = s.pending := rfl

/-! ### setWatches -/

@[simp] theorem setWatches_powered (f : List Watch → List Watch) : (setWatches f s).powered = s.powered := rfl
@[simp] theorem setWatches_resetHeld (f : List Watch → List Watch) : (setWatches f s).resetHeld = s.resetHeld := rfl
@[simp] theorem setWatches_mode (f : List Watch → List Watch) : (setWatches f s).mode = s.mode := rfl
@[simp] theorem setWatches_uptime (f : List Watch → List Watch) : (setWatches f s).uptime = s.uptime := rfl
@[simp] theorem setWatches_tables (f : List Watch → List Watch) : (setWatches f s).tables = s.tables := rfl
@[simp] theorem setWatches_nv (f : List Watch → List Watch) : (setWatches f s).nv = s.nv := rfl
@[simp] theorem setWatches_window (f : List Watch → List Watch) : (setWatches f s).window = s.window := rfl
@[simp] theorem setWatches_nvWrite (f : List Watch → List Watch) : (setWatches f s).nvWrite = s.nvWrite := rfl
@[simp] theorem setWatches_validating (f : List Watch → List Watch) : (setWatches f s).validating = s.validating := rfl
@[simp] theorem setWatches_failing (f : List Watch → List Watch) : (setWatches f s).failing = s.failing := rfl
@[simp] theorem setWatches_restartDue (f : List Watch → List Watch) : (setWatches f s).restartDue = s.restartDue := rfl
@[simp] theorem setWatches_zones (f : List Watch → List Watch) : (setWatches f s).zones = s.zones := rfl
@[simp] theorem setWatches_run (f : List Watch → List Watch) : (setWatches f s).run = s.run := rfl
@[simp] theorem setWatches_watches (f : List Watch → List Watch) : (setWatches f s).watches = f s.watches := rfl
@[simp] theorem setWatches_outs (f : List Watch → List Watch) : (setWatches f s).outs = s.outs := rfl
@[simp] theorem setWatches_queue (f : List Watch → List Watch) : (setWatches f s).queue = s.queue := rfl
@[simp] theorem setWatches_boards (f : List Watch → List Watch) : (setWatches f s).boards = s.boards := rfl
@[simp] theorem setWatches_ff (f : List Watch → List Watch) : (setWatches f s).ff = s.ff := rfl
@[simp] theorem setWatches_plant (f : List Watch → List Watch) : (setWatches f s).plant = s.plant := rfl
@[simp] theorem setWatches_panel (f : List Watch → List Watch) : (setWatches f s).panel = s.panel := rfl
@[simp] theorem setWatches_capture (f : List Watch → List Watch) : (setWatches f s).capture = s.capture := rfl
@[simp] theorem setWatches_selector (f : List Watch → List Watch) : (setWatches f s).selector = s.selector := rfl
@[simp] theorem setWatches_entryIntake (f : List Watch → List Watch) : (setWatches f s).entryIntake = s.entryIntake := rfl
@[simp] theorem setWatches_runnerIn (f : List Watch → List Watch) : (setWatches f s).runnerIn = s.runnerIn := rfl
@[simp] theorem setWatches_monitorIn (f : List Watch → List Watch) : (setWatches f s).monitorIn = s.monitorIn := rfl
@[simp] theorem setWatches_free (f : List Watch → List Watch) : (setWatches f s).free = s.free := rfl
@[simp] theorem setWatches_pending (f : List Watch → List Watch) : (setWatches f s).pending = s.pending := rfl

/-! ### setHold -/

@[simp] theorem setHold_powered (f : Hold → Hold) : (setHold f s).powered = s.powered := rfl
@[simp] theorem setHold_resetHeld (f : Hold → Hold) : (setHold f s).resetHeld = s.resetHeld := rfl
@[simp] theorem setHold_mode (f : Hold → Hold) : (setHold f s).mode = s.mode := rfl
@[simp] theorem setHold_uptime (f : Hold → Hold) : (setHold f s).uptime = s.uptime := rfl
@[simp] theorem setHold_tables (f : Hold → Hold) : (setHold f s).tables = s.tables := rfl
@[simp] theorem setHold_nv (f : Hold → Hold) : (setHold f s).nv = s.nv := rfl
@[simp] theorem setHold_window (f : Hold → Hold) : (setHold f s).window = s.window := rfl
@[simp] theorem setHold_nvWrite (f : Hold → Hold) : (setHold f s).nvWrite = s.nvWrite := rfl
@[simp] theorem setHold_validating (f : Hold → Hold) : (setHold f s).validating = s.validating := rfl
@[simp] theorem setHold_failing (f : Hold → Hold) : (setHold f s).failing = s.failing := rfl
@[simp] theorem setHold_restartDue (f : Hold → Hold) : (setHold f s).restartDue = s.restartDue := rfl
@[simp] theorem setHold_zones (f : Hold → Hold) : (setHold f s).zones = s.zones := rfl
@[simp] theorem setHold_run (f : Hold → Hold) : (setHold f s).run = s.run := rfl
@[simp] theorem setHold_watches (f : Hold → Hold) : (setHold f s).watches = s.watches := rfl
@[simp] theorem setHold_outs (f : Hold → Hold) : (setHold f s).outs = s.outs := rfl
@[simp] theorem setHold_queue (f : Hold → Hold) : (setHold f s).queue = s.queue := rfl
@[simp] theorem setHold_boards (f : Hold → Hold) : (setHold f s).boards = s.boards := rfl
@[simp] theorem setHold_ff (f : Hold → Hold) : (setHold f s).ff = s.ff := rfl
@[simp] theorem setHold_plant (f : Hold → Hold) : (setHold f s).plant = { s.plant with hold := f s.plant.hold } := rfl
@[simp] theorem setHold_panel (f : Hold → Hold) : (setHold f s).panel = s.panel := rfl
@[simp] theorem setHold_capture (f : Hold → Hold) : (setHold f s).capture = s.capture := rfl
@[simp] theorem setHold_selector (f : Hold → Hold) : (setHold f s).selector = s.selector := rfl
@[simp] theorem setHold_entryIntake (f : Hold → Hold) : (setHold f s).entryIntake = s.entryIntake := rfl
@[simp] theorem setHold_runnerIn (f : Hold → Hold) : (setHold f s).runnerIn = s.runnerIn := rfl
@[simp] theorem setHold_monitorIn (f : Hold → Hold) : (setHold f s).monitorIn = s.monitorIn := rfl
@[simp] theorem setHold_free (f : Hold → Hold) : (setHold f s).free = s.free := rfl
@[simp] theorem setHold_pending (f : Hold → Hold) : (setHold f s).pending = s.pending := rfl

/-! ### tellRunner -/

@[simp] theorem tellRunner_powered (n : RunnerNotice) : (tellRunner n s).powered = s.powered := rfl
@[simp] theorem tellRunner_resetHeld (n : RunnerNotice) : (tellRunner n s).resetHeld = s.resetHeld := rfl
@[simp] theorem tellRunner_mode (n : RunnerNotice) : (tellRunner n s).mode = s.mode := rfl
@[simp] theorem tellRunner_uptime (n : RunnerNotice) : (tellRunner n s).uptime = s.uptime := rfl
@[simp] theorem tellRunner_tables (n : RunnerNotice) : (tellRunner n s).tables = s.tables := rfl
@[simp] theorem tellRunner_nv (n : RunnerNotice) : (tellRunner n s).nv = s.nv := rfl
@[simp] theorem tellRunner_window (n : RunnerNotice) : (tellRunner n s).window = s.window := rfl
@[simp] theorem tellRunner_nvWrite (n : RunnerNotice) : (tellRunner n s).nvWrite = s.nvWrite := rfl
@[simp] theorem tellRunner_validating (n : RunnerNotice) : (tellRunner n s).validating = s.validating := rfl
@[simp] theorem tellRunner_failing (n : RunnerNotice) : (tellRunner n s).failing = s.failing := rfl
@[simp] theorem tellRunner_restartDue (n : RunnerNotice) : (tellRunner n s).restartDue = s.restartDue := rfl
@[simp] theorem tellRunner_zones (n : RunnerNotice) : (tellRunner n s).zones = s.zones := rfl
@[simp] theorem tellRunner_run (n : RunnerNotice) : (tellRunner n s).run = s.run := rfl
@[simp] theorem tellRunner_watches (n : RunnerNotice) : (tellRunner n s).watches = s.watches := rfl
@[simp] theorem tellRunner_outs (n : RunnerNotice) : (tellRunner n s).outs = s.outs := rfl
@[simp] theorem tellRunner_queue (n : RunnerNotice) : (tellRunner n s).queue = s.queue := rfl
@[simp] theorem tellRunner_boards (n : RunnerNotice) : (tellRunner n s).boards = s.boards := rfl
@[simp] theorem tellRunner_ff (n : RunnerNotice) : (tellRunner n s).ff = s.ff := rfl
@[simp] theorem tellRunner_plant (n : RunnerNotice) : (tellRunner n s).plant = s.plant := rfl
@[simp] theorem tellRunner_panel (n : RunnerNotice) : (tellRunner n s).panel = s.panel := rfl
@[simp] theorem tellRunner_capture (n : RunnerNotice) : (tellRunner n s).capture = s.capture := rfl
@[simp] theorem tellRunner_selector (n : RunnerNotice) : (tellRunner n s).selector = s.selector := rfl
@[simp] theorem tellRunner_entryIntake (n : RunnerNotice) : (tellRunner n s).entryIntake = s.entryIntake := rfl
@[simp] theorem tellRunner_runnerIn (n : RunnerNotice) : (tellRunner n s).runnerIn = s.runnerIn ++ [n] := rfl
@[simp] theorem tellRunner_monitorIn (n : RunnerNotice) : (tellRunner n s).monitorIn = s.monitorIn := rfl
@[simp] theorem tellRunner_free (n : RunnerNotice) : (tellRunner n s).free = s.free := rfl
@[simp] theorem tellRunner_pending (n : RunnerNotice) : (tellRunner n s).pending = s.pending := rfl

/-! ### tellMonitor -/

@[simp] theorem tellMonitor_powered (n : MonitorNotice) : (tellMonitor n s).powered = s.powered := rfl
@[simp] theorem tellMonitor_resetHeld (n : MonitorNotice) : (tellMonitor n s).resetHeld = s.resetHeld := rfl
@[simp] theorem tellMonitor_mode (n : MonitorNotice) : (tellMonitor n s).mode = s.mode := rfl
@[simp] theorem tellMonitor_uptime (n : MonitorNotice) : (tellMonitor n s).uptime = s.uptime := rfl
@[simp] theorem tellMonitor_tables (n : MonitorNotice) : (tellMonitor n s).tables = s.tables := rfl
@[simp] theorem tellMonitor_nv (n : MonitorNotice) : (tellMonitor n s).nv = s.nv := rfl
@[simp] theorem tellMonitor_window (n : MonitorNotice) : (tellMonitor n s).window = s.window := rfl
@[simp] theorem tellMonitor_nvWrite (n : MonitorNotice) : (tellMonitor n s).nvWrite = s.nvWrite := rfl
@[simp] theorem tellMonitor_validating (n : MonitorNotice) : (tellMonitor n s).validating = s.validating := rfl
@[simp] theorem tellMonitor_failing (n : MonitorNotice) : (tellMonitor n s).failing = s.failing := rfl
@[simp] theorem tellMonitor_restartDue (n : MonitorNotice) : (tellMonitor n s).restartDue = s.restartDue := rfl
@[simp] theorem tellMonitor_zones (n : MonitorNotice) : (tellMonitor n s).zones = s.zones := rfl
@[simp] theorem tellMonitor_run (n : MonitorNotice) : (tellMonitor n s).run = s.run := rfl
@[simp] theorem tellMonitor_watches (n : MonitorNotice) : (tellMonitor n s).watches = s.watches := rfl
@[simp] theorem tellMonitor_outs (n : MonitorNotice) : (tellMonitor n s).outs = s.outs := rfl
@[simp] theorem tellMonitor_queue (n : MonitorNotice) : (tellMonitor n s).queue = s.queue := rfl
@[simp] theorem tellMonitor_boards (n : MonitorNotice) : (tellMonitor n s).boards = s.boards := rfl
@[simp] theorem tellMonitor_ff (n : MonitorNotice) : (tellMonitor n s).ff = s.ff := rfl
@[simp] theorem tellMonitor_plant (n : MonitorNotice) : (tellMonitor n s).plant = s.plant := rfl
@[simp] theorem tellMonitor_panel (n : MonitorNotice) : (tellMonitor n s).panel = s.panel := rfl
@[simp] theorem tellMonitor_capture (n : MonitorNotice) : (tellMonitor n s).capture = s.capture := rfl
@[simp] theorem tellMonitor_selector (n : MonitorNotice) : (tellMonitor n s).selector = s.selector := rfl
@[simp] theorem tellMonitor_entryIntake (n : MonitorNotice) : (tellMonitor n s).entryIntake = s.entryIntake := rfl
@[simp] theorem tellMonitor_runnerIn (n : MonitorNotice) : (tellMonitor n s).runnerIn = s.runnerIn := rfl
@[simp] theorem tellMonitor_monitorIn (n : MonitorNotice) : (tellMonitor n s).monitorIn = s.monitorIn ++ [n] := rfl
@[simp] theorem tellMonitor_free (n : MonitorNotice) : (tellMonitor n s).free = s.free := rfl
@[simp] theorem tellMonitor_pending (n : MonitorNotice) : (tellMonitor n s).pending = s.pending := rfl

/-! ### setZone -/

@[simp] theorem setZone_powered (z : Nat) (r : ZoneRec) : (setZone z r s).powered = s.powered := rfl
@[simp] theorem setZone_resetHeld (z : Nat) (r : ZoneRec) : (setZone z r s).resetHeld = s.resetHeld := rfl
@[simp] theorem setZone_mode (z : Nat) (r : ZoneRec) : (setZone z r s).mode = s.mode := rfl
@[simp] theorem setZone_uptime (z : Nat) (r : ZoneRec) : (setZone z r s).uptime = s.uptime := rfl
@[simp] theorem setZone_tables (z : Nat) (r : ZoneRec) : (setZone z r s).tables = s.tables := rfl
@[simp] theorem setZone_nv (z : Nat) (r : ZoneRec) : (setZone z r s).nv = s.nv := rfl
@[simp] theorem setZone_window (z : Nat) (r : ZoneRec) : (setZone z r s).window = s.window := rfl
@[simp] theorem setZone_nvWrite (z : Nat) (r : ZoneRec) : (setZone z r s).nvWrite = s.nvWrite := rfl
@[simp] theorem setZone_validating (z : Nat) (r : ZoneRec) : (setZone z r s).validating = s.validating := rfl
@[simp] theorem setZone_failing (z : Nat) (r : ZoneRec) : (setZone z r s).failing = s.failing := rfl
@[simp] theorem setZone_restartDue (z : Nat) (r : ZoneRec) : (setZone z r s).restartDue = s.restartDue := rfl
@[simp] theorem setZone_zones (z : Nat) (r : ZoneRec) : (setZone z r s).zones = sput coldZone z r s.zones := rfl
@[simp] theorem setZone_run (z : Nat) (r : ZoneRec) : (setZone z r s).run = s.run := rfl
@[simp] theorem setZone_watches (z : Nat) (r : ZoneRec) : (setZone z r s).watches = s.watches := rfl
@[simp] theorem setZone_outs (z : Nat) (r : ZoneRec) : (setZone z r s).outs = s.outs := rfl
@[simp] theorem setZone_queue (z : Nat) (r : ZoneRec) : (setZone z r s).queue = s.queue := rfl
@[simp] theorem setZone_boards (z : Nat) (r : ZoneRec) : (setZone z r s).boards = s.boards := rfl
@[simp] theorem setZone_ff (z : Nat) (r : ZoneRec) : (setZone z r s).ff = s.ff := rfl
@[simp] theorem setZone_plant (z : Nat) (r : ZoneRec) : (setZone z r s).plant = s.plant := rfl
@[simp] theorem setZone_panel (z : Nat) (r : ZoneRec) : (setZone z r s).panel = s.panel := rfl
@[simp] theorem setZone_capture (z : Nat) (r : ZoneRec) : (setZone z r s).capture = s.capture := rfl
@[simp] theorem setZone_selector (z : Nat) (r : ZoneRec) : (setZone z r s).selector = s.selector := rfl
@[simp] theorem setZone_entryIntake (z : Nat) (r : ZoneRec) : (setZone z r s).entryIntake = s.entryIntake := rfl
@[simp] theorem setZone_runnerIn (z : Nat) (r : ZoneRec) : (setZone z r s).runnerIn = s.runnerIn := rfl
@[simp] theorem setZone_monitorIn (z : Nat) (r : ZoneRec) : (setZone z r s).monitorIn = s.monitorIn := rfl
@[simp] theorem setZone_free (z : Nat) (r : ZoneRec) : (setZone z r s).free = s.free := rfl
@[simp] theorem setZone_pending (z : Nat) (r : ZoneRec) : (setZone z r s).pending = s.pending := rfl

/-! ### modOut -/

@[simp] theorem modOut_powered (o : Nat) (f : OutRec → OutRec) : (modOut o f s).powered = s.powered := rfl
@[simp] theorem modOut_resetHeld (o : Nat) (f : OutRec → OutRec) : (modOut o f s).resetHeld = s.resetHeld := rfl
@[simp] theorem modOut_mode (o : Nat) (f : OutRec → OutRec) : (modOut o f s).mode = s.mode := rfl
@[simp] theorem modOut_uptime (o : Nat) (f : OutRec → OutRec) : (modOut o f s).uptime = s.uptime := rfl
@[simp] theorem modOut_tables (o : Nat) (f : OutRec → OutRec) : (modOut o f s).tables = s.tables := rfl
@[simp] theorem modOut_nv (o : Nat) (f : OutRec → OutRec) : (modOut o f s).nv = s.nv := rfl
@[simp] theorem modOut_window (o : Nat) (f : OutRec → OutRec) : (modOut o f s).window = s.window := rfl
@[simp] theorem modOut_nvWrite (o : Nat) (f : OutRec → OutRec) : (modOut o f s).nvWrite = s.nvWrite := rfl
@[simp] theorem modOut_validating (o : Nat) (f : OutRec → OutRec) : (modOut o f s).validating = s.validating := rfl
@[simp] theorem modOut_failing (o : Nat) (f : OutRec → OutRec) : (modOut o f s).failing = s.failing := rfl
@[simp] theorem modOut_restartDue (o : Nat) (f : OutRec → OutRec) : (modOut o f s).restartDue = s.restartDue := rfl
@[simp] theorem modOut_zones (o : Nat) (f : OutRec → OutRec) : (modOut o f s).zones = s.zones := rfl
@[simp] theorem modOut_run (o : Nat) (f : OutRec → OutRec) : (modOut o f s).run = s.run := rfl
@[simp] theorem modOut_watches (o : Nat) (f : OutRec → OutRec) : (modOut o f s).watches = s.watches := rfl
@[simp] theorem modOut_outs (o : Nat) (f : OutRec → OutRec) : (modOut o f s).outs = sput coldOut o (f (outRec s o)) s.outs := rfl
@[simp] theorem modOut_queue (o : Nat) (f : OutRec → OutRec) : (modOut o f s).queue = s.queue := rfl
@[simp] theorem modOut_boards (o : Nat) (f : OutRec → OutRec) : (modOut o f s).boards = s.boards := rfl
@[simp] theorem modOut_ff (o : Nat) (f : OutRec → OutRec) : (modOut o f s).ff = s.ff := rfl
@[simp] theorem modOut_plant (o : Nat) (f : OutRec → OutRec) : (modOut o f s).plant = s.plant := rfl
@[simp] theorem modOut_panel (o : Nat) (f : OutRec → OutRec) : (modOut o f s).panel = s.panel := rfl
@[simp] theorem modOut_capture (o : Nat) (f : OutRec → OutRec) : (modOut o f s).capture = s.capture := rfl
@[simp] theorem modOut_selector (o : Nat) (f : OutRec → OutRec) : (modOut o f s).selector = s.selector := rfl
@[simp] theorem modOut_entryIntake (o : Nat) (f : OutRec → OutRec) : (modOut o f s).entryIntake = s.entryIntake := rfl
@[simp] theorem modOut_runnerIn (o : Nat) (f : OutRec → OutRec) : (modOut o f s).runnerIn = s.runnerIn := rfl
@[simp] theorem modOut_monitorIn (o : Nat) (f : OutRec → OutRec) : (modOut o f s).monitorIn = s.monitorIn := rfl
@[simp] theorem modOut_free (o : Nat) (f : OutRec → OutRec) : (modOut o f s).free = s.free := rfl
@[simp] theorem modOut_pending (o : Nat) (f : OutRec → OutRec) : (modOut o f s).pending = s.pending := rfl

/-! ### setModule -/

@[simp] theorem setModule_powered (m : Nat) (r : ModuleRec) : (setModule m r s).powered = s.powered := rfl
@[simp] theorem setModule_resetHeld (m : Nat) (r : ModuleRec) : (setModule m r s).resetHeld = s.resetHeld := rfl
@[simp] theorem setModule_mode (m : Nat) (r : ModuleRec) : (setModule m r s).mode = s.mode := rfl
@[simp] theorem setModule_uptime (m : Nat) (r : ModuleRec) : (setModule m r s).uptime = s.uptime := rfl
@[simp] theorem setModule_tables (m : Nat) (r : ModuleRec) : (setModule m r s).tables = s.tables := rfl
@[simp] theorem setModule_nv (m : Nat) (r : ModuleRec) : (setModule m r s).nv = s.nv := rfl
@[simp] theorem setModule_window (m : Nat) (r : ModuleRec) : (setModule m r s).window = s.window := rfl
@[simp] theorem setModule_nvWrite (m : Nat) (r : ModuleRec) : (setModule m r s).nvWrite = s.nvWrite := rfl
@[simp] theorem setModule_validating (m : Nat) (r : ModuleRec) : (setModule m r s).validating = s.validating := rfl
@[simp] theorem setModule_failing (m : Nat) (r : ModuleRec) : (setModule m r s).failing = s.failing := rfl
@[simp] theorem setModule_restartDue (m : Nat) (r : ModuleRec) : (setModule m r s).restartDue = s.restartDue := rfl
@[simp] theorem setModule_zones (m : Nat) (r : ModuleRec) : (setModule m r s).zones = s.zones := rfl
@[simp] theorem setModule_run (m : Nat) (r : ModuleRec) : (setModule m r s).run = s.run := rfl
@[simp] theorem setModule_watches (m : Nat) (r : ModuleRec) : (setModule m r s).watches = s.watches := rfl
@[simp] theorem setModule_outs (m : Nat) (r : ModuleRec) : (setModule m r s).outs = s.outs := rfl
@[simp] theorem setModule_queue (m : Nat) (r : ModuleRec) : (setModule m r s).queue = s.queue := rfl
@[simp] theorem setModule_boards (m : Nat) (r : ModuleRec) : (setModule m r s).boards = s.boards := rfl
@[simp] theorem setModule_ff (m : Nat) (r : ModuleRec) : (setModule m r s).ff = s.ff := rfl
@[simp] theorem setModule_plant (m : Nat) (r : ModuleRec) : (setModule m r s).plant = { s.plant with modules := sput coldModule m r s.plant.modules } := rfl
@[simp] theorem setModule_panel (m : Nat) (r : ModuleRec) : (setModule m r s).panel = s.panel := rfl
@[simp] theorem setModule_capture (m : Nat) (r : ModuleRec) : (setModule m r s).capture = s.capture := rfl
@[simp] theorem setModule_selector (m : Nat) (r : ModuleRec) : (setModule m r s).selector = s.selector := rfl
@[simp] theorem setModule_entryIntake (m : Nat) (r : ModuleRec) : (setModule m r s).entryIntake = s.entryIntake := rfl
@[simp] theorem setModule_runnerIn (m : Nat) (r : ModuleRec) : (setModule m r s).runnerIn = s.runnerIn := rfl
@[simp] theorem setModule_monitorIn (m : Nat) (r : ModuleRec) : (setModule m r s).monitorIn = s.monitorIn := rfl
@[simp] theorem setModule_free (m : Nat) (r : ModuleRec) : (setModule m r s).free = s.free := rfl
@[simp] theorem setModule_pending (m : Nat) (r : ModuleRec) : (setModule m r s).pending = s.pending := rfl

/-! ### setBoardSource -/

@[simp] theorem setBoardSource_powered (b : Nat) (src : BoardSource) : (setBoardSource b src s).powered = s.powered := rfl
@[simp] theorem setBoardSource_resetHeld (b : Nat) (src : BoardSource) : (setBoardSource b src s).resetHeld = s.resetHeld := rfl
@[simp] theorem setBoardSource_mode (b : Nat) (src : BoardSource) : (setBoardSource b src s).mode = s.mode := rfl
@[simp] theorem setBoardSource_uptime (b : Nat) (src : BoardSource) : (setBoardSource b src s).uptime = s.uptime := rfl
@[simp] theorem setBoardSource_tables (b : Nat) (src : BoardSource) : (setBoardSource b src s).tables = s.tables := rfl
@[simp] theorem setBoardSource_nv (b : Nat) (src : BoardSource) : (setBoardSource b src s).nv = s.nv := rfl
@[simp] theorem setBoardSource_window (b : Nat) (src : BoardSource) : (setBoardSource b src s).window = s.window := rfl
@[simp] theorem setBoardSource_nvWrite (b : Nat) (src : BoardSource) : (setBoardSource b src s).nvWrite = s.nvWrite := rfl
@[simp] theorem setBoardSource_validating (b : Nat) (src : BoardSource) : (setBoardSource b src s).validating = s.validating := rfl
@[simp] theorem setBoardSource_failing (b : Nat) (src : BoardSource) : (setBoardSource b src s).failing = s.failing := rfl
@[simp] theorem setBoardSource_restartDue (b : Nat) (src : BoardSource) : (setBoardSource b src s).restartDue = s.restartDue := rfl
@[simp] theorem setBoardSource_zones (b : Nat) (src : BoardSource) : (setBoardSource b src s).zones = s.zones := rfl
@[simp] theorem setBoardSource_run (b : Nat) (src : BoardSource) : (setBoardSource b src s).run = s.run := rfl
@[simp] theorem setBoardSource_watches (b : Nat) (src : BoardSource) : (setBoardSource b src s).watches = s.watches := rfl
@[simp] theorem setBoardSource_outs (b : Nat) (src : BoardSource) : (setBoardSource b src s).outs = s.outs := rfl
@[simp] theorem setBoardSource_queue (b : Nat) (src : BoardSource) : (setBoardSource b src s).queue = s.queue := rfl
@[simp] theorem setBoardSource_boards (b : Nat) (src : BoardSource) : (setBoardSource b src s).boards = sput .unknown b src s.boards := rfl
@[simp] theorem setBoardSource_ff (b : Nat) (src : BoardSource) : (setBoardSource b src s).ff = s.ff := rfl
@[simp] theorem setBoardSource_plant (b : Nat) (src : BoardSource) : (setBoardSource b src s).plant = s.plant := rfl
@[simp] theorem setBoardSource_panel (b : Nat) (src : BoardSource) : (setBoardSource b src s).panel = s.panel := rfl
@[simp] theorem setBoardSource_capture (b : Nat) (src : BoardSource) : (setBoardSource b src s).capture = s.capture := rfl
@[simp] theorem setBoardSource_selector (b : Nat) (src : BoardSource) : (setBoardSource b src s).selector = s.selector := rfl
@[simp] theorem setBoardSource_entryIntake (b : Nat) (src : BoardSource) : (setBoardSource b src s).entryIntake = s.entryIntake := rfl
@[simp] theorem setBoardSource_runnerIn (b : Nat) (src : BoardSource) : (setBoardSource b src s).runnerIn = s.runnerIn := rfl
@[simp] theorem setBoardSource_monitorIn (b : Nat) (src : BoardSource) : (setBoardSource b src s).monitorIn = s.monitorIn := rfl
@[simp] theorem setBoardSource_free (b : Nat) (src : BoardSource) : (setBoardSource b src s).free = s.free := rfl
@[simp] theorem setBoardSource_pending (b : Nat) (src : BoardSource) : (setBoardSource b src s).pending = s.pending := rfl

/-! ### useFree -/

@[simp] theorem useFree_powered : (useFree s).powered = s.powered := rfl
@[simp] theorem useFree_resetHeld : (useFree s).resetHeld = s.resetHeld := rfl
@[simp] theorem useFree_mode : (useFree s).mode = s.mode := rfl
@[simp] theorem useFree_uptime : (useFree s).uptime = s.uptime := rfl
@[simp] theorem useFree_tables : (useFree s).tables = s.tables := rfl
@[simp] theorem useFree_nv : (useFree s).nv = s.nv := rfl
@[simp] theorem useFree_window : (useFree s).window = s.window := rfl
@[simp] theorem useFree_nvWrite : (useFree s).nvWrite = s.nvWrite := rfl
@[simp] theorem useFree_validating : (useFree s).validating = s.validating := rfl
@[simp] theorem useFree_failing : (useFree s).failing = s.failing := rfl
@[simp] theorem useFree_restartDue : (useFree s).restartDue = s.restartDue := rfl
@[simp] theorem useFree_zones : (useFree s).zones = s.zones := rfl
@[simp] theorem useFree_run : (useFree s).run = s.run := rfl
@[simp] theorem useFree_watches : (useFree s).watches = s.watches := rfl
@[simp] theorem useFree_outs : (useFree s).outs = s.outs := rfl
@[simp] theorem useFree_queue : (useFree s).queue = s.queue := rfl
@[simp] theorem useFree_boards : (useFree s).boards = s.boards := rfl
@[simp] theorem useFree_ff : (useFree s).ff = s.ff := rfl
@[simp] theorem useFree_plant : (useFree s).plant = s.plant := rfl
@[simp] theorem useFree_panel : (useFree s).panel = s.panel := rfl
@[simp] theorem useFree_capture : (useFree s).capture = s.capture := rfl
@[simp] theorem useFree_selector : (useFree s).selector = s.selector := rfl
@[simp] theorem useFree_entryIntake : (useFree s).entryIntake = s.entryIntake := rfl
@[simp] theorem useFree_runnerIn : (useFree s).runnerIn = s.runnerIn := rfl
@[simp] theorem useFree_monitorIn : (useFree s).monitorIn = s.monitorIn := rfl
@[simp] theorem useFree_free : (useFree s).free = s.free + 1 := rfl
@[simp] theorem useFree_pending : (useFree s).pending = s.pending := rfl

end Sys2Proof.Machine
end

