-- ==== Sys2Proof/Laws/Sparse.lean ====
section
/-! SUPPORT. Sparse contents: what a read gives after a write, and that a write keeps the canonical form. -/

namespace Sys2Proof.Machine

variable {α : Type} [DecidableEq α] {d v w : α} {m : Sparse α} {n k : Nat}

/-- In canonical form the keys after the first are greater than it, and the rest is in canonical form. -/
theorem sparseWf_cons (h : sparseWf d ((k, w) :: m) = true) :
    w ≠ d ∧ sparseWf d m = true ∧ ∀ p ∈ m, k < p.1 := by
  induction m generalizing k w with
  | nil => simpa [sparseWf] using h
  | cons q m ih =>
    obtain ⟨k', w'⟩ := q
    simp only [sparseWf, Bool.and_eq_true, decide_eq_true_eq] at h
    obtain ⟨⟨hw, hk⟩, hm⟩ := h
    refine ⟨hw, hm, ?_⟩
    intro p hp
    rcases List.mem_cons.mp hp with rfl | hp
    · exact hk
    · exact hk.trans ((ih hm).2.2 p hp)

theorem sparseWf_of_cons (hw : w ≠ d) (hm : sparseWf d m = true) (hk : ∀ p ∈ m, k < p.1) :
    sparseWf d ((k, w) :: m) = true := by
  cases m with
  | nil => simpa [sparseWf] using hw
  | cons q m =>
    obtain ⟨k', w'⟩ := q
    simp only [sparseWf, Bool.and_eq_true, decide_eq_true_eq]
    exact ⟨⟨hw, hk _ List.mem_cons_self⟩, hm⟩

omit [DecidableEq α] in
/-- An unlisted key reads as the default. -/
theorem sget_of_lt (h : ∀ p ∈ m, n < p.1) : sget d m n = d := by
  induction m with
  | nil => rfl
  | cons q m ih =>
    obtain ⟨k, w⟩ := q
    have hk : n < k := h (k, w) List.mem_cons_self
    simp only [sget, if_neg hk.ne]
    exact ih fun p hp => h p (List.mem_cons_of_mem _ hp)

omit [DecidableEq α] in
/-- A read gives the default or a listed value. -/
theorem sget_mem (d : α) (m : Sparse α) (n : Nat) : sget d m n = d ∨ ∃ p ∈ m, p.1 = n ∧ p.2 = sget d m n := by
  induction m with
  | nil => exact .inl rfl
  | cons q m ih =>
    obtain ⟨k, w⟩ := q
    by_cases h : n = k
    · exact .inr ⟨(k, w), List.mem_cons_self, h.symm, by simp [sget, h]⟩
    · simp only [sget, if_neg h]
      rcases ih with ih | ⟨p, hp, h1, h2⟩
      · exact .inl ih
      · exact .inr ⟨p, List.mem_cons_of_mem _ hp, h1, h2⟩

/-- After a write only the written value is new. -/
theorem mem_sput {p : Nat × α} (h : p ∈ sput d n v m) : p = (n, v) ∨ p ∈ m := by
  induction m with
  | nil =>
    simp only [sput] at h
    split at h
    · simp at h
    · exact .inl (by simpa using h)
  | cons q m ih =>
    obtain ⟨k, w⟩ := q
    simp only [sput] at h
    split at h
    · split at h
      · exact .inr h
      · rcases List.mem_cons.mp h with h | h
        · exact .inl h
        · exact .inr h
    · split at h
      · split at h
        · exact .inr (List.mem_cons_of_mem _ h)
        · rcases List.mem_cons.mp h with h | h
          · exact .inl h
          · exact .inr (List.mem_cons_of_mem _ h)
      · rcases List.mem_cons.mp h with h | h
        · exact .inr (by rw [h]; exact List.mem_cons_self)
        · exact (ih h).imp id (List.mem_cons_of_mem _)

/-- A read after a write to the same key gives the value written. -/
theorem sget_sput_same (h : sparseWf d m = true) : sget d (sput d n v m) n = v := by
  induction m with
  | nil =>
    simp only [sput]
    split
    · simp_all [sget]
    · simp [sget]
  | cons q m ih =>
    obtain ⟨k, w⟩ := q
    obtain ⟨-, hm, hk⟩ := sparseWf_cons h
    simp only [sput]
    split
    · rename_i hlt
      split
      · rename_i hv
        rw [hv]
        exact sget_of_lt fun p hp => by
          rcases List.mem_cons.mp hp with rfl | hp
          · exact hlt
          · exact hlt.trans (hk p hp)
      · simp [sget]
    · rename_i hlt
      split
      · rename_i hnk
        split
        · rename_i hv
          rw [hv, hnk]
          exact sget_of_lt hk
        · simp [sget]
      · rename_i hnk
        simp only [sget, if_neg hnk]
        exact ih hm

/-- A write leaves every other key alone. -/
theorem sget_sput_other (h : k ≠ n) : sget d (sput d n v m) k = sget d m k := by
  induction m with
  | nil =>
    simp only [sput]
    split
    · rfl
    · simp [sget, h]
  | cons q m ih =>
    obtain ⟨k', w⟩ := q
    simp only [sput]
    split
    · split
      · rfl
      · simp [sget, h]
    · split
      · rename_i hnk
        subst hnk
        split
        · simp [sget, h]
        · simp [sget, h]
      · simp only [sget]
        split
        · rfl
        · exact ih

/-- A write keeps the canonical form. -/
theorem sparseWf_sput (h : sparseWf d m = true) : sparseWf d (sput d n v m) = true := by
  induction m with
  | nil =>
    simp only [sput]
    split
    · exact h
    · simpa [sparseWf]
  | cons q m ih =>
    obtain ⟨k, w⟩ := q
    obtain ⟨hw, hm, hk⟩ := sparseWf_cons h
    simp only [sput]
    split
    · rename_i hlt
      split
      · exact h
      · rename_i hv
        exact sparseWf_of_cons hv h fun p hp => by
          rcases List.mem_cons.mp hp with rfl | hp
          · exact hlt
          · exact hlt.trans (hk p hp)
    · rename_i hlt
      split
      · rename_i hnk
        subst hnk
        split
        · exact hm
        · rename_i hv
          exact sparseWf_of_cons hv hm hk
      · rename_i hnk
        refine sparseWf_of_cons hw (ih hm) fun p hp => ?_
        rcases mem_sput hp with rfl | hp
        · show k < n
          omega
        · exact hk p hp

end Sys2Proof.Machine
end

