-- ==== Sys2Proof/Laws/Work.lean ====
section
/-! SUPPORT. What the work of a block can do to the state (Work), said once: it leaves power, clock, mode and tables alone,
passes every event through the Fault Capture Unit, and keeps the legal records legal. One lemma for each operation, in
the form that composes: after t, reached by such work, the operation is such work too. -/

namespace Sys2Proof.Machine

/-- What recording and capturing can do to the Fault Capture Unit. -/
structure CapGrows (c c' : Capture) : Prop where
  locked : ∀ k, c.locked = some k → c'.locked = some k
  lost : c.lost = true → c'.lost = true
  later : c.later ≤ c'.later
  trail : trailOk c → trailOk c'

/-- What every command but a start, a tick or a mode request can do, besides its own parts. -/
structure Base (s t : State) : Prop where
  powered : t.powered = s.powered
  resetHeld : t.resetHeld = s.resetHeld
  uptime : t.uptime = s.uptime
  nv : t.nv = s.nv
  window : t.window = s.window
  nvWrite : t.nvWrite = s.nvWrite
  validating : t.validating = s.validating
  restartDue : t.restartDue = s.restartDue
  pending : t.pending = s.pending
  capture : CapGrows s.capture t.capture
  zones : zonesOk s → zonesOk t
  bounds : BoundsOk s → BoundsOk t
  test : testActive t → testActive s
  testFlag : t.run.test = true → s.run.test = true

/-- The work of a block: Base, and mode, tables and failing index stand. -/
structure Work (s t : State) : Prop extends Base s t where
  mode : t.mode = s.mode
  tables : t.tables = s.tables
  failing : t.failing = s.failing

theorem CapGrows.refl (c : Capture) : CapGrows c c := ⟨fun _ h => h, id, le_rfl, id⟩

theorem CapGrows.trans {a b c : Capture} (h : CapGrows a b) (h' : CapGrows b c) : CapGrows a c :=
  ⟨fun k e => h'.locked k (h.locked k e), h'.lost ∘ h.lost, h.later.trans h'.later, h'.trail ∘ h.trail⟩

theorem Base.refl (s : State) : Base s s :=
  ⟨rfl, rfl, rfl, rfl, rfl, rfl, rfl, rfl, rfl, .refl _, id, id, id, id⟩

theorem Base.trans {a b c : State} (h : Base a b) (h' : Base b c) : Base a c :=
  ⟨h'.powered.trans h.powered, h'.resetHeld.trans h.resetHeld, h'.uptime.trans h.uptime, h'.nv.trans h.nv,
    h'.window.trans h.window, h'.nvWrite.trans h.nvWrite, h'.validating.trans h.validating,
    h'.restartDue.trans h.restartDue, h'.pending.trans h.pending, h.capture.trans h'.capture, h'.zones ∘ h.zones,
    h'.bounds ∘ h.bounds, h.test ∘ h'.test, h.testFlag ∘ h'.testFlag⟩

theorem Work.refl (s : State) : Work s s := ⟨.refl s, rfl, rfl, rfl⟩

theorem Work.trans {a b c : State} (h : Work a b) (h' : Work b c) : Work a c :=
  ⟨h.toBase.trans h'.toBase, h'.mode.trans h.mode, h'.tables.trans h.tables, h'.failing.trans h.failing⟩

/-! ### Writes that touch none of the bounded or guarded parts -/

variable {s t : State}

/-- A change of parts that Base and Work do not speak of. -/
theorem Work.of_eq (h : Work s t) {u : State} (e : u = { t with
      zones := t.zones, watches := u.watches, outs := u.outs, queue := u.queue, boards := u.boards, ff := u.ff,
      selector := u.selector, entryIntake := u.entryIntake, runnerIn := u.runnerIn, monitorIn := u.monitorIn, free := u.free }) : Work s u := by
  rw [e]
  exact ⟨⟨h.powered, h.resetHeld, h.uptime, h.nv, h.window, h.nvWrite, h.validating, h.restartDue, h.pending, h.capture,
    h.zones, fun b => let b := h.bounds b; ⟨b.1, b.2, b.3, b.4, b.5, b.6, b.7, b.8, b.9, b.10, b.11⟩, h.test, h.testFlag⟩,
    h.mode, h.tables, h.failing⟩

theorem work_modOut (h : Work s t) {o : Nat} {f : OutRec → OutRec} : Work s (modOut o f t) := h.of_eq rfl
theorem work_setQueue (h : Work s t) {f : List QueueEntry → List QueueEntry} : Work s (setQueue f t) := h.of_eq rfl
theorem work_setWatches (h : Work s t) {f : List Watch → List Watch} : Work s (setWatches f t) := h.of_eq rfl
theorem work_setFf (h : Work s t) {f : FfUnit → FfUnit} : Work s (setFf f t) := h.of_eq rfl
theorem work_setBoardSource (h : Work s t) {b : Nat} {x : BoardSource} : Work s (setBoardSource b x t) := h.of_eq rfl
theorem work_tellRunner (h : Work s t) {n : RunnerNotice} : Work s (tellRunner n t) := h.of_eq rfl
theorem work_tellMonitor (h : Work s t) {n : MonitorNotice} : Work s (tellMonitor n t) := h.of_eq rfl
theorem work_useFree (h : Work s t) : Work s (useFree t) := h.of_eq rfl
theorem work_runnerIn (h : Work s t) {x : List RunnerNotice} : Work s { t with runnerIn := x } := h.of_eq rfl
theorem work_monitorIn (h : Work s t) {x : List MonitorNotice} : Work s { t with monitorIn := x } := h.of_eq rfl
theorem work_selector (h : Work s t) {x : List SelectorNotice} : Work s { t with selector := x } := h.of_eq rfl

/-- A change of the Controller that keeps its counts and lengths in bounds. -/
theorem work_setPlant (h : Work s t) {f : Plant → Plant} (he : (f t.plant).errors = t.plant.errors := by rfl)
    (hs : (f t.plant).strays = t.plant.strays := by rfl)
    (hf : (f t.plant).forward.length ≤ t.plant.forward.length := by exact le_rfl)
    (hg : (f t.plant).tagCounter = t.plant.tagCounter := by rfl) : Work s (setPlant f t) :=
  ⟨⟨h.powered, h.resetHeld, h.uptime, h.nv, h.window, h.nvWrite, h.validating, h.restartDue, h.pending, h.capture, h.zones,
    fun b => let b := h.bounds b
      ⟨b.1, b.2, b.3, b.4, b.5, b.6, b.7, (he ▸ b.8 : (f t.plant).errors ≤ 65535), (hs ▸ b.9 : (f t.plant).strays ≤ 65535),
        hf.trans b.10, (hg ▸ b.11 : (f t.plant).tagCounter < 256)⟩, h.test, h.testFlag⟩, h.mode, h.tables, h.failing⟩

/-- A change of the run context that keeps its fault list, and begins no test run. -/
theorem work_setRun (h : Work s t) {f : Run → Run} (hf : (f t.run).faults = t.run.faults := by rfl)
    (ht : (f t.run).state ≠ .idle → (f t.run).test = true → t.run.state ≠ .idle ∧ t.run.test = true := by
      exact fun a b => ⟨a, b⟩)
    (hk : (f t.run).test = true → t.run.test = true := by exact id) : Work s (setRun f t) :=
  ⟨⟨h.powered, h.resetHeld, h.uptime, h.nv, h.window, h.nvWrite, h.validating, h.restartDue, h.pending, h.capture, h.zones,
    fun b => let b := h.bounds b
      ⟨b.1, b.2, (hf ▸ b.3 : (f t.run).faults.length ≤ _ ∧ (f t.run).faults.Nodup), b.4, b.5, b.6, b.7, b.8, b.9, b.10,
        b.11⟩,
    fun ⟨a, b⟩ => h.test (by
      have := ht (of_decide_eq_true a) b
      exact ⟨decide_eq_true this.1, this.2⟩),
    fun b => h.testFlag (hk b)⟩, h.mode, h.tables, h.failing⟩

/-- A change of a zone record to a legal one. -/
theorem work_setZone (h : Work s t) {z : Nat} {r : ZoneRec} (hr : zonesOk t → zoneRecOk r) : Work s (setZone z r t) :=
  ⟨⟨h.powered, h.resetHeld, h.uptime, h.nv, h.window, h.nvWrite, h.validating, h.restartDue, h.pending, h.capture,
    fun ok p hp => by
      rcases mem_sput hp with rfl | hp
      · exact hr (h.zones ok)
      · exact h.zones ok p hp,
    fun b => let b := h.bounds b; ⟨b.1, b.2, b.3, b.4, b.5, b.6, b.7, b.8, b.9, b.10, b.11⟩, h.test, h.testFlag⟩,
    h.mode, h.tables, h.failing⟩

/-- A change of the Panel Link Interface that keeps its counts and lengths in bounds. -/
theorem work_setPanel (h : Work s t) {f : Panel → Panel}
    (hi : (f t.panel).inbound.length ≤ t.panel.inbound.length := by exact le_rfl)
    (ho : t.panel.outbound.length ≤ Config.outboundSize → (f t.panel).outbound.length ≤ Config.outboundSize := by
      exact id)
    (he : (f t.panel).errors = t.panel.errors := by rfl)
    (hr : t.panel.overruns ≤ 65535 → (f t.panel).overruns ≤ 65535 := by exact id) : Work s (setPanel f t) :=
  ⟨⟨h.powered, h.resetHeld, h.uptime, h.nv, h.window, h.nvWrite, h.validating, h.restartDue, h.pending, h.capture, h.zones,
    fun b => let b := h.bounds b
      ⟨b.1, b.2, b.3, hi.trans b.4, ho b.5, (he ▸ b.6 : (f t.panel).errors ≤ 65535), hr b.7, b.8, b.9, b.10, b.11⟩,
    h.test, h.testFlag⟩, h.mode, h.tables, h.failing⟩

/-- A change of the Fault Capture Unit as recording and capturing make it. -/
theorem work_setCapture (h : Work s t) {f : Capture → Capture} (hc : CapGrows t.capture (f t.capture))
    (hl : t.capture.later ≤ 255 → (f t.capture).later ≤ 255) : Work s (setCapture f t) :=
  ⟨⟨h.powered, h.resetHeld, h.uptime, h.nv, h.window, h.nvWrite, h.validating, h.restartDue, h.pending, h.capture.trans hc,
    h.zones, fun b => let b := h.bounds b; ⟨b.1, hl b.2, b.3, b.4, b.5, b.6, b.7, b.8, b.9, b.10, b.11⟩, h.test, h.testFlag⟩,
    h.mode, h.tables, h.failing⟩

/-! ### Repetition -/

theorem work_foldl {α : Type} {f : State → α → State} (hf : ∀ {u : State} (x : α), Work s u → Work s (f u x)) {xs : List α}
    (h : Work s t) : Work s (xs.foldl f t) := by
  induction xs generalizing t with
  | nil => exact h
  | cons x xs ih => exact ih (hf x h)

theorem work_ite {c : Prop} [Decidable c] {a b : State} (ha : Work s a) (hb : Work s b) :
    Work s (if c then a else b) := by
  split
  · exact ha
  · exact hb

/-! ### Counts and frames -/

theorem countUp_le {n : Nat} (h : n ≤ 65535) : countUp n ≤ 65535 := by
  unfold countUp
  split <;> omega

theorem offerFrame_outbound {f : Frame} {a : AfterSent} {p : Panel} (h : p.outbound.length ≤ Config.outboundSize) :
    (offerFrame f a p).outbound.length ≤ Config.outboundSize := by
  unfold offerFrame
  split
  · simp only [List.length_append, List.length_cons, List.length_nil]
    omega
  · exact h

theorem offerFrame_inbound {f : Frame} {a : AfterSent} {p : Panel} : (offerFrame f a p).inbound = p.inbound := by
  unfold offerFrame
  split <;> rfl

theorem offerFrame_errors {f : Frame} {a : AfterSent} {p : Panel} : (offerFrame f a p).errors = p.errors := by
  unfold offerFrame
  split <;> rfl

theorem offerFrame_overruns {f : Frame} {a : AfterSent} {p : Panel} (h : p.overruns ≤ 65535) :
    (offerFrame f a p).overruns ≤ 65535 := by
  unfold offerFrame
  split
  · exact h
  · exact countUp_le h

theorem work_offerFrame (h : Work s t) {f : Frame} {a : AfterSent} : Work s (setPanel (offerFrame f a) t) :=
  work_setPanel h (le_of_eq (congrArg List.length offerFrame_inbound)) offerFrame_outbound offerFrame_errors
    offerFrame_overruns

theorem work_sendReply (h : Work s t) {q : Requester} {r : Result} : Work s (sendReply q r t) := work_offerFrame h
theorem work_sendFail (h : Work s t) {a b c : Nat} {r : FailReason} : Work s (sendFail a b c r t) := work_offerFrame h

theorem offerEvent_outbound {f : Frame} {p : Panel} (h : p.outbound.length ≤ Config.outboundSize) :
    (offerEvent f p).outbound.length ≤ Config.outboundSize := by
  unfold offerEvent
  split
  · rename_i h'
    simp only [List.length_append, List.length_cons, List.length_nil]
    simp only [Config.eventLimit, Config.outboundSize] at *
    omega
  · simpa using h

theorem work_offerEvent (h : Work s t) {f : Frame} : Work s (setPanel (offerEvent f) t) := by
  refine work_setPanel h ?_ offerEvent_outbound ?_ ?_ <;> unfold offerEvent <;> split <;> simp

/-! ### The trail and the first-fault record -/

/-- R161: the trail keeps its order and size when an entry is placed. -/
theorem trailOk_record {c : Capture} (h : trailOk c) (e : TrailEntry) (he : e.sequence = c.nextSequence) {n : Nat}
    (hn' : n = (c.nextSequence + 1) % 65536) :
    trailOk { c with trail := keepNewest c.trail e, nextSequence := n } := by
  obtain ⟨hl, hn, hs⟩ := h
  simp only [Config.trailSize] at hl
  have hlen : (keepNewest c.trail e).length = min (c.trail.length + 1) 256 := by
    simp only [keepNewest, Config.trailSize, List.length_drop, List.length_append, List.length_cons, List.length_nil]
    omega
  unfold trailOk
  dsimp only [Config.trailSize]
  refine ⟨by omega, by omega, ?_⟩
  intro k hk
  have hget : (keepNewest c.trail e)[k]? = (c.trail ++ [e])[c.trail.length + 1 - 256 + k]? := by
    simp only [keepNewest, Config.trailSize, List.getElem?_drop]
  rw [hget]
  by_cases hlast : c.trail.length + 1 - 256 + k < c.trail.length
  · rw [List.getElem?_append_left hlast, hs _ hlast]
    refine congrArg some ?_
    omega
  · have hk' : c.trail.length + 1 - 256 + k = c.trail.length := by omega
    rw [hk', List.getElem?_append_right le_rfl]
    simp only [Nat.sub_self, List.getElem?_cons_zero, Option.map_some, he]
    refine congrArg some ?_
    omega

theorem capGrows_record {c : Capture} {e : TrailEntry} {n : Nat} (he : e.sequence = c.nextSequence)
    (hn : n = (c.nextSequence + 1) % 65536) :
    CapGrows c { c with trail := keepNewest c.trail e, nextSequence := n } :=
  ⟨fun _ h => h, id, le_rfl, fun ok => trailOk_record ok e he hn⟩

theorem work_recordEntry (h : Work s t) {ev : Ev} {a b : Nat} : Work s (recordEntry ev a b t) := by
  unfold recordEntry
  apply work_offerEvent
  exact work_setCapture h (capGrows_record rfl rfl) (fun x => x)

/-- R164: capturing an EMPTY record. -/
theorem capGrows_lock {c : Capture} {k : Captured} (h : c.locked.isNone = true) :
    CapGrows c { c with locked := some k } :=
  ⟨fun k' e => (by rw [e] at h; cases h), id, le_rfl, id⟩

/-- R165: counting against a LOCKED record. -/
theorem capGrows_count {c : Capture} :
    CapGrows c { c with lost := true, later := if c.later < 255 then c.later + 1 else c.later } :=
  ⟨fun _ h => h, fun _ => rfl, by dsimp only; split <;> omega, id⟩

theorem work_takeCritical (h : Work s t) {u : State} {r : Report} : Work s (takeCritical u r t) := by
  unfold takeCritical
  split
  · rename_i hn
    apply work_recordEntry
    exact work_setCapture h (capGrows_lock hn) (fun x => x)
  · refine work_setCapture h capGrows_count (fun x => ?_)
    dsimp only
    split <;> omega

theorem work_report (h : Work s t) {r : Report} : Work s (report r t) := by
  unfold report
  dsimp only
  split
  · exact work_takeCritical (work_recordEntry h)
  · exact work_recordEntry h

theorem work_raise (h : Work s t) {ev : Ev} {a b : Nat} : Work s (raise ev a b t) := work_report h
theorem work_unmapped (h : Work s t) {a b : Nat} : Work s (unmapped a b t) := work_raise h

end Sys2Proof.Machine
end

