-- ==== Sys2Proof/Laws/ResolverWork.lean ====
section
/-! SUPPORT. The work of the Output Resolver and Start Scheduler: one lemma for each operation, saying that it is block work (Work). -/

namespace Sys2Proof.Machine

variable {s t : State}

theorem work_ringJoin (h : Work s t) {m : Nat} : Work s (setPlant (ringJoin m) t) := by
  refine work_setPlant h ?_ ?_ ?_ ?_ <;> unfold ringJoin <;> split <;> simp

theorem work_ringLeave (h : Work s t) {m : Nat} : Work s (setPlant (ringLeave m) t) := work_setPlant h

theorem work_setModule (h : Work s t) {m : Nat} {r : ModuleRec} : Work s (setModule m r t) := work_setPlant h

theorem work_setHold (h : Work s t) {f : Hold → Hold} : Work s (setHold f t) := work_setPlant h

theorem work_setAct (h : Work s t) {o : Nat} {a : Act} : Work s (setAct o a t) := by
  unfold setAct
  dsimp only
  repeat' with_reducible first
    | assumption | apply work_ringJoin | apply work_ringLeave | apply work_modOut | refine work_setPlant ?_ | split

theorem work_dequeue (h : Work s t) {o : Nat} : Work s (dequeue o t) := by
  unfold dequeue
  repeat' with_reducible first
    | assumption | apply work_setQueue

theorem work_requeueInPlace (h : Work s t) {o : Nat} {c : Cmd} : Work s (requeueInPlace o c t) := by
  unfold requeueInPlace
  repeat' with_reducible first
    | assumption | apply work_setQueue

theorem work_enqueue (h : Work s t) {o : Nat} {c : Cmd} : Work s (enqueue o c t) := by
  unfold enqueue
  repeat' with_reducible first
    | assumption | apply work_setQueue | apply work_setAct

theorem work_tellReserve (h : Work s t) {o : Nat} : Work s (tellReserve o t) := by
  unfold tellReserve
  repeat' with_reducible first
    | assumption | apply work_tellMonitor | split

theorem work_tellSettled (h : Work s t) {o : Nat} : Work s (tellSettled o t) := by
  unfold tellSettled
  repeat' with_reducible first
    | assumption | apply work_tellRunner | apply work_tellReserve

theorem work_settleRecord (h : Work s t) {o : Nat} : Work s (settleRecord o t) := by
  unfold settleRecord
  dsimp only
  repeat' with_reducible first
    | assumption | apply work_modOut | apply work_setAct | apply work_tellSettled | split

theorem work_admitFan (h : Work s t) {f : Nat} : Work s (admitFan f t) := by
  unfold admitFan
  dsimp only
  repeat' with_reducible first
    | assumption | apply work_modOut | apply work_enqueue | apply work_settleRecord | split

theorem work_examineTimes (h : Work s t) {n b : Nat} : Work s (examineTimes n b t) := by
  induction n generalizing t with
  | zero => exact h
  | succ n ih =>
    unfold examineTimes
    repeat' with_reducible first
      | assumption | apply ih | apply work_admitFan | split

theorem work_examine (h : Work s t) {b : Nat} : Work s (examine b t) := by
  unfold examine
  repeat' with_reducible first
    | assumption | apply work_examineTimes

theorem work_examineFor (h : Work s t) {o : Nat} : Work s (examineFor o t) := by
  unfold examineFor
  repeat' with_reducible first
    | assumption | apply work_examine | split

theorem work_releaseSlot (h : Work s t) {o : Nat} : Work s (releaseSlot o t) := by
  unfold releaseSlot
  repeat' with_reducible first
    | assumption | apply work_modOut | apply work_examineFor | split

theorem work_forgetWait (h : Work s t) {o : Nat} : Work s (forgetWait o t) := by
  unfold forgetWait
  repeat' with_reducible first
    | assumption | apply work_modOut

theorem work_resumeWait (h : Work s t) {o : Nat} : Work s (resumeWait o t) := by
  unfold resumeWait
  repeat' with_reducible first
    | assumption | apply work_forgetWait | split

theorem work_warnHeld (h : Work s t) {f : Nat} : Work s (warnHeld f t) := by
  unfold warnHeld
  repeat' with_reducible first
    | assumption | apply work_modOut | apply work_raise | split

theorem work_faultRecord (h : Work s t) {o : Nat} {code : FaultCode} {cause : Cause} : Work s (faultRecord o code cause t) := by
  unfold faultRecord
  repeat' with_reducible first
    | assumption | apply work_modOut | apply work_setAct | apply work_dequeue

theorem work_toFault (h : Work s t) {o : Nat} {code : FaultCode} {cause : Cause} : Work s (toFault o code cause t) := by
  unfold toFault
  dsimp only
  repeat' with_reducible first
    | assumption | apply work_modOut | apply work_tellRunner | apply work_report | apply work_tellReserve
    | apply work_examineFor | apply work_faultRecord

theorem work_joinWait (h : Work s t) {f : Nat} : Work s (joinWait f t) := by
  unfold joinWait
  dsimp only
  repeat' with_reducible first
    | assumption | apply work_modOut | apply work_setAct | apply work_examineFor | apply work_warnHeld

theorem work_judgePath (h : Work s t) {f : Nat} : Work s (judgePath f t) := by
  unfold judgePath
  repeat' with_reducible first
    | assumption | apply work_toFault | apply work_joinWait | split

theorem work_rejudge (h : Work s t) {d : Nat} : Work s (rejudge d t) := by
  unfold rejudge
  repeat' with_reducible first
    | assumption | apply work_judgePath | refine work_foldl (fun _ _ => ?_) ?_

theorem work_settle (h : Work s t) {o : Nat} : Work s (settle o t) := by
  unfold settle
  dsimp only
  repeat' with_reducible first
    | assumption | apply work_settleRecord | apply work_examineFor | split

theorem work_placeStart (h : Work s t) {o : Nat} {c : Cmd} : Work s (placeStart o c t) := by
  unfold placeStart
  repeat' with_reducible first
    | assumption | apply work_setAct | apply work_joinWait | apply work_judgePath | split

theorem work_place (h : Work s t) {o : Nat} : Work s (place o t) := by
  unfold place
  dsimp only
  repeat' with_reducible first
    | assumption | apply work_setAct | apply work_enqueue | apply work_resumeWait | apply work_toFault
    | apply work_settle | apply work_placeStart | split

theorem work_placeFromWait (h : Work s t) {o : Nat} : Work s (placeFromWait o t) := by
  unfold placeFromWait
  dsimp only
  repeat' with_reducible first
    | assumption | apply work_examineFor | apply work_place | split

theorem work_newAttempt (h : Work s t) {o : Nat} {way : Way} : Work s (newAttempt o way t) := by
  unfold newAttempt
  repeat' with_reducible first
    | assumption | apply work_modOut | apply work_raise | apply work_place

theorem work_requeueStart (h : Work s t) {o : Nat} : Work s (requeueStart o t) := by
  unfold requeueStart
  dsimp only
  repeat' with_reducible first
    | assumption | apply work_dequeue | apply work_place | split

theorem work_onOutput (h : Work s t) {o : Nat} {work : State → State} (hw : ∀ u : State, Work s u → Work s (work u)) :
    Work s (onOutput o work t) := by
  unfold onOutput
  dsimp only
  repeat' with_reducible first
    | assumption | apply work_rejudge | apply work_requeueStart | apply hw | split

theorem work_supersede (h : Work s t) {o : Nat} {c : Cmd} : Work s (supersede o c t) := by
  unfold supersede
  dsimp only
  repeat' with_reducible first
    | assumption | apply work_modOut | apply work_dequeue | apply work_requeueInPlace | apply work_enqueue
    | apply work_examineFor | apply work_forgetWait | apply work_placeStart | split

theorem work_toNone (h : Work s t) {was : Act} {o : Nat} : Work s (toNone was o t) := by
  unfold toNone
  dsimp only
  repeat' with_reducible first
    | assumption | apply work_modOut | apply work_raise | apply work_setAct | apply work_dequeue
    | apply work_settleRecord | apply work_examineFor | split

theorem work_takeCommand (h : Work s t) {o : Nat} : Work s (takeCommand o t) :=
  work_modOut (work_modOut h)

theorem work_actOnCommand (h : Work s t) {was : Act} {o : Nat} : Work s (actOnCommand was o t) := by
  unfold actOnCommand
  repeat' with_reducible first
    | assumption | apply work_toNone | apply work_newAttempt | apply work_supersede | apply work_examineFor
    | apply work_place | split

theorem work_recomputeAll (h : Work s t) {os : List Nat} : Work s (recomputeAll os t) := by
  unfold recomputeAll
  dsimp only
  repeat' with_reducible first
    | assumption | apply work_examineFor | apply work_takeCommand | apply work_actOnCommand
    | refine work_onOutput ?_ (fun _ _ => ?_) | refine work_foldl (fun _ _ => ?_) ?_ | split

theorem work_recompute (h : Work s t) {o : Nat} : Work s (recompute o t) := work_recomputeAll h

theorem work_changeLayers (h : Work s t) {w : Nat → OutRec → OutRec} {os : List Nat} : Work s (changeLayers w os t) := by
  unfold changeLayers
  repeat' with_reducible first
    | assumption | apply work_modOut | apply work_recomputeAll | refine work_foldl (fun _ _ => ?_) ?_

theorem work_writeFire (h : Work s t) {o : Nat} {c : Option Cmd} : Work s (writeFire o c t) := by
  unfold writeFire
  repeat' with_reducible first
    | assumption | apply work_changeLayers | split

theorem work_beginFire (h : Work s t) : Work s (beginFire t) := by
  unfold beginFire
  repeat' with_reducible first
    | assumption | apply work_changeLayers

theorem work_endFire (h : Work s t) : Work s (endFire t) := by
  unfold endFire
  repeat' with_reducible first
    | assumption | apply work_changeLayers

theorem work_acceptCommand (h : Work s t) {o : Nat} {c : Cmd} : Work s (acceptCommand o c t) := by
  unfold acceptCommand
  dsimp only
  repeat' with_reducible first
    | assumption | apply work_modOut | apply work_setAct | apply work_releaseSlot | split

theorem work_sentEnding (h : Work s t) {o : Nat} {a : Ack} : Work s (sentEnding o a t) := by
  unfold sentEnding
  dsimp only
  repeat' with_reducible first
    | assumption | apply work_modOut | apply work_enqueue | apply work_toFault | apply work_acceptCommand | split

theorem work_supersededEnding (h : Work s t) {o : Nat} {a : Ack} : Work s (supersededEnding o a t) := by
  unfold supersededEnding
  repeat' with_reducible first
    | assumption | apply work_modOut | apply work_releaseSlot | split

theorem work_exchangeEnded (h : Work s t) {o : Nat} {a : Ack} : Work s (exchangeEnded o a t) := by
  unfold exchangeEnded
  repeat' with_reducible first
    | assumption | refine work_onOutput ?_ (fun _ _ => ?_) | apply work_sentEnding | apply work_supersededEnding
    | split

theorem work_proofExpired (h : Work s t) {o : Nat} : Work s (proofExpired o t) := by
  unfold proofExpired
  dsimp only
  repeat' with_reducible first
    | assumption | apply work_modOut | apply work_enqueue | apply work_toFault
    | refine work_onOutput ?_ (fun _ _ => ?_) | split

theorem work_takeView (h : Work s t) {o : Nat} {v : View} {valid unusable : Bool} :
    Work s (takeView o v valid unusable t) := by
  unfold takeView
  dsimp only
  repeat' with_reducible first
    | assumption | apply work_modOut | apply work_tellMonitor | split

theorem work_readInFault (h : Work s t) {o : Nat} {old : OutRec} {c : Cmd} : Work s (readInFault o old c t) := by
  unfold readInFault
  dsimp only
  repeat' with_reducible first
    | assumption | apply work_modOut | apply work_raise | apply work_settle | apply work_newAttempt | split

theorem work_depart (h : Work s t) {o : Nat} {c : Cmd} : Work s (depart o c t) := by
  unfold depart
  repeat' with_reducible first
    | assumption | apply work_modOut | apply work_enqueue | apply work_toFault | split

theorem work_readInState (h : Work s t) {o : Nat} {old : OutRec} {c : Cmd} : Work s (readInState o old c t) := by
  unfold readInState
  dsimp only
  repeat' with_reducible first
    | assumption | apply work_modOut | apply work_settle | apply work_placeFromWait | apply work_depart | split

theorem work_afterReading (h : Work s t) {o : Nat} {old : OutRec} : Work s (afterReading o old t) := by
  unfold afterReading
  repeat' with_reducible first
    | assumption | apply work_toFault | apply work_settle | apply work_place | apply work_readInFault
    | apply work_readInState | split

theorem work_examineIfFallen (h : Work s t) {o : Nat} {before : Nat} : Work s (examineIfFallen o before t) := by
  unfold examineIfFallen
  repeat' with_reducible first
    | assumption | apply work_examineFor | split

theorem work_takeReading (h : Work s t) {o b : Nat} : Work s (takeReading o b t) := by
  unfold takeReading
  dsimp only
  repeat' with_reducible first
    | assumption | refine work_onOutput ?_ (fun _ _ => ?_) | apply work_takeView | apply work_afterReading
    | apply work_examineIfFallen

theorem work_takeUnusable (h : Work s t) {o : Nat} : Work s (takeUnusable o t) := by
  unfold takeUnusable
  dsimp only
  repeat' with_reducible first
    | assumption | apply work_setAct | apply work_toFault | refine work_onOutput ?_ (fun _ _ => ?_)
    | apply work_takeView | apply work_examineIfFallen | split

theorem work_outputLost (h : Work s t) {o : Nat} : Work s (outputLost o t) := by
  unfold outputLost
  dsimp only
  repeat' with_reducible first
    | assumption | apply work_setAct | apply work_toFault | refine work_onOutput ?_ (fun _ _ => ?_)
    | apply work_takeView | split

theorem work_outputsLost (h : Work s t) {m : Nat} : Work s (outputsLost m t) := by
  unfold outputsLost
  repeat' with_reducible first
    | assumption | apply work_outputLost | refine work_foldl (fun _ _ => ?_) ?_

theorem work_outputReturned (h : Work s t) {o : Nat} : Work s (outputReturned o t) := by
  unfold outputReturned
  repeat' with_reducible first
    | assumption | refine work_onOutput ?_ (fun _ _ => ?_) | apply work_newAttempt | split

theorem work_outputsReturned (h : Work s t) {m : Nat} : Work s (outputsReturned m t) := by
  unfold outputsReturned
  repeat' with_reducible first
    | assumption | apply work_outputReturned | refine work_foldl (fun _ _ => ?_) ?_

theorem work_takeReadings (h : Work s t) {m : Nat} {bs : List Byte} : Work s (takeReadings m bs t) := by
  unfold takeReadings
  dsimp only
  repeat' with_reducible first
    | assumption | apply work_takeReading | apply work_takeUnusable | refine work_foldl (fun _ _ => ?_) ?_ | split

theorem work_returnToWait (h : Work s t) {f : Nat} : Work s (returnToWait f t) := by
  unfold returnToWait
  repeat' with_reducible first
    | assumption | apply work_modOut | apply work_setAct | apply work_dequeue

theorem work_restageBoard (h : Work s t) {b : Nat} : Work s (restageBoard b t) := by
  unfold restageBoard
  dsimp only
  repeat' with_reducible first
    | assumption | apply work_modOut | apply work_returnToWait | refine work_foldl (fun _ _ => ?_) ?_

theorem work_examineAndWarn (h : Work s t) {b : Nat} : Work s (examineAndWarn b t) := by
  unfold examineAndWarn
  dsimp only
  repeat' with_reducible first
    | assumption | apply work_examine | apply work_warnHeld | refine work_foldl (fun _ _ => ?_) ?_

theorem work_sourceChange (h : Work s t) {b : Nat} {src : BoardSource} : Work s (sourceChange b src t) := by
  unfold sourceChange
  dsimp only
  repeat' with_reducible first
    | assumption | apply work_setBoardSource | apply work_raise | apply work_restageBoard | apply work_examineAndWarn

theorem work_replaceQueued (h : Work s t) {o : Nat} : Work s (replaceQueued o t) := by
  unfold replaceQueued
  dsimp only
  repeat' with_reducible first
    | assumption | apply work_dequeue | refine work_onOutput ?_ (fun _ _ => ?_) | apply work_place | split

theorem work_reassertOutput (h : Work s t) {o : Nat} : Work s (reassertOutput o t) := by
  unfold reassertOutput
  dsimp only
  repeat' with_reducible first
    | assumption | refine work_onOutput ?_ (fun _ _ => ?_) | apply work_place | split

theorem work_reassert (h : Work s t) : Work s (reassert t) := by
  unfold reassert
  repeat' with_reducible first
    | assumption | apply work_replaceQueued | apply work_reassertOutput | refine work_foldl (fun _ _ => ?_) ?_

theorem work_boardWritten (h : Work s t) {b : Nat} : Work s (boardWritten b t) := by
  unfold boardWritten
  repeat' with_reducible first
    | assumption | apply work_restageBoard | apply work_examineAndWarn

theorem work_rebuildRecord (h : Work s t) {o : Nat} {old : OutputEntry} : Work s (rebuildRecord o old t) := by
  unfold rebuildRecord
  dsimp only
  repeat' with_reducible first
    | assumption | apply work_modOut | apply work_dequeue | apply work_recompute | apply work_returnToWait | split

theorem Base.setTables (h : Base s t) {x : Tables} : Base s { t with tables := x } :=
  ⟨h.powered, h.resetHeld, h.uptime, h.nv, h.window, h.nvWrite, h.validating, h.restartDue, h.pending, h.capture, h.zones,
    fun b => let b := h.bounds b; ⟨b.1, b.2, b.3, b.4, b.5, b.6, b.7, b.8, b.9, b.10, b.11⟩, h.test, h.testFlag⟩

/-- A further piece of block work after Base. -/
theorem Base.work {u : State} (h : Base s t) (w : Work t u) : Base s u := h.trans w.toBase

theorem base_putOutput (h : Base s t) {o : Nat} {new : OutputEntry} : Base s (putOutput o new t) := by
  unfold putOutput
  dsimp only
  split
  · exact h.setTables
  · exact (h.work (work_setAct (.refl _))).setTables

/-- R81, R99: a written output entry changes the tables, and is block work besides. -/
theorem base_outputWritten (h : Base s t) {o : Nat} {new : OutputEntry} : Base s (outputWritten o new t) := by
  have inner : Base s (onOutput o (fun u => rebuildRecord o (outEntry t o) (putOutput o new u)) t) := by
    have hr := (base_putOutput h (o := o) (new := new)).work
      (work_requeueStart (work_rebuildRecord (.refl _) (o := o) (old := outEntry t o)) (o := o))
    unfold onOutput
    dsimp only
    split
    · exact hr.work (work_rejudge (.refl _))
    · exact hr
  unfold outputWritten
  dsimp only
  refine Base.work ?_ (work_foldl (fun _ hu => work_examineAndWarn hu) (.refl _))
  split
  · exact inner.work (work_recompute (.refl _))
  · exact inner

end Sys2Proof.Machine
end

