-- ==== Sys2Proof/Laws/RunnerWork.lean ====
section
/-! SUPPORT. The work of the Scenario Runner: one lemma for each operation, saying that it is block work (Work). -/

namespace Sys2Proof.Machine

variable {s t : State}

/-- R46: the run fault list keeps its size and names no output twice. -/
theorem work_recordRunFault (h : Work s t) {o : Nat} : Work s (recordRunFault o t) := by
  unfold recordRunFault
  split
  · exact h
  rename_i hn
  split
  · rename_i hl
    refine ⟨⟨h.powered, h.resetHeld, h.uptime, h.nv, h.window, h.nvWrite, h.validating, h.restartDue, h.pending, h.capture,
      h.zones, fun b => ?_, h.test, h.testFlag⟩, h.mode, h.tables, h.failing⟩
    obtain ⟨b1, b2, b3, b4, b5, b6, b7, b8, b9, b10, b11⟩ := h.bounds b
    refine ⟨b1, b2, ⟨?_, ?_⟩, b4, b5, b6, b7, b8, b9, b10, b11⟩
    · show (t.run.faults ++ [o]).length ≤ _
      simp only [List.length_append, List.length_cons, List.length_nil]
      omega
    · show (t.run.faults ++ [o]).Nodup
      have : o ∉ t.run.faults := by
        intro hm
        simp [hm] at hn
      exact List.nodup_append.2 ⟨b3.2, by simp, by
        intro a ha b hb
        rw [List.mem_singleton] at hb
        exact fun e => this (hb ▸ e ▸ ha)⟩
  · exact work_setRun h

theorem work_extractLost (h : Work s t) {duty : Nat} : Work s (extractLost duty t) := by
  unfold extractLost
  repeat' with_reducible first
    | assumption | apply work_report

theorem work_tellStandby (h : Work s t) {duty : Nat} : Work s (tellStandby duty t) := by
  unfold tellStandby
  repeat' with_reducible first
    | assumption | apply work_tellMonitor | refine work_foldl (fun _ _ => ?_) ?_

theorem work_engageStandby (h : Work s t) {standby duty : Nat} {c : Cmd} : Work s (engageStandby standby duty c t) := by
  unfold engageStandby
  repeat' with_reducible first
    | assumption | apply work_modOut | apply work_raise | apply work_writeFire | apply work_tellStandby

theorem work_substitute (h : Work s t) {duty : Nat} {code : FaultCode} : Work s (substitute duty code t) := by
  unfold substitute
  dsimp only
  repeat' with_reducible first
    | assumption | apply work_extractLost | apply work_engageStandby | split

theorem work_standbyFaulted (h : Work s t) {o : Nat} : Work s (standbyFaulted o t) := by
  unfold standbyFaulted
  repeat' with_reducible first
    | assumption | apply work_extractLost | split

theorem work_takeFault (h : Work s t) {o : Nat} {code : FaultCode} : Work s (takeFault o code t) := by
  unfold takeFault
  repeat' with_reducible first
    | assumption | apply work_recordRunFault | apply work_substitute | apply work_standbyFaulted | split

theorem work_leaveFlight (h : Work s t) {o : Nat} : Work s (leaveFlight o t) := by
  unfold leaveFlight
  repeat' with_reducible first
    | assumption | refine work_setRun ?_

theorem work_takeReport (h : Work s t) {n : RunnerNotice} : Work s (takeReport n t) := by
  unfold takeReport
  dsimp only
  repeat' with_reducible first
    | assumption | apply work_takeFault | apply work_leaveFlight | split

theorem work_takeReportsTimes (h : Work s t) {n : Nat} : Work s (takeReportsTimes n t) := by
  induction n generalizing t with
  | zero => exact h
  | succ n ih =>
    unfold takeReportsTimes
    split
    · exact ih (work_takeReport (work_runnerIn h))
    · exact h

theorem work_takeReports (h : Work s t) : Work s (takeReports t) := work_takeReportsTimes h

theorem work_joinFlight (h : Work s t) {i : Nat} : Work s (joinFlight i t) := by
  unfold joinFlight
  repeat' with_reducible first
    | assumption | refine work_setRun ?_ | apply work_leaveFlight

theorem work_placeStep (h : Work s t) {i n : Nat} {r : OutRec} : Work s (placeStep i n r t) := by
  unfold placeStep
  dsimp only
  repeat' with_reducible first
    | assumption | apply work_takeFault | apply work_takeReports | apply work_joinFlight | split

theorem work_followStep (h : Work s t) {duty : Nat} {c : Cmd} : Work s (followStep duty c t) := by
  unfold followStep
  dsimp only
  repeat' with_reducible first
    | assumption | apply work_modOut | apply work_writeFire | apply work_tellStandby
    | refine work_foldl (fun _ _ => ?_) ?_ | split

theorem work_issueStep (h : Work s t) {i : Nat} : Work s (issueStep i t) := by
  unfold issueStep
  dsimp only
  repeat' with_reducible first
    | assumption | refine work_setRun ?_ | apply work_writeFire | apply work_placeStep | apply work_followStep | split

/-- R44: a STAGING run becomes ESTABLISHED. -/
theorem work_establish (h : Work s t) (hs : t.run.state = .staging) : Work s (establish t) := by
  unfold establish
  dsimp only
  have h' : Work s (setRun (fun r => { r with state := .established, deadline := none }) t) :=
    work_setRun h (ht := fun _ b => ⟨by rw [hs]; decide, b⟩)
  repeat' with_reducible first
    | assumption | apply work_tellMonitor | apply work_raise | split

theorem work_issueAtCursor (h : Work s t) : Work s (issueAtCursor t) := by
  unfold issueAtCursor
  repeat' with_reducible first
    | assumption | refine work_setRun ?_ | apply work_issueStep

theorem work_advanceTimes (h : Work s t) {n : Nat} : Work s (advanceTimes n t) := by
  induction n generalizing t with
  | zero => exact h
  | succ n ih =>
    unfold advanceTimes
    dsimp only
    have h := work_takeReports h
    split
    · split
      · rename_i hs
        refine work_establish h ?_
        rw [Bool.and_eq_true] at hs
        exact eq_of_beq hs.2
      · exact h
    · repeat' with_reducible first
        | assumption | apply ih | apply work_issueAtCursor | refine work_setRun ?_ | split

theorem work_advance (h : Work s t) : Work s (advance t) := by
  unfold advance
  repeat' with_reducible first
    | assumption | apply work_advanceTimes | apply work_advanceTimes | split

theorem work_takeRunner (h : Work s t) {n : RunnerNotice} : Work s (takeRunner n t) := by
  unfold takeRunner
  repeat' with_reducible first
    | assumption | apply work_takeReport | apply work_advance | split

theorem work_delayExpired (h : Work s t) : Work s (delayExpired t) := by
  unfold delayExpired
  repeat' with_reducible first
    | assumption | refine work_setRun ?_ | apply work_issueAtCursor | apply work_advance

theorem work_deadlineExpired (h : Work s t) : Work s (deadlineExpired t) := by
  unfold deadlineExpired
  dsimp only
  repeat' with_reducible first
    | assumption | apply work_tellMonitor | refine work_setRun ?_ | apply work_report | split

/-- R39: a load of a run that is not a test run. -/
theorem work_loadRun (h : Work s t) {scenario : Nat} {served : List Nat} :
    Work s (loadRun false scenario served t) := by
  have h' : Work s (setRun (fun r =>
    { r with
      state := .staging, test := false, late := false, degraded := false, scenario := scenario, served := served,
      cursor := 0, inFlight := [], lastIssued := [], delay := none,
      deadline := some (scenarioOf t.tables scenario).establish, faults := [], overflow := false,
      startStamp := some t.uptime, stageStamp := some t.uptime }) t) := by
    refine ⟨⟨h.powered, h.resetHeld, h.uptime, h.nv, h.window, h.nvWrite, h.validating, h.restartDue, h.pending,
      h.capture, h.zones, fun b => ?_, fun a => ?_, fun a => ?_⟩, h.mode, h.tables, h.failing⟩
    · obtain ⟨b1, b2, b3, b4, b5, b6, b7, b8, b9, b10, b11⟩ := h.bounds b
      exact ⟨b1, b2, ⟨Nat.zero_le _, List.nodup_nil⟩, b4, b5, b6, b7, b8, b9, b10, b11⟩
    · exact absurd a.2 Bool.false_ne_true
    · exact absurd a Bool.false_ne_true
  unfold loadRun
  dsimp only
  repeat' with_reducible first
    | assumption | apply work_advance | apply work_setWatches | apply work_takeReports | apply work_beginFire
    | apply work_raise | split

theorem work_releaseFans (h : Work s t) {fs : List Nat} : Work s (releaseFans fs t) := by
  unfold releaseFans
  repeat' with_reducible first
    | assumption | apply work_modOut | refine work_foldl (fun _ _ => ?_) ?_

/-- R48: a switch, which the Runner takes in fire mode only. -/
theorem work_switchRun (h : Work s t) {scenario : Nat} {served : List Nat} (hf : fireMode t = true) :
    Work s (switchRun scenario served t) := by
  unfold switchRun
  dsimp only
  have hr : ∀ u : State, Work t u → Work s (setRun (fun r =>
    { r with
      state := .staging, scenario := scenario, served := served, cursor := 0, inFlight := [], lastIssued := [],
      delay := none, late := false, deadline := some (scenarioOf t.tables scenario).establish,
      stageStamp := some t.uptime }) u) := by
    intro u hu
    have hv := h.trans hu
    refine ⟨⟨hv.powered, hv.resetHeld, hv.uptime, hv.nv, hv.window, hv.nvWrite, hv.validating, hv.restartDue, hv.pending,
      hv.capture, hv.zones, fun b => ?_, fun a => ?_, fun a => hv.testFlag a⟩, hv.mode, hv.tables, hv.failing⟩
    · let b := hv.bounds b
      exact ⟨b.1, b.2, b.3, b.4, b.5, b.6, b.7, b.8, b.9, b.10, b.11⟩
    · exact h.test ⟨hf, hu.testFlag a.2⟩
  repeat' with_reducible first
    | assumption | exact Work.refl _ | apply hr | apply work_advance | apply work_setWatches | apply work_raise |
      apply work_takeReports | apply work_changeLayers | apply work_releaseFans | split

theorem work_endRun (h : Work s t) : Work s (endRun t) := by
  unfold endRun
  dsimp only
  refine work_setRun ?_ (ht := fun a _ => absurd rfl a) (hk := fun a => absurd a Bool.false_ne_true)
  repeat' with_reducible first
    | assumption | apply work_setWatches | apply work_raise | apply work_takeReports | apply work_endFire |
      apply work_releaseFans |
      refine work_setRun ?_ | split

theorem work_instructLoad (h : Work s t) {scenario : Nat} {served : List Nat} :
    Work s (instructLoad scenario served t) := by
  unfold instructLoad
  split
  · rename_i hf
    exact work_switchRun h hf
  · exact work_loadRun h

theorem work_instructSwitch (h : Work s t) {scenario : Nat} {served : List Nat} :
    Work s (instructSwitch scenario served t) := by
  unfold instructSwitch
  split
  · rename_i hf
    exact work_switchRun h hf
  · exact work_loadRun h

theorem work_instructEnd (h : Work s t) : Work s (instructEnd t) := by
  unfold instructEnd
  repeat' with_reducible first
    | assumption | apply work_endRun | split

theorem work_engageReserve (h : Work s t) {f z : Nat} : Work s (engageReserve f z t) := by
  unfold engageReserve
  repeat' with_reducible first
    | assumption | apply work_modOut | apply work_raise | apply work_writeFire

end Sys2Proof.Machine
end

