-- ==== Sys2Proof/Laws/MonitorWork.lean ====
section
/-! SUPPORT. The work of the Extract Monitor: one lemma for each operation, saying that it is block work (Work). -/

namespace Sys2Proof.Machine

variable {s t : State}

theorem work_modWatch (h : Work s t) {z : Nat} {f : Watch → Watch} : Work s (modWatch z f t) := by
  unfold modWatch
  repeat' with_reducible first
    | assumption | apply work_setWatches

theorem work_deficitEnds (h : Work s t) {z : Nat} : Work s (deficitEnds z t) := by
  unfold deficitEnds
  repeat' with_reducible first
    | assumption | apply work_raise | apply work_modWatch

theorem work_exhaust (h : Work s t) {w : Watch} : Work s (exhaust w t) := by
  unfold exhaust
  repeat' with_reducible first
    | assumption | apply work_raise | apply work_modWatch

theorem work_engageTimes (h : Work s t) {n z : Nat} : Work s (engageTimes n z t) := by
  induction n generalizing t with
  | zero => exact h
  | succ n ih =>
    unfold engageTimes
    split
    · exact h
    rename_i w _
    have ht : Work s (tellMonitor (.testZone z) (modWatch z (fun w => { w with cursor := w.cursor + 1 }) t)) :=
      work_tellMonitor (work_modWatch h)
    generalize reserveAt t w = f
    generalize tellMonitor (.testZone z) (modWatch z (fun w => { w with cursor := w.cursor + 1 }) t) = x at ht ⊢
    dsimp only
    repeat' with_reducible first
      | assumption | apply ih | apply work_exhaust | apply work_modWatch | apply work_engageReserve |
        apply work_deficitEnds | split

theorem work_engagementStep (h : Work s t) {z : Nat} : Work s (engagementStep z t) := by
  unfold engagementStep
  repeat' with_reducible first
    | assumption | apply work_engageTimes

theorem work_deficitBegins (h : Work s t) {w : Watch} : Work s (deficitBegins w t) := by
  unfold deficitBegins
  dsimp only
  repeat' with_reducible first
    | assumption | apply work_raise | apply work_modWatch | apply work_engagementStep | split

theorem work_deficitTest (h : Work s t) {z : Nat} : Work s (deficitTest z t) := by
  unfold deficitTest
  repeat' with_reducible first
    | assumption | apply work_deficitEnds | apply work_deficitBegins | split

theorem work_startWatching (h : Work s t) : Work s (startWatching t) := by
  unfold startWatching
  repeat' with_reducible first
    | assumption | apply work_setWatches | apply work_deficitTest | refine work_foldl (fun _ _ => ?_) ?_

theorem work_reserveSettled (h : Work s t) {f : Nat} : Work s (reserveSettled f t) := by
  unfold reserveSettled
  dsimp only
  repeat' with_reducible first
    | assumption | apply work_modWatch | apply work_deficitEnds | apply work_engagementStep | split

theorem work_takeMonitor (h : Work s t) {n : MonitorNotice} : Work s (takeMonitor n t) := by
  unfold takeMonitor
  repeat' with_reducible first
    | assumption | apply work_deficitTest | apply work_startWatching | apply work_reserveSettled
    | refine work_foldl (fun _ _ => ?_) ?_ | split

theorem work_drainTimes (h : Work s t) {n : Nat} : Work s (drainTimes n t) := by
  induction n generalizing t with
  | zero => exact h
  | succ n ih =>
    unfold drainTimes
    split
    · exact ih (work_takeRunner (work_runnerIn h))
    split
    · exact ih (work_takeMonitor (work_monitorIn h))
    · exact h

theorem work_drain (h : Work s t) : Work s (drain t) := by
  rw [drain]
  exact work_drainTimes h

end Sys2Proof.Machine
end

