-- ==== Sys2Proof/Laws/PlantWork.lean ====
section
/-! SUPPORT. The work of the Plant Link Controller: one lemma for each operation, saying that it is block work (Work). -/

namespace Sys2Proof.Machine

variable {s t : State}

theorem work_buildSlowRing (h : Work s t) : Work s (buildSlowRing t) := by
  unfold buildSlowRing
  repeat' with_reducible first
    | assumption | refine work_setPlant ?_

theorem work_startPacer (h : Work s t) : Work s (startPacer t) := by
  unfold startPacer
  repeat' with_reducible first
    | assumption | refine work_setPlant ?_

theorem work_beginExchange (h : Work s t) {k : ExchangeKind} {f : Frame} : Work s (beginExchange k f t) := by
  unfold beginExchange
  repeat' with_reducible first
    | assumption | refine work_setPlant ?_

theorem work_nextTag (h : Work s t) : Work s (nextTag t) := by
  refine ⟨⟨h.powered, h.resetHeld, h.uptime, h.nv, h.window, h.nvWrite, h.validating, h.restartDue, h.pending, h.capture,
    h.zones, fun b => ?_, h.test, h.testFlag⟩, h.mode, h.tables, h.failing⟩
  obtain ⟨b1, b2, b3, b4, b5, b6, b7, b8, b9, b10, -⟩ := h.bounds b
  exact ⟨b1, b2, b3, b4, b5, b6, b7, b8, b9, b10, Nat.mod_lt _ (by decide)⟩

theorem work_grantCommand (h : Work s t) : Work s (grantCommand t) := by
  unfold grantCommand
  dsimp only
  repeat' with_reducible first
    | assumption | apply work_modOut | apply work_setQueue | apply work_beginExchange | apply work_nextTag
    | refine work_onOutput ?_ (fun _ h => work_setAct h) | split

/-- R138: the choice of a poll changes only cursors and the fast count. -/
theorem choosePoll_counts {m : Nat} {p : Plant} (hc : choosePoll t = some (m, p)) :
    p.errors = t.plant.errors ∧ p.strays = t.plant.strays ∧ p.forward = t.plant.forward ∧
      p.tagCounter = t.plant.tagCounter := by
  unfold choosePoll at hc
  dsimp only at hc
  repeat' split at hc
  all_goals
    simp only [Option.some.injEq, Prod.mk.injEq, reduceCtorEq] at hc
    try
      obtain ⟨-, rfl⟩ := hc
      exact ⟨rfl, rfl, rfl, rfl⟩

theorem work_grantPoll (h : Work s t) : Work s (grantPoll t) := by
  unfold grantPoll
  split
  · exact h
  · rename_i m p hc
    obtain ⟨h1, h2, h3, h4⟩ := choosePoll_counts hc
    exact work_nextTag (work_beginExchange (work_startPacer
      (work_setPlant h h1 h2 (le_of_eq (congrArg List.length h3)) h4)))

/-- R141: the entries that stay are fewer by the one taken. -/
theorem takeForward_length {es rest : List ForwardEntry} {e : ForwardEntry} (ht : takeForward t es = some (e, rest)) :
    rest.length + 1 = es.length := by
  induction es generalizing e rest with
  | nil => simp [takeForward] at ht
  | cons x xs ih =>
    unfold takeForward at ht
    split at ht
    · simp only [Option.some.injEq, Prod.mk.injEq] at ht
      rw [← ht.2, List.length_cons]
    · simp only [Option.map_eq_some_iff, Prod.mk.injEq, Prod.exists] at ht
      obtain ⟨a, b, hab, rfl, rfl⟩ := ht
      simp [ih hab]

theorem work_grantForward (h : Work s t) : Work s (grantForward t) := by
  unfold grantForward
  split
  · exact h
  · rename_i e rest ht
    have := takeForward_length ht
    exact work_beginExchange (work_setPlant h (hf := by show rest.length ≤ _; omega))

theorem work_setBurst (h : Work s t) {n : Nat} : Work s (setBurst n t) := by
  unfold setBurst
  repeat' with_reducible first
    | assumption | refine work_setPlant ?_

theorem work_arbitrate (h : Work s t) : Work s (arbitrate t) := by
  unfold arbitrate
  repeat' with_reducible first
    | assumption | apply work_grantCommand | apply work_grantPoll | apply work_grantForward | apply work_setBurst
    | split

theorem work_moduleMissing (h : Work s t) {m : Nat} : Work s (moduleMissing m t) := by
  unfold moduleMissing
  repeat' with_reducible first
    | assumption | apply work_setModule | apply work_raise | apply work_outputsLost

theorem work_pollMissed (h : Work s t) {m : Nat} : Work s (pollMissed m t) := by
  unfold pollMissed
  dsimp only
  repeat' with_reducible first
    | assumption | apply work_setModule | apply work_moduleMissing | split

theorem work_clearMisses (h : Work s t) {m : Nat} : Work s (clearMisses m t) := by
  unfold clearMisses
  repeat' with_reducible first
    | assumption | apply work_setModule

theorem work_modulePresent (h : Work s t) {m : Nat} : Work s (modulePresent m t) := by
  unfold modulePresent
  dsimp only
  repeat' with_reducible first
    | assumption | apply work_setModule | apply work_raise | split

theorem work_stateDecoded (h : Work s t) {m : Nat} {bs : List Byte} : Work s (stateDecoded m bs t) := by
  unfold stateDecoded
  dsimp only
  repeat' with_reducible first
    | assumption | apply work_outputsReturned | apply work_takeReadings | apply work_clearMisses
    | apply work_modulePresent | split

theorem work_endExchange (h : Work s t) : Work s (endExchange t) := by
  unfold endExchange
  repeat' with_reducible first
    | assumption | refine work_setPlant ?_

theorem work_countError (h : Work s t) : Work s (countError t) := by
  refine ⟨⟨h.powered, h.resetHeld, h.uptime, h.nv, h.window, h.nvWrite, h.validating, h.restartDue, h.pending, h.capture,
    h.zones, fun b => ?_, h.test, h.testFlag⟩, h.mode, h.tables, h.failing⟩
  obtain ⟨b1, b2, b3, b4, b5, b6, b7, b8, b9, b10, b11⟩ := h.bounds b
  exact ⟨b1, b2, b3, b4, b5, b6, b7, countUp_le b8, b9, b10, b11⟩

theorem work_countStray (h : Work s t) : Work s (countStray t) := by
  refine ⟨⟨h.powered, h.resetHeld, h.uptime, h.nv, h.window, h.nvWrite, h.validating, h.restartDue, h.pending, h.capture,
    h.zones, fun b => ?_, h.test, h.testFlag⟩, h.mode, h.tables, h.failing⟩
  obtain ⟨b1, b2, b3, b4, b5, b6, b7, b8, b9, b10, b11⟩ := h.bounds b
  exact ⟨b1, b2, b3, b4, b5, b6, b7, b8, countUp_le b9, b10, b11⟩

theorem work_commandAnswered (h : Work s t) {o m : Nat} {a : Ack} : Work s (commandAnswered o m a t) := by
  unfold commandAnswered
  repeat' with_reducible first
    | assumption | apply work_exchangeEnded | apply work_clearMisses | apply work_endExchange

theorem work_pollAnswered (h : Work s t) {m : Nat} {bs : List Byte} : Work s (pollAnswered m bs t) := by
  unfold pollAnswered
  repeat' with_reducible first
    | assumption | apply work_stateDecoded | apply work_endExchange

theorem work_forwardAnswered (h : Work s t) {x : Exchange} {station tag addressed kind : Nat} {payload : List Byte} : Work s (forwardAnswered x station tag addressed kind payload t) := by
  unfold forwardAnswered
  dsimp only
  repeat' with_reducible first
    | assumption | apply work_offerFrame | apply work_clearMisses | apply work_stateDecoded | apply work_endExchange
    | split

theorem work_windowExpired (h : Work s t) {x : Exchange} : Work s (windowExpired x t) := by
  unfold windowExpired
  repeat' with_reducible first
    | assumption | refine work_setPlant ?_ | apply work_sendFail | apply work_moduleMissing | apply work_pollMissed
    | apply work_endExchange | split

/-- R140: the forward queue grows by one, where it holds fewer than 8 entries. -/
theorem work_offerForward (h : Work s t) {e : ForwardEntry} : Work s (offerForward e t) := by
  unfold offerForward
  split
  · exact work_sendFail h
  split
  · exact work_sendFail h
  rename_i hl
  refine ⟨⟨h.powered, h.resetHeld, h.uptime, h.nv, h.window, h.nvWrite, h.validating, h.restartDue, h.pending, h.capture,
    h.zones, fun b => ?_, h.test, h.testFlag⟩, h.mode, h.tables, h.failing⟩
  obtain ⟨b1, b2, b3, b4, b5, b6, b7, b8, b9, b10, b11⟩ := h.bounds b
  refine ⟨b1, b2, b3, b4, b5, b6, b7, b8, b9, ?_, b11⟩
  show (t.plant.forward ++ [e]).length ≤ _
  simp only [List.length_append, List.length_cons, List.length_nil]
  omega

theorem work_refuseEntries (h : Work s t) {es : List ForwardEntry} {r : FailReason} : Work s (refuseEntries es r t) := by
  unfold refuseEntries
  repeat' with_reducible first
    | assumption | apply work_sendFail | refine work_foldl (fun _ _ => ?_) ?_

theorem work_answerAsk (h : Work s t) {r : Result} : Work s (answerAsk r t) := by
  unfold answerAsk
  split
  · exact work_sendReply (work_setHold h)
  · exact h

theorem work_grantHold (h : Work s t) : Work s (grantHold t) := by
  unfold grantHold
  dsimp only
  exact work_answerAsk (work_raise (work_refuseEntries
    (work_setPlant h (hf := List.length_filter_le _ _))))

theorem work_freeHold (h : Work s t) : Work s (freeHold t) := by
  unfold freeHold
  dsimp only
  exact work_reassert (work_raise (work_refuseEntries
    (work_setPlant h (hf := List.length_filter_le _ _))))

theorem work_holdProgress (h : Work s t) : Work s (holdProgress t) := by
  unfold holdProgress
  repeat' with_reducible first
    | assumption | apply work_grantHold | apply work_freeHold | split

theorem work_releaseHold (h : Work s t) {r : ReleaseReason} : Work s (releaseHold r t) := by
  unfold releaseHold
  repeat' with_reducible first
    | assumption | apply work_setHold

theorem work_refuseHold (h : Work s t) : Work s (refuseHold t) := by
  unfold refuseHold
  repeat' with_reducible first
    | assumption | apply work_setHold | apply work_answerAsk

theorem work_revokeHold (h : Work s t) : Work s (revokeHold t) := by
  unfold revokeHold
  repeat' with_reducible first
    | assumption | apply work_holdProgress | apply work_releaseHold | apply work_refuseHold | split

theorem work_endStep (h : Work s t) : Work s (endStep t) := by
  unfold endStep
  repeat' with_reducible first
    | assumption | apply work_drain | apply work_arbitrate | apply work_holdProgress

end Sys2Proof.Machine
end

