-- ==== Sys2Proof/Laws/ZonesWork.lean ====
section
/-! SUPPORT. The work of the Zone Intake: one lemma for each operation, saying that it is block work (Work). -/

namespace Sys2Proof.Machine

variable {s t : State}

theorem work_tellConfirmed (h : Work s t) {z : Nat} : Work s (tellConfirmed z t) := by
  unfold tellConfirmed
  dsimp only
  split
  · exact work_selector (work_revokeHold h)
  · exact work_revokeHold h

theorem work_tellReset (h : Work s t) {z : Nat} : Work s (tellReset z t) := by
  unfold tellReset
  split
  · exact work_selector h
  · exact h

theorem zoneRecOk_cold : zoneRecOk coldZone := by
  refine ⟨Nat.zero_le _, List.nodup_nil, rfl, fun _ => rfl, fun h => ?_⟩
  cases h

theorem zoneRec_ok (h : zonesOk t) (z : Nat) : zoneRecOk (zoneRec t z) := by
  unfold zoneRec
  rcases sget_mem coldZone t.zones z with e | ⟨p, hp, -, e⟩
  · rw [e]
    exact zoneRecOk_cold
  · rw [← e]
    exact h p hp

/-- R5: a set never holds the same source address twice and never holds more than 8 sources. -/
theorem joinSources_ok {a : AlarmSource} {set : List AlarmSource} (hl : set.length ≤ Config.sourceSetSize)
    (hn : (set.map (fun x => x.address)).Nodup) :
    (joinSources a set).length ≤ Config.sourceSetSize ∧ ((joinSources a set).map (fun x => x.address)).Nodup := by
  unfold joinSources
  split
  · split
    · refine ⟨by simpa using hl, ?_⟩
      have : (set.map (fun x => if x.address == a.address then { x with cls := SourceClass.confirming } else x)).map
          (fun x => x.address) = set.map (fun x => x.address) := by
        rw [List.map_map]
        refine List.map_congr_left fun x _ => ?_
        simp only [Function.comp_apply]
        split <;> rfl
      rw [this]
      exact hn
    · exact ⟨hl, hn⟩
  · rename_i hnew
    split
    · rename_i hlt
      refine ⟨by simp only [List.length_append, List.length_cons, List.length_nil]; omega, ?_⟩
      rw [List.map_append]
      refine List.nodup_append.2 ⟨hn, by simp, ?_⟩
      intro x hx y hy e
      simp only [List.map_cons, List.map_nil, List.mem_singleton] at hy
      obtain ⟨b, hb, rfl⟩ := List.mem_map.1 hx
      exact hnew (List.any_eq_true.2 ⟨b, hb, beq_iff_eq.2 (e.trans hy)⟩)
    · exact ⟨hl, hn⟩

/-- R8: a zone in NORMAL or PREALARM is confirmed. -/
theorem work_confirmZone (h : Work s t) {z : Nat} {a : AlarmSource} {set : List AlarmSource}
    (hs : (zoneRec t z).state ≠ .isolated)
    (hset : zonesOk t → set.length ≤ Config.sourceSetSize ∧ (set.map (fun x => x.address)).Nodup) :
    Work s (confirmZone z a set t) := by
  unfold confirmZone
  dsimp only
  refine work_tellConfirmed (work_raise (work_setZone h fun ok => ?_))
  refine ⟨(hset ok).1, (hset ok).2, rfl, fun e => ?_, fun e => ?_⟩
  · cases e
  · exact absurd ((zoneRec_ok ok z).2.2.2.2 e) hs

/-- R6, R7, R13. -/
theorem work_alarmArrival (h : Work s t) {z : Nat} {a : AlarmSource} : Work s (alarmArrival z a t) := by
  have hj : zonesOk t → (joinSources a (zoneRec t z).sources).length ≤ Config.sourceSetSize ∧
      ((joinSources a (zoneRec t z).sources).map (fun x => x.address)).Nodup := fun ok =>
    joinSources_ok (zoneRec_ok ok z).1 (zoneRec_ok ok z).2.1
  unfold alarmArrival
  dsimp only
  split <;> rename_i hs
  · refine work_setZone h fun ok => ⟨(hj ok).1, (hj ok).2, (zoneRec_ok ok z).2.2.1, fun e => ?_, fun _ => hs⟩
    exact absurd (hs.symm.trans e) (by decide)
  · refine work_setZone h fun ok => ⟨(hj ok).1, (hj ok).2, (zoneRec_ok ok z).2.2.1, fun e => ?_,
      (zoneRec_ok ok z).2.2.2.2⟩
    exact absurd (hs.symm.trans e) (by decide)
  · refine work_setZone h fun ok => ⟨(hj ok).1, (hj ok).2, (zoneRec_ok ok z).2.2.1, fun e => ?_,
      (zoneRec_ok ok z).2.2.2.2⟩
    exact absurd (hs.symm.trans e) (by decide)
  · refine work_setZone h fun ok => ⟨(hj ok).1, (hj ok).2, (zoneRec_ok ok z).2.2.1, fun e => ?_,
      (zoneRec_ok ok z).2.2.2.2⟩
    exact absurd (hs.symm.trans e) (by decide)
  · split
    · exact work_confirmZone h (by rw [hs]; decide) hj
    · refine work_raise (work_setZone h fun ok => ⟨(hj ok).1, (hj ok).2, ?_, fun e => ?_, fun e => ?_⟩)
      · exact (zoneRec_ok ok z).2.2.1.trans (by rw [hs]; rfl)
      · cases e
      · exact absurd (hs.symm.trans ((zoneRec_ok ok z).2.2.2.2 e)) (by decide)
  · split
    · exact work_confirmZone h (by rw [hs]; decide) hj
    · refine work_setZone h fun ok => ⟨(hj ok).1, (hj ok).2, (zoneRec_ok ok z).2.2.1, fun e => ?_,
        (zoneRec_ok ok z).2.2.2.2⟩
      exact absurd (hs.symm.trans e) (by decide)

theorem work_zoneEventTaken (h : Work s t) {z source cls : Nat} : Work s (zoneEventTaken z source cls t) := by
  unfold zoneEventTaken
  repeat' with_reducible first
    | assumption | apply work_unmapped | apply work_alarmArrival | split

/-- R9. -/
theorem work_zoneResetTaken (h : Work s t) {z : Nat} : Work s (zoneResetTaken z t) := by
  unfold zoneResetTaken
  dsimp only
  split
  · exact work_unmapped h
  split
  · rename_i hs
    refine work_raise (work_setZone h fun ok => ?_)
    refine ⟨Nat.zero_le _, List.nodup_nil, (zoneRec_ok ok z).2.2.1, fun _ => rfl, fun e => ?_⟩
    cases e
  · have h' : Work s (setZone z coldZone t) := work_setZone h fun _ => zoneRecOk_cold
    split
    · exact work_tellReset (work_raise h')
    · exact work_raise h'

/-- R10. -/
theorem work_zoneRequest (h : Work s t) {z : Nat} {want : ZoneState} {ev : Ev} {d : Nat} (hw : isConfirmed want = true) :
    Work s (zoneRequest z want ev d t).1 := by
  unfold zoneRequest
  dsimp only
  split
  · exact h
  rename_i hc
  split
  · exact h
  · refine work_raise (work_setZone h fun ok => ?_)
    obtain ⟨h1, h2, h3, -, h5⟩ := zoneRec_ok ok z
    have hc' : isConfirmed (zoneRec t z).state = true := by simpa using hc
    refine ⟨h1, h2, h3.trans (hc'.trans hw.symm), fun e => ?_, fun e => ?_⟩
    · change want = .normal at e
      rw [e] at hw
      exact absurd hw (by decide)
    · rw [h5 e] at hc'
      exact absurd hc' (by decide)

/-- R12. -/
theorem work_isolateZone (h : Work s t) {z : Nat} : Work s (isolateZone z t).1 := by
  have step : ∀ q : ZoneState, q = .normal ∨ q = .prealarm → (zoneRec t z).state = q →
      Work s (setZone z { zoneRec t z with state := .isolated, sources := [], held := false } t) := by
    intro q hq hs
    refine work_setZone h fun ok => ⟨Nat.zero_le _, List.nodup_nil, ?_, fun e => ?_, fun e => ?_⟩
    · refine (zoneRec_ok ok z).2.2.1.trans ?_
      rw [hs]
      rcases hq with rfl | rfl <;> rfl
    · cases e
    · cases e
  unfold isolateZone
  dsimp only
  split <;> dsimp only
  · rename_i hs
    exact work_raise (step _ (.inl rfl) hs)
  · rename_i hs
    exact work_raise (step _ (.inr rfl) hs)
  all_goals exact h

/-- R14. -/
theorem work_deisolateZone (h : Work s t) {z : Nat} : Work s (deisolateZone z t) := by
  unfold deisolateZone
  dsimp only
  split
  · exact h
  rename_i hs
  have hs' : (zoneRec t z).state = .isolated := by simpa using hs
  split
  · refine work_tellConfirmed (work_raise (work_raise (work_setZone h fun ok => ?_)))
    obtain ⟨h1, h2, -, -, -⟩ := zoneRec_ok ok z
    refine ⟨h1, h2, rfl, fun e => ?_, fun e => ?_⟩ <;> cases e
  split
  · refine work_raise (work_raise (work_setZone h fun ok => ?_))
    obtain ⟨h1, h2, h3, -, -⟩ := zoneRec_ok ok z
    refine ⟨h1, h2, h3.trans (by rw [hs']; rfl), fun e => ?_, fun e => ?_⟩ <;> cases e
  · rename_i hn
    refine work_raise (work_setZone h fun ok => ?_)
    obtain ⟨h1, h2, h3, -, -⟩ := zoneRec_ok ok z
    refine ⟨h1, h2, h3.trans (by rw [hs']; rfl), fun _ => ?_, fun e => ?_⟩
    · have : (zoneRec t z).sources.length = 0 := by simpa using hn
      exact List.eq_nil_of_length_eq_zero this
    · cases e

/-- R16: only a zone in PREALARM is confirmed by the re-evaluation. -/
theorem reconfirmed_prealarm {z : Nat} (h : reconfirmed t z = true) : (zoneRec t z).state = .prealarm := by
  simp only [reconfirmed, Bool.and_eq_true, beq_iff_eq] at h
  exact h.1.2

/-- R16. -/
theorem work_reevaluateZone (h : Work s t) {z : Nat} : Work s (reevaluateZone z t) := by
  unfold reevaluateZone
  dsimp only
  split
  · split
    · exact h
    · exact work_raise (work_setZone h fun _ => zoneRecOk_cold)
  split
  · rename_i hs
    refine work_raise (work_setZone h fun ok => ?_)
    obtain ⟨h1, h2, -, -, h5⟩ := zoneRec_ok ok z
    refine ⟨h1, h2, rfl, fun e => ?_, fun e => ?_⟩
    · cases e
    · exact absurd ((reconfirmed_prealarm hs).symm.trans (h5 e)) (by decide)
  · exact h

theorem work_reevaluateZones (h : Work s t) : Work s (reevaluateZones t) := by
  unfold reevaluateZones
  repeat' with_reducible first
    | assumption | apply work_reevaluateZone | apply work_tellConfirmed | refine work_foldl (fun _ _ => ?_) ?_

end Sys2Proof.Machine
end

