-- ==== Sys2Proof/Laws/SelectorWork.lean ====
section
/-! SUPPORT. The work of the Scenario Selector: one lemma for each operation, saying that it is block work (Work). -/

namespace Sys2Proof.Machine

variable {s t : State}

theorem work_instruct (h : Work s t) {served : List Nat} {scenario : Nat} : Work s (instruct served scenario t) := by
  unfold instruct
  repeat' with_reducible first
    | assumption | apply work_instructLoad | apply work_instructSwitch | apply work_instructEnd | split

theorem work_takeIntake (h : Work s t) {a : IntakeArrival} : Work s (takeIntake a t) := by
  unfold takeIntake
  repeat' with_reducible first
    | assumption | apply work_zoneEventTaken | apply work_zoneResetTaken | split

/-- R20: what Zone Intake takes during a decision. -/
theorem work_takeGroup {p : Placing} (h : Work s p.state) : Work s (takeGroup p).state := by
  unfold takeGroup
  split
  · exact h
  · exact work_foldl (fun _ hu => work_takeIntake hu) h

theorem work_takeLeft {p : Placing} (h : Work s p.state) : Work s (takeLeft p).state :=
  work_foldl (fun _ hu => work_takeIntake hu) h

/-- R24, step 1. -/
theorem work_askActive {scenario : Nat} {zs : List Nat} {p : Placing} (h : Work s p.state) :
    Work s (askActive scenario zs p).1.state := by
  induction zs generalizing p with
  | nil => exact h
  | cons z zs ih =>
    have hq := work_zoneRequest (work_takeGroup h) (z := z) (ev := .zoneActive) (d := scenario)
      (show isConfirmed .active = true from rfl)
    unfold askActive
    dsimp only
    split
    · rename_i t heq
      rw [heq] at hq
      exact ih hq
    · rename_i t heq
      rw [heq] at hq
      exact hq

/-- R24, step 2. -/
theorem work_askSecondary {zs : List Nat} {p : Placing} (h : Work s p.state) : Work s (askSecondary zs p).state := by
  induction zs generalizing p with
  | nil => exact h
  | cons z zs ih =>
    unfold askSecondary
    exact ih (work_zoneRequest (work_takeGroup h) rfl)

theorem work_decisionTimes {n : Nat} {p : Placing} (h : Work s p.state) : Work s (decisionTimes n p).state := by
  induction n generalizing p with
  | zero => exact h
  | succ n ih =>
    unfold decisionTimes
    dsimp only
    split
    · rename_i q heq
      have := work_askActive h (scenario := (newServed p.state p.made (waitingSet p.state p.made)).2)
        (zs := (newServed p.state p.made (waitingSet p.state p.made)).1.filter
          (fun z => (zoneRec p.state z).state != .active))
      rw [heq] at this
      exact ih (work_takeGroup this)
    · rename_i q heq
      have := work_askActive h (scenario := (newServed p.state p.made (waitingSet p.state p.made)).2)
        (zs := (newServed p.state p.made (waitingSet p.state p.made)).1.filter
          (fun z => (zoneRec p.state z).state != .active))
      rw [heq] at this
      exact work_instruct (work_takeLeft (work_askSecondary this))

theorem work_placementDecision (h : Work s t) {during : List (List IntakeArrival)} :
    Work s (placementDecision during t) := by
  unfold placementDecision
  exact work_decisionTimes h

end Sys2Proof.Machine
end

