-- ==== Sys2Proof/Laws/FirefighterWork.lean ====
section
/-! SUPPORT. The work of the Firefighter Control Unit: one lemma for each operation, saying that it is block work (Work). -/

namespace Sys2Proof.Machine

variable {s t : State}

theorem work_handFf (h : Work s t) : Work s (handFf t) := by
  unfold handFf
  repeat' with_reducible first
    | assumption | apply work_changeLayers

theorem work_superviseFrame (h : Work s t) : Work s (superviseFrame t) := by
  unfold superviseFrame
  dsimp only
  repeat' with_reducible first
    | assumption | apply work_setFf | apply work_raise | split

theorem work_takeAllStop (h : Work s t) {active : Bool} : Work s (takeAllStop active t) := by
  unfold takeAllStop
  repeat' with_reducible first
    | assumption | apply work_setFf | apply work_raise | split

theorem work_takeZoneSwitch (h : Work s t) {z : Nat} {p : ZoneSwitch} : Work s (takeZoneSwitch z p t) := by
  unfold takeZoneSwitch
  repeat' with_reducible first
    | assumption | apply work_setFf | split

theorem work_takeOutputSwitch (h : Work s t) {o : Nat} {p : OutputSwitch} : Work s (takeOutputSwitch o p t) := by
  unfold takeOutputSwitch
  repeat' with_reducible first
    | assumption | apply work_setFf | split

theorem work_takeSwitch (h : Work s t) {type number position : Nat} : Work s (takeSwitch type number position t) := by
  unfold takeSwitch
  repeat' with_reducible first
    | assumption | apply work_unmapped | apply work_takeZoneSwitch | apply work_takeOutputSwitch | split

theorem work_takeSwitches (h : Work s t) {bs : List Byte} : Work s (takeSwitches bs t) := by
  induction bs, t using takeSwitches.induct with
  | case1 t a b c rest ih =>
    unfold takeSwitches
    exact ih (work_takeSwitch h)
  | case2 t bs hne =>
    unfold takeSwitches
    split
    · rename_i a b c rest
      exact absurd rfl (hne a b c rest)
    · exact h

/-- R116. -/
theorem work_takeFfContent (h : Work s t) {payload : List Byte} : Work s (takeFfContent payload t) := by
  unfold takeFfContent
  repeat' with_reducible first
    | assumption | apply work_unmapped | apply work_handFf | apply work_takeSwitches | apply work_takeAllStop | split

theorem work_ffStateTaken (h : Work s t) {src : Nat} {payload : List Byte} : Work s (ffStateTaken src payload t) := by
  unfold ffStateTaken
  repeat' with_reducible first
    | assumption | apply work_superviseFrame | apply work_takeFfContent | split

theorem work_panelLost (h : Work s t) : Work s (panelLost t) := by
  unfold panelLost
  repeat' with_reducible first
    | assumption | apply work_setFf | apply work_raise

theorem work_ffEntryWritten (h : Work s t) {o : Nat} : Work s (ffEntryWritten o t) := by
  unfold ffEntryWritten
  dsimp only
  repeat' with_reducible first
    | assumption | apply work_setFf | apply work_handFf

end Sys2Proof.Machine
end

