-- ==== Sys2Proof/Laws/PanelWork.lean ====
section
/-! SUPPORT. The work of the Panel Link Interface and Forwarding Map: one lemma for each operation, saying that it is block work (Work). -/

namespace Sys2Proof.Machine

variable {s t : State}

theorem work_leaveService (h : Work s t) : Work s (leaveService t) := work_setPanel h

theorem work_answer (h : Work s t) {req : Requester} {r : Result} : Work s (answer req r t) := by
  unfold answer
  repeat' with_reducible first
    | assumption | apply work_sendReply | apply work_leaveService

theorem work_answerFrame (h : Work s t) {req : Requester} {kind : Nat} {payload : List Byte} {after : AfterSent} : Work s (answerFrame req kind payload after t) := by
  unfold answerFrame
  repeat' with_reducible first
    | assumption | apply work_offerFrame | apply work_leaveService

theorem work_answerWrite (h : Work s t) {table : Option TableId} {req : Requester} {r : Result} :
    Work s (answerWrite table req r t) := by
  unfold answerWrite
  repeat' with_reducible first
    | assumption | apply work_offerFrame | apply work_leaveService

/-- R153: the inbound buffer grows by one where it holds fewer than 4 requests. -/
theorem work_joinInbound (h : Work s t) {f : Frame} : Work s (joinInbound f t) := by
  refine ⟨⟨h.powered, h.resetHeld, h.uptime, h.nv, h.window, h.nvWrite, h.validating, h.restartDue, h.pending, h.capture,
    h.zones, fun b => ?_, h.test, h.testFlag⟩, h.mode, h.tables, h.failing⟩
  obtain ⟨b1, b2, b3, b4, b5, b6, b7, b8, b9, b10, b11⟩ := h.bounds b
  unfold joinInbound setPanel
  dsimp only
  split
  · refine ⟨b1, b2, b3, ?_, b5, b6, b7, b8, b9, b10, b11⟩
    simp only [List.length_append, List.length_cons, List.length_nil]
    omega
  · exact ⟨b1, b2, b3, b4, b5, b6, countUp_le b7, b8, b9, b10, b11⟩

theorem work_unmappedOpen (h : Work s t) {a b : Option Nat} : Work s (unmappedOpen a b t) := by
  unfold unmappedOpen
  exact work_unmapped (work_useFree (work_useFree h))

theorem work_supplyStateTaken (h : Work s t) {b source : Nat} : Work s (supplyStateTaken b source t) := by
  unfold supplyStateTaken
  repeat' with_reducible first
    | assumption | apply work_sourceChange | apply work_unmappedOpen | split

/-- R152: reading the entries of a BLD_CMD only raises events. -/
theorem work_readBld (h : Work s t) {bs : List Byte} {acc : List (Nat × Option Cmd)} : Work s (readBld bs acc t).2 := by
  induction bs, acc, t using readBld.induct with
  | case1 acc t a b rest hb ih =>
    unfold readBld
    rw [if_pos hb]
    exact ih h
  | case2 acc t a b rest hb ih =>
    unfold readBld
    rw [if_neg hb]
    exact ih (work_unmapped h)
  | case3 bs acc t hne =>
    unfold readBld
    split
    · rename_i a b rest
      exact absurd rfl (hne a b rest)
    · exact h

/-- R152. -/
theorem work_bldCmdTaken (h : Work s t) {src : Nat} {payload : List Byte} : Work s (bldCmdTaken src payload t) := by
  unfold bldCmdTaken
  dsimp only
  split
  · exact work_unmapped h
  · exact work_changeLayers (work_readBld h)

theorem work_takeArrival (h : Work s t) {f : Frame} : Work s (takeArrival f t) := by
  unfold takeArrival
  dsimp only
  repeat' with_reducible first
    | assumption | apply work_endStep | apply work_zoneEventTaken | apply work_zoneResetTaken
    | apply work_ffStateTaken | apply work_unmappedOpen | apply work_supplyStateTaken | apply work_bldCmdTaken | split

theorem work_mapFrame (h : Work s t) {f : Frame} : Work s (mapFrame f t) := by
  unfold mapFrame
  repeat' with_reducible first
    | assumption | apply work_sendFail | apply work_offerForward | split

theorem work_candidateTaken (h : Work s t) {f : Frame} : Work s (candidateTaken f t) := by
  unfold candidateTaken
  repeat' with_reducible first
    | assumption | apply work_unmapped | apply work_endStep | apply work_mapFrame | split

theorem work_sortFrame (h : Work s t) {f : Frame} : Work s (sortFrame f t) := by
  unfold sortFrame
  repeat' with_reducible first
    | assumption | apply work_unmapped | apply work_joinInbound | apply work_takeArrival | apply work_candidateTaken
    | split

theorem work_panelBytes (h : Work s t) {bs : List Byte} : Work s (panelBytes bs t) := by
  unfold panelBytes
  split
  · exact h
  · refine ⟨⟨h.powered, h.resetHeld, h.uptime, h.nv, h.window, h.nvWrite, h.validating, h.restartDue, h.pending,
      h.capture, h.zones, fun b => ?_, h.test, h.testFlag⟩, h.mode, h.tables, h.failing⟩
    obtain ⟨b1, b2, b3, b4, b5, b6, b7, b8, b9, b10, b11⟩ := h.bounds b
    exact ⟨b1, b2, b3, b4, b5, countUp_le b6, b7, b8, b9, b10, b11⟩
  · exact work_sortFrame h

theorem work_takeReply (h : Work s t) {x : Exchange} {kind : Nat} {payload : List Byte} : Work s (takeReply x kind payload t) := by
  unfold takeReply
  repeat' with_reducible first
    | assumption | apply work_countError | apply work_commandAnswered | apply work_pollAnswered
    | apply work_forwardAnswered | apply work_endStep | split

theorem work_plantBytes (h : Work s t) {bs : List Byte} : Work s (plantBytes bs t) := by
  unfold plantBytes
  repeat' with_reducible first
    | assumption | apply work_countError | apply work_countStray | apply work_takeReply | split

end Sys2Proof.Machine
end

