-- ==== Sys2Proof/Tests/Slice0.lean ====
section
/-! SUPPORT. Small tests of single steps. The expected values come from the manual's worked examples and rules, named at
each test. Then one witness for each statement of Certificates/Slice0/Obligations.lean that has hypotheses. -/

namespace Sys2Proof.Tests

open Sys2Proof Sys2Proof.Machine

/-! ### A small building, from the worked examples -/

/-- A FAN_SINGLE on board 2 (5.12). -/
def fanOne (m c start : Nat) : OutputEntry :=
  { blankOutput with kind := 2, module := m, channel := c, zone := 4, role := 1, safeDefault := 3, tMain := 20, tDown := 30,
                     board := 2, startLoad := start, runHigh := 220, extractHigh := 125 }

/-- Fan 23, a FAN_TWO on board 2 (5.12, 6.7). -/
def fan23 : OutputEntry :=
  { fanOne 12 3 480 with kind := 3, runLow := 70, runHigh := 160, stepLoad := 100, extractHigh := 90, low16 := 11 }

/-- Damper 54, t_main 20 seconds (4.13). -/
def damper54 : OutputEntry :=
  { blankOutput with kind := 1, module := 14, channel := 1, zone := 4, role := 1, safeDefault := 0, tMain := 20 }

/-- Damper 57 of module 15, channel 2 (4.14, 9.7). -/
def damper57 : OutputEntry :=
  { blankOutput with kind := 1, module := 15, channel := 2, zone := 4, role := 2, safeDefault := 1, tMain := 25 }

/-- A zone with its own scenario (1.11, 2.9). -/
def zoneWith (priority threshold scenario : Nat) : ZoneEntry :=
  { blankZone with enabled := 1, priority := priority, threshold := threshold, scenario := scenario }

/-- The tables of sections 1.11, 2.9, 4.13, 5.12 and 9.7, as far as the tests need them. -/
def mallTables : Tables :=
  { blankTables with
    outputs := [(21, fanOne 12 1 620), (22, fanOne 12 2 620), (23, fan23), (54, damper54), (57, damper57)]
    zones := [(4, zoneWith 2 2 4), (5, zoneWith 2 2 5), (7, zoneWith 1 1 7), (9, zoneWith 3 3 9), (12, zoneWith 1 1 12)]
    scenarios := [(4, { firstStep := 10, stepCount := 2, establish := 180, requirement1 := 300, requirement2 := 0 })]
    joints := [(1, { zoneA := 4, zoneB := 5, scenario := 31 }), (2, { zoneA := 7, zoneB := 12, scenario := 33 }),
      (3, { zoneA := 12, zoneB := 9, scenario := 35 })]
    steps := [(10, { output := 54, target := 1, gate := 0, delay := 1 }),
      (11, { output := 21, target := 5, gate := 2, delay := 10 })]
    boards := [(2, { capMains := 3000, capStandby := 1200, startLimit := 2, holdWarn := 20 })]
    windows := [(1, { panelBase := 120, count := 40, plantBase := 1, permission := 1, fireBlock := 1 })] }

/-- The mall in NORMAL mode, every record at its start value. -/
def mall : State := { State.reset with mode := .normal, tables := mallTables, nv := mallTables }

/-- The commissioning station asks. -/
def asker : Requester := { station := 230, tag := 17, own := 200 }

/-- The state after a command. -/
def after (c : Instr) (s : State) : State :=
  match exec c s with
  | .next t => t
  | .fault _ | .refused _ => s

/-- The events that a state's trail holds: each with subject and detail. -/
def events (s : State) : List (Ev × Nat × Nat) := s.capture.trail.map (fun e => (e.event, e.subject, e.detail))

/-- The payloads that wait to go out of a kind. -/
def sent (kind : Nat) (s : State) : List (List Byte) :=
  (s.panel.outbound.filter (fun f => f.frame.kind == kind)).map (fun f => f.frame.payload)

/-- A zone record put in place. -/
def withZone (z : Nat) (r : ZoneRec) (s : State) : State := { s with zones := sput coldZone z r s.zones }

/-- An output record put in place. -/
def withOut (o : Nat) (r : OutRec) (s : State) : State := { s with outs := sput coldOut o r s.outs }

/-- A zone confirmed at a time, in a state. -/
def zoneAt (state : ZoneState) (stamp : Nat) : ZoneRec :=
  { state := state, sources := [⟨1, .confirming⟩], confirmation := some ⟨.confirmingSource, stamp⟩, held := false }

/-- A fan's record with a valid view and a FIRE entry. -/
def fireFan (act : Act) (speed : Speed) : OutRec :=
  { coldOut with fire := some .high, safe := some .stop, resolved := some .high, act := act,
                 view := .fan speed false false, valid := true }

/-- Board 2 on the generator as 5.12 and 5.14 have it at 60150: 21 runs, 22 is starting, 23 waits. -/
def generator : State :=
  { mall with
    uptime := 60150, boards := [(2, .standby)]
    run := { coldRun with state := .staging, scenario := 4, served := [4], startStamp := some 60100 }
    outs := [
      (21, { fireFan .settled .high with joinTime := some 60119 }),
      (22, { fireFan .starting .stopped with
        joinTime := some 60129, slot := some ⟨620, .needed⟩, timer := some 11, origin := some (.fan .stopped false false),
        clean := true }),
      (23, { fireFan .waitStart .stopped with joinTime := some 60139, waitOpen := true })] }

/-! ### WellFormed refuses an ill-formed term, check by check -/

theorem test_wellFormed_good : Instr.wellFormed (.twr asker 65535 [1#8]) = true := by decide
theorem test_wellFormed_byte : Instr.wellFormed (.zoneReset 256) = false := by decide
theorem test_wellFormed_word : Instr.wellFormed (.zoneEvent 4 65536 1) = false := by decide
theorem test_wellFormed_payload : Instr.wellFormed (.bldCmd 210 (List.replicate 49 0#8)) = false := by decide
theorem test_wellFormed_frame_dest :
    Instr.wellFormed (.requestArrival { dest := 256, src := 1, kind := 48, tag := 0, payload := [] }) = false := by decide
theorem test_wellFormed_frame_payload :
    Instr.wellFormed (.forwardCandidate { dest := 1, src := 1, kind := 1, tag := 0, payload := List.replicate 49 0#8 })
      = false := by decide
theorem test_wellFormed_requester : Instr.wellFormed (.trd { asker with tag := 256 }) = false := by decide
theorem test_wellFormed_entry : Instr.wellFormed (.twr asker 1 (List.replicate 47 0#8)) = false := by decide
theorem test_wellFormed_entryRef :
    [(⟨.output, 161⟩ : EntryRef), ⟨.zone, 0⟩, ⟨.scenario, 49⟩, ⟨.joint, 17⟩, ⟨.step, 1024⟩, ⟨.board, 9⟩, ⟨.window, 0⟩,
      ⟨.link, 2⟩].all (fun r => !Instr.wellFormed (.powerUp [r])) = true := by decide
theorem test_wellFormed_reset_during : Instr.wellFormed (.placementDecision [[], [.reset 256]]) = false := by decide
theorem test_wellFormed_event_during : Instr.wellFormed (.placementDecision [[.event 4 65536 1]]) = false := by decide
theorem test_wellFormed_output : Instr.wellFormed (.proofTimerExpiry 161) = false := by decide
theorem test_wellFormed_place : Instr.wellFormed (.forwardWaitExpiry 8) = false := by decide

/-! ### Frames on the line (12.1, R178) -/

/-- The published check value of the CRC with this polynomial and start value, for the bytes "123456789", is 29B1H
(PRESUMED: from outside the manual). -/
theorem test_crc_check_value :
    crc16 [0x31#8, 0x32#8, 0x33#8, 0x34#8, 0x35#8, 0x36#8, 0x37#8, 0x38#8, 0x39#8] = 0x29B1#16 := by decide +kernel

/-- 12.1: SYNC, DEST, SRC, KIND, TAG, LEN, payload, CHECK. -/
theorem test_frame_layout :
    (frameBytes { dest := 200, src := 1, kind := 0x11, tag := 7, payload := [4#8] }).take 7
      = [0xA5#8, 200#8, 1#8, 0x11#8, 7#8, 1#8, 4#8] := by decide

/-- R149: a frame whose CHECK fails is bad. -/
theorem test_frame_bad_check :
    receive [0xA5#8, 200#8, 1#8, 0x11#8, 7#8, 1#8, 4#8, 0#8, 0#8] = .bad := by decide +kernel

/-! ### Power, reset, uptime (chapter 11) -/

/-- R176: a cold start with an entry whose integrity check failed: CONFIG_INVALID, then SERVICE. -/
theorem test_powerUp : events (after (.powerUp [⟨.output, 5⟩]) State.reset) = [(.configInvalid, 1, 5), (.modeChange, 0, 1)]
    ∧ (after (.powerUp [⟨.output, 5⟩]) State.reset).mode = .service := by decide

/-- R176: the line held, the lamps but POWER are dark. -/
theorem test_resetLineAssert :
    (after .resetLineAssert generator).resetHeld = true ∧ fireModeLamp (after .resetLineAssert generator) = false := by
  decide

/-- R168: the RESTART entry of a reset line has cause 1. -/
theorem test_resetLineRelease :
    (events (after (.resetLineRelease []) { State.reset with resetHeld := true })).head? = some (.restart, 0, 1) := by
  decide +kernel

/-- R168: the RESTART entry of MODE RESTART has cause 2. -/
theorem test_warmStart :
    (events (after (.warmStart []) { State.reset with restartDue := true })).head? = some (.restart, 0, 2) := by decide +kernel

/-- R177: the counter passes from 4294967295 to 0. -/
theorem test_uptimeTick : (after .uptimeTick { mall with uptime := 4294967295 }).uptime = 0 := by decide

/-- R176: without its supply the module takes nothing. -/
theorem test_powerFailure : (after .powerFailure mall).powered = false ∧
    after (.zoneEvent 4 1033 1) (after .powerFailure mall) = after .powerFailure mall := by decide

/-! ### The panel link (chapter 9) -/

/-- R151: a ZONE_EVENT frame reaches Zone Intake (1.11, 50390). -/
theorem test_panelFrameReceived :
    events (after (.panelFrameReceived
      (frameBytes { dest := 200, src := 1, kind := 0x10, tag := 7, payload := [4#8, 4#8, 9#8, 1#8] })) mall)
      = [(.zonePrealarm, 4, 1033)] := by decide +kernel

/-- R153: the fifth request is lost and counted. -/
theorem test_requestArrival :
    let f : Frame := { dest := 200, src := 230, kind := 0x33, tag := 1, payload := [] }
    let s := after (.requestArrival f) { mall with panel := { coldPanel with inbound := [f, f, f, f] } }
    s.panel.inbound.length = 4 ∧ s.panel.overruns = 1 := by decide

/-- R150: the building system may not send MODE: NOT_PERMITTED, code 8. -/
theorem test_requestTaken :
    let f : Frame := { dest := 200, src := 210, kind := 0x30, tag := 9, payload := [1#8] }
    sent 0x40 (after .requestTaken { mall with panel := { coldPanel with inbound := [f] } }) = [[8#8]] := by decide

/-- R154: a frame that has gone leaves the queue, and a summary STATUS that told of REPORTS_MISSED clears it. -/
theorem test_outboundFrameSent :
    let f : Frame := { dest := 1, src := 200, kind := 0x41, tag := 1, payload := [] }
    let s := after .outboundFrameSent
      { mall with panel := { coldPanel with outbound := [⟨f, .clearReportsMissed⟩], reportsMissed := true, clearing := true } }
    s.panel.outbound = [] ∧ s.panel.reportsMissed = false := by decide

/-- 9.7: 230's CMD to 134 is refused OWNED (5) in NORMAL mode; its ASK joins the forward queue for station 15. -/
theorem test_forwardCandidate :
    sent 0x43 (after (.forwardCandidate { dest := 134, src := 230, kind := 0x60, tag := 18, payload := [2#8, 1#8] }) mall)
      = [[5#8, 134#8]] ∧
    sent 0x43 (after (.forwardCandidate { dest := 175, src := 210, kind := 0x62, tag := 40, payload := [] }) mall)
      = [[2#8, 175#8]] := by decide

/-- 9.7 on a free line: the ASK is sent to station 15. -/
theorem test_forwardCandidate_sent :
    ((after (.forwardCandidate { dest := 134, src := 230, kind := 0x62, tag := 17, payload := [] }) mall).plant.exchange).map
      (fun x => (x.frame.dest, x.frame.src, x.frame.tag)) = some (15, 250, 17) := by decide

/-! ### Zones and the Selector (chapters 1 and 2) -/

/-- 1.11, 50404: the second detector confirms zone 4. -/
theorem test_zoneEvent :
    let s := after (.zoneEvent 4 1040 1)
      (withZone 4 ⟨.prealarm, [⟨1033, .detector⟩], none, false⟩ { mall with uptime := 50404 })
    zoneRec s 4 = ⟨.confirmed, [⟨1033, .detector⟩, ⟨1040, .detector⟩], some ⟨.coincidence, 50404⟩, false⟩ ∧
      events s = [(.zoneConfirmed, 4, 1040)] := by decide

/-- 1.11, 50420: the call point of an isolated zone is held. -/
theorem test_zoneEvent_held :
    let s := after (.zoneEvent 9 2212 2) (withZone 9 ⟨.isolated, [⟨2207, .detector⟩], none, true⟩ mall)
    zoneRec s 9 = ⟨.isolated, [⟨2207, .detector⟩, ⟨2212, .confirming⟩], none, true⟩ ∧ events s = [] := by decide

/-- 1.11, 50611: the reset of an ACTIVE zone has detail ACTIVE (3), and the Selector is told. -/
theorem test_zoneReset :
    let s := after (.zoneReset 4) (withZone 4 (zoneAt .active 50404) mall)
    zoneRec s 4 = coldZone ∧ events s = [(.zoneReset, 4, 3)] ∧ s.selector = [.reset 4] := by decide

/-- 1.11, 50210. -/
theorem test_zoneIsolateOn :
    let s := after (.zoneIsolateOn asker 9) mall
    zoneRec s 9 = ⟨.isolated, [], none, false⟩ ∧ events s = [(.zoneIsolated, 9, 0)] ∧ sent 0x40 s = [[0#8]] := by decide

/-- 1.11, 50433: ZONE_BUSY is code 7. -/
theorem test_zoneIsolateOn_busy :
    sent 0x40 (after (.zoneIsolateOn asker 4) (withZone 4 (zoneAt .active 50404) mall)) = [[7#8]] := by decide

/-- 1.11, 50480: the held set confirms zone 9. -/
theorem test_zoneIsolateOff :
    let s := after (.zoneIsolateOff asker 9)
      (withZone 9 ⟨.isolated, [⟨2207, .detector⟩, ⟨2212, .confirming⟩], none, true⟩ { mall with uptime := 50480 })
    zoneRec s 9 = ⟨.confirmed, [⟨2207, .detector⟩, ⟨2212, .confirming⟩], some ⟨.held, 50480⟩, false⟩ ∧
      events s = [(.zoneDeisolated, 9, 2), (.heldPresented, 9, 2)] := by decide

/-- 1.11.3: a held set below the threshold gives PREALARM with detail 0. -/
theorem test_zoneIsolateOff_prealarm :
    events (after (.zoneIsolateOff asker 9) (withZone 9 ⟨.isolated, [⟨2207, .detector⟩], none, true⟩ mall))
      = [(.zoneDeisolated, 9, 1), (.zonePrealarm, 9, 0)] := by decide

/-- 2.9, 60130: zone 7 waits behind zone 4, although its priority is higher. -/
theorem test_placementDecision :
    let s := after (.placementDecision []) (withZone 7 (zoneAt .confirmed 60130) (withZone 4 (zoneAt .active 60100)
      { generator with selector := [.confirmed 7] }))
    events s = [(.zoneSecondary, 7, 0)] ∧ s.run.served = [4] := by decide

/-- 2.9, 60700: zone 12 is kept, zone 9 joins it, in the order of entry 3. -/
theorem test_newServed_joint :
    newServed (withZone 9 (zoneAt .secondary 60240) (withZone 12 (zoneAt .active 60150)
      { mall with run := { coldRun with state := .staging, served := [7, 12], scenario := 33 } })) [] [9] = ([12, 9], 35) := by
  decide

/-! ### The run and the extract (chapters 3 and 6) -/

/-- R43: the expiry of the DELAY timer issues the step at the cursor. -/
theorem test_delayTimerExpiry :
    let s := after .delayTimerExpiry
      { mall with run := { coldRun with state := .staging, scenario := 4, served := [4], delay := some 0, deadline := some 170 } }
    (outRec s 54).fire = some .opn ∧ s.run.cursor = 1 ∧ s.run.delay = some 10 := by decide

/-- R45: RUN_LATE has the scenario as subject and the steps not yet settled as detail. -/
theorem test_establishDeadlineExpiry :
    (events (after .establishDeadlineExpiry
      { mall with run := { coldRun with state := .staging, scenario := 4, served := [4], deadline := some 0 } })).head?
      = some (.runLate, 4, 2) := by decide

/-- R31: a test run loads with its TEST flag in SERVICE mode. -/
theorem test_testRun :
    let s := after (.testRun asker 4) { mall with mode := .service }
    s.run.state = .staging ∧ s.run.test = true ∧ s.run.served = [] ∧ sent 0x40 s = [[0#8]] := by decide

/-- R32: TEST_END ends it. -/
theorem test_testEnd :
    let s := after (.testEnd asker)
      { mall with mode := .service, run := { coldRun with state := .established, test := true, scenario := 4 } }
    s.run.state = .idle ∧ (events s).map (fun e => e.1) = [.runEnd] := by decide

/-- 6.7: fan 23 LOW gives 90 × 11 ÷ 16 = 61, tripped 0, not valid 0. -/
theorem test_provenExtract :
    provenExtract fan23 (fireFan .settled .low) = 61 ∧
      provenExtract fan23 { fireFan .settled .low with valid := false } = 0 ∧
      provenExtract fan23 { fireFan .settled .high with view := .fan .high true false } = 0 := by decide

/-! ### Boards (chapter 5) -/

/-- 5.14: board 2 returns to MAINS: 2 × 256 + 1, and L becomes 220 + 620 + 480 with 22 and 23 queued. -/
theorem test_supplyState :
    let s := after (.supplyState 2 1) generator
    events s = [(.supplyChange, 2, 513)] ∧ (outRec s 21).act = .settled ∧ committedLoad s 2 = 1320 := by decide

/-- 5.12, 60160: fan 23 has waited 21 seconds: START_HELD with detail 513. -/
theorem test_startHeld :
    (events (after (.startHeld 23) { generator with uptime := 60160 })).head? = some (.startHeld, 23, 513) := by decide

/-- R98: at 20 seconds it is not yet held. -/
theorem test_startHeld_not_yet : after (.startHeld 23) { generator with uptime := 60159 }
    = { generator with uptime := 60159 } := by decide

/-! ### The firefighter panel and the building system (chapters 7 and 9) -/

/-- 7.8, 64000: ALL-STOP marks every configured fan. -/
theorem test_ffState :
    let s := after (.ffState 2 [1#8]) { generator with ff := { coldFf 10 with panel := .present } }
    (events s).head? = some (.ffAllstopOn, 0, 3) ∧ (outRec s 21).ff = some .stop ∧ s.ff.timer = some 10 := by decide

/-- 7.8, 64015: FF_LOST has the supervision time as detail. -/
theorem test_supervisionTimerExpiry :
    let s := after .supervisionTimerExpiry { mall with ff := { coldFf 10 with panel := .present, timer := some 0 }, uptime := 64015 }
    events s = [(.ffLost, 0, 10)] ∧ s.ff.panel = .lost ∧ s.ff.lostStamp = some 64015 := by decide

/-- R152: an accepted building entry is the output's BLD entry. -/
theorem test_bldCmd :
    (outRec (after (.bldCmd 210 [57#8, 2#8]) mall) 57).bld = some .cls ∧
      events (after (.bldCmd 210 [57#8, 5#8]) mall) = [(.unmappedInput, 57, 5)] := by decide

/-! ### Outputs and the plant link (chapters 4 and 8) -/

/-- Damper 54 on its way (4.13). -/
def moving54 (clean retried : Bool) : State :=
  withOut 54 { coldOut with
    fire := some .opn, resolved := some .opn, act := .moving, view := .atClosed, valid := true, origin := some .atClosed,
    timer := some 0, clean := clean, retried := retried } mall

/-- 4.13, 70042: the timer of a retried attempt that is not clean: STUCK, code 2. -/
theorem test_proofTimerExpiry : events (after (.proofTimerExpiry 54) (moving54 false true)) = [(.outputFault, 54, 512)] := by
  decide

/-- 4.13, 70021: clean and not retried: queued again, and here sent at once on the free line. -/
theorem test_proofTimerExpiry_retry :
    let s := after (.proofTimerExpiry 54) (moving54 true false)
    (outRec s 54).act = .sent ∧ (outRec s 54).retried = true ∧ s.queue = [] := by decide

/-- Damper 54's OPEN in flight (4.13, 70001). -/
def sending54 : State :=
  { withOut 54 { coldOut with
      fire := some .opn, resolved := some .opn, act := .sent, view := .atClosed, valid := true } mall with
    plant := { coldPlant with
      fastRing := [14], fastCursor := some 14
      exchange := some ⟨.ownCommand 54, { dest := 14, src := 250, kind := 0x60, tag := 9, payload := [1#8, 1#8] }, 1, some 40⟩ } }

/-- 4.13, 70001: ACCEPTED: MOVING with the origin AT_CLOSED, clean, timer 20. -/
theorem test_cmdAck :
    let r := outRec (after (.cmdAck 1 0) sending54) 54
    r.act = .moving ∧ r.origin = some .atClosed ∧ r.clean = true ∧ r.timer = some 20 := by decide

/-- The same through the line: the CMD_ACK frame of station 14 with the tag. -/
theorem test_plantFrameReceived :
    (outRec (after (.plantFrameReceived
      (frameBytes { dest := 250, src := 14, kind := 0x61, tag := 9, payload := [1#8, 0#8] })) sending54) 54).act = .moving := by
  decide +kernel

/-- R131: the last window of a command makes its module MISSING: MODULE_MISSING, subject 14, and NO_RESPONSE. -/
theorem test_replyWindowExpiry :
    let x := sending54.plant.exchange.map (fun x => { x with sends := 3 })
    (events (after .replyWindowExpiry { sending54 with plant := { sending54.plant with exchange := x } })).take 2
      = [(.moduleMissing, 14, 1), (.outputFault, 54, 9 * 256 + 1)] := by decide

/-- R130: a send that has left the line starts the reply window. -/
theorem test_plantSendComplete :
    let x := sending54.plant.exchange.map (fun x => { x with window := none })
    (after .plantSendComplete { sending54 with plant := { sending54.plant with exchange := x } }).plant = sending54.plant := by
  decide

/-- A poll of module 14 in flight. -/
def polling14 (s : State) : State :=
  { s with plant := { s.plant with
    exchange := some ⟨.ownPoll, { dest := 14, src := 250, kind := 0x62, tag := 9, payload := [] }, 1, some 40⟩ } }

/-- 4.13, 70055: a reading of AT_OPEN takes damper 54 out of FAULT: OUTPUT_RECOVERED, FEEDBACK. R71: so does a proving reading
after the expiry of a retry that was accepted at AT_OPEN. -/
theorem test_stateReply :
    let s := fun (code : FaultCode) (view : View) =>
      after (.stateReply [0x41#8, 0#8, 0#8, 0#8]) (polling14 (withOut 54 { coldOut with
        fire := some .opn, resolved := some .opn, act := .fault, fault := some ⟨code, .none⟩, view := view,
        valid := true } mall))
    (events (s .stuck .travel) = [(.outputRecovered, 54, 1)] ∧ (outRec (s .stuck .travel) 54).act = .settled) ∧
      events (s .noProof .atOpen) = [(.outputRecovered, 54, 1)] ∧ (outRec (s .noProof .atOpen) 54).act = .settled := by
  decide

/-- R89: fan 23, waiting under LOW since 60139, is seen at HIGH and then STOPPED again: it waits with its old join time. -/
theorem test_rejoin_keeps_join_time :
    let low (r : OutRec) : OutRec := { r with fire := some .low, resolved := some .low }
    let s := takeReading 23 0x82 (withOut 23 (low (outRec generator 23)) generator)
    let r := outRec (takeReading 23 0x80 s) 23
    (outRec s 23).act = .queued ∧ r.act = .waitStart ∧ r.joinTime = some 60139 := by decide

/-- R72: a fan whose path a table write has opened is judged when the command of its damper is sent. -/
theorem test_grant_judges_path :
    let s := withOut 54 { coldOut with fire := some .opn, resolved := some .opn, act := .queued }
      { generator with queue := [⟨54, .opn⟩] }
    let e : OutputEntry := { fan23 with path := [54, 57, 0, 0], interlock := 1 }
    let s := { s with tables := { mallTables with outputs := sput blankOutput 23 e mallTables.outputs } }
    let s := withOut 57 { coldOut with view := .atOpen, valid := true } (withOut 23 (fireFan .waitPath .stopped) s)
    (outRec (grantCommand s) 23).act = .waitStart := by decide

/-- R179: a reading whose fitted indication is 3 makes the reply undecodable. -/
theorem test_stateReply_undecodable :
    (after (.stateReply [0xC0#8, 0#8, 0#8, 0#8]) (polling14 mall)).plant.errors = 1 := by decide

/-- 9.7: module 15's STATE goes back to 230 with SRC 134 and TAG 17, and damper 57's view is refreshed. -/
theorem test_forwardReply :
    let s := after (.forwardReply 0x63 [0#8, 0x42#8, 0#8, 0#8]) { mall with plant := { coldPlant with
      exchange := some ⟨.forward 230 17 134, { dest := 15, src := 250, kind := 0x62, tag := 17, payload := [] }, 1, some 40⟩ } }
    s.panel.outbound.map (fun f => (f.frame.dest, f.frame.src, f.frame.tag)) = [(230, 134, 17)] ∧
      (outRec s 57).view = .atClosed := by decide

/-- R138: the pacer's expiry readies a poll, and on a free line the slow cursor's module is polled and the cursor moves. -/
theorem test_pacerTimerExpiry :
    let s := after .pacerTimerExpiry { mall with plant := { coldPlant with
      slowRing := [3, 8, 12], slowCursor := some 8, pacer := some 25 } }
    s.plant.slowCursor = some 12 ∧ (s.plant.exchange.map (fun x => x.frame.dest)) = some 8 := by decide

/-- 8.11.1: the forward wait ends with FWD_FAIL TIMEOUT, code 8. -/
theorem test_forwardWaitExpiry :
    sent 0x43 (after (.forwardWaitExpiry 0) { mall with plant := { coldPlant with
      forward := [⟨{ dest := 15, src := 250, kind := 0x62, tag := 17, payload := [] }, 230, 17, 134, 20⟩] } })
      = [[8#8, 134#8]] := by decide

/-- R142, R144: on a free line the hold is granted at once: HELD with its limit. -/
theorem test_holdAsk :
    let s := after (.holdAsk asker) mall
    s.plant.hold.state = .held ∧ s.plant.hold.timer = some 600 ∧ sent 0x40 s = [[0#8]] := by decide

/-- R145, R146: HOLD_END of a held hold on a free line: FREE, HOLD_ENDED. -/
theorem test_holdEnd :
    let s := after (.holdEnd asker)
      { mall with plant := { coldPlant with hold := { state := .held, ask := none, reason := .none, timer := some 5 } } }
    s.plant.hold.state = .free ∧ (events s).map (fun e => e.1) = [.holdEnded] ∧ sent 0x40 s = [[0#8]] := by decide

/-- R144: the hold limit has run out: released with reason TIMEOUT (2). -/
theorem test_holdTimerExpiry :
    let s := after .holdTimerExpiry
      { mall with plant := { coldPlant with hold := { state := .held, ask := none, reason := .none, timer := some 0 } } }
    s.plant.hold.state = .free ∧ (events s).map (fun e => (e.1, e.2.2)) = [(.holdEnded, 2)] := by decide

/-- R79: OUTPUT_RESET of an output in FAULT: a new attempt, OUTPUT_RECOVERED with way RESET (3). -/
theorem test_outputReset :
    let s := after (.outputReset asker 54) (withOut 54 { coldOut with
      fire := some .opn, resolved := some .opn, act := .fault, fault := some ⟨.stuck, .none⟩, view := .travel,
      valid := true } mall)
    events s = [(.outputRecovered, 54, 3)] ∧ sent 0x40 s = [[0#8]] := by decide

/-! ### Capture (chapter 10) -/

/-- The record of 10.6, LOCKED by the report with sequence 65534. -/
def locked : State :=
  { mall with capture := { coldCapture with
    nextSequence := 8, lost := true, later := 3
    locked := some ⟨⟨65534, 60300, .outputFault, 24, 7 * 256⟩, ⟨31, 207, 200⟩, 340, .none⟩ } }

/-- 10.6: FAULT_ACK with 65534 and 3 empties the record; with 2 it is refused BAD_VALUE (3). -/
theorem test_faultAck :
    (after (.faultAck asker 65534 3) locked).capture.locked = none ∧
      sent 0x40 (after (.faultAck asker 65534 2) locked) = [[3#8]] := by decide

/-- R167: a start that is not held sets the gap flag and begins at the oldest entry held. -/
theorem test_trailRead :
    (sent 0x45 (after (.trailRead asker 65534 1) (after (.zoneReset 4) mall))).map (fun p => (p.take 6))
      = [[0#8, 1#8, 1#8, 1#8, 0#8, 0#8]] := by decide

/-! ### STATUS (R155): selector, index, part, number of parts, uptime -/

/-- The parts listed for the summary are 109 bytes, so 3 parts of at most 40. -/
theorem test_statusAskSummary :
    (sent 0x41 (after (.statusAskSummary asker 0 0) { mall with uptime := 258 })).map (fun p => p.take 8)
      = [[0#8, 0#8, 0#8, 3#8, 0#8, 0#8, 1#8, 2#8]] := by decide
theorem test_statusAskZone :
    (sent 0x41 (after (.statusAskZone asker 4 0) (withZone 4 (zoneAt .active 50404) mall))).map (fun p => (p.drop 8).head?)
      = [some 3#8] := by decide
theorem test_statusAskOutput : sent 0x40 (after (.statusAskOutput asker 161 0) mall) = [[2#8]] := by decide
theorem test_statusAskRun :
    (sent 0x41 (after (.statusAskRun asker 0 0) generator)).map (fun p => (p.drop 8).head?) = [some 1#8] := by decide +kernel
theorem test_statusAskBoard :
    (sent 0x41 (after (.statusAskBoard asker 2 0) generator)).map (fun p => (p.drop 8).head?) = [some 2#8] := by decide
theorem test_statusAskFirstFault :
    (sent 0x41 (after (.statusAskFirstFault asker 0 0) locked)).map (fun p => (p.drop 8).head?) = [some 1#8] := by decide

/-! ### Modes and tables (chapter 11) -/

/-- R170: NORMAL to SERVICE: MODE_CHANGE with 2 × 256 + 1. -/
theorem test_enterService : events (after (.enterService asker) mall) = [(.modeChange, 0, 513)] := by decide

/-- R170: RUN_ACTIVE (6) in NORMAL mode in fire mode. -/
theorem test_enterService_run : sent 0x40 (after (.enterService asker) generator) = [[6#8]] := by decide

/-- R171: in SERVICE mode the tables are validated first, and no REPLY goes yet. -/
theorem test_enterNormal :
    let s := after (.enterNormal asker) { mall with mode := .service }
    s.validating = some asker ∧ sent 0x40 s = [] := by decide

/-- R171: the tables of a module as delivered pass: MODE_CHANGE 1 × 256 + 2, then OK. -/
theorem test_validationComplete :
    let s := after .validationComplete { State.reset with mode := .service, validating := some asker }
    events s = [(.modeChange, 0, 258)] ∧ s.mode = .normal ∧ sent 0x40 s = [[0#8]] := by decide +kernel

/-- R20, R171: what Zone Intake takes during the decision at the end of the validation under way is kept for it. -/
theorem test_placementDecision_validating :
    (after (.placementDecision [[.reset 4]])
      { mall with mode := .service, validating := some asker }).entryIntake = [[.reset 4]] := by decide

/-- R170: RESTART is answered OK; the warm start follows the sending. -/
theorem test_modeRestart :
    (after .outboundFrameSent (after (.modeRestart asker) mall)).restartDue = true := by decide

/-- R172: TSEL of an index outside the table's range: BAD_INDEX (2). -/
theorem test_tsel :
    sent 0x40 (after (.tsel asker 3 49) mall) = [[2#8]] ∧
      (after (.tsel asker 5 1023) mall).window = ⟨some .step, 1023⟩ := by decide

/-- R173, 12.6: TABLE_DATA of board 2. -/
theorem test_trd :
    let s := after (.trd asker) { mall with window := ⟨some .board, 2⟩ }
    sent 0x44 s = [[6#8, 0#8, 2#8, 0x0B#8, 0xB8#8, 0x04#8, 0xB0#8, 2#8, 0#8, 20#8]] ∧ s.window.cursor = 3 := by decide

/-- R173: a TWR that passes stays in service; in NORMAL mode it is WRONG_MODE (1). -/
theorem test_twr :
    let e := [0x0B#8, 0xB8#8, 0x04#8, 0xB0#8, 3#8, 0#8, 20#8]
    (after (.twr asker 2 e) { mall with mode := .service, window := ⟨some .board, 2⟩ }).nvWrite
      = some ⟨asker, ⟨.board, 2⟩, [3000, 1200, 3, 20]⟩ ∧ sent 0x40 (after (.twr asker 2 e) mall) = [[1#8]] := by decide

/-- A write of board 2 under way (R174). -/
def writing : State :=
  { mall with mode := .service, window := ⟨some .board, 2⟩, nvWrite := some ⟨asker, ⟨.board, 2⟩, [3000, 1200, 3, 20]⟩ }

/-- R174: after an equal read-back the entry is in force and the cursor has risen. -/
theorem test_nvWriteComplete :
    let s := after (.nvWriteComplete true) writing
    (boardEntry s 2).startLimit = 3 ∧ s.nv = s.tables ∧ s.window.cursor = 3 ∧ sent 0x40 s = [[0#8]] := by decide

/-- R174: after a differing one the entry in force stands and the answer is STORE_FAILED (11). -/
theorem test_nvWriteComplete_failed :
    let s := after (.nvWriteComplete false) writing
    s.tables = mallTables ∧ s.window.cursor = 2 ∧ sent 0x40 s = [[11#8]] := by decide

/-! ### Witnesses: for each statement with hypotheses, states and operands that meet them together -/

/-- Any request row is served in this state. -/
def serviceMall : State := { mall with mode := .service }

theorem test_witness_Serves (row : Instr) : Serves row serviceMall := ⟨rfl, rfl⟩

theorem test_witness_Canonical : Canonical generator := by constructor <;> first | decide | (constructor <;> decide)

theorem test_witness_ModesOk : ModesOk generator := by
  constructor <;> simp [testActive, writeGuarded, validationGuarded, generator, mall, fireMode, State.reset, coldRun]

theorem test_witness_ModesOk_writing : ModesOk writing := by
  constructor <;> simp [testActive, writeGuarded, validationGuarded, writing, mall, fireMode, State.reset, coldRun]

theorem test_witness_StepRunsTheFrontCommand : State.reset.pending = [] := rfl

/-- The tick at the top of the counter, a power-up, and another command. -/
theorem test_witness_UptimeMovesByTickAndPowerUpOnly :
    (∃ t, exec .uptimeTick { mall with uptime := 4294967295 } = .next t) ∧
      (∃ t, exec (.powerUp []) mall = .next t) ∧ ∃ t, exec (.zoneReset 4) mall = .next t :=
  ⟨⟨_, rfl⟩, ⟨_, rfl⟩, ⟨_, rfl⟩⟩

theorem test_witness_TablesAreWrittenByTwrOnly :
    ModesOk writing ∧ ∃ t, exec (.nvWriteComplete true) writing = .next t ∧ t.tables ≠ writing.tables :=
  ⟨test_witness_ModesOk_writing, _, rfl, by decide⟩

theorem test_witness_ModesStayLegal :
    ModesOk { generator with pending := [.enterService asker] } ∧
      ∃ t, step { generator with pending := [.enterService asker] } = .next t :=
  ⟨by constructor <;> simp [testActive, writeGuarded, validationGuarded, generator, mall, fireMode, State.reset, coldRun], _, rfl⟩

/-- The acknowledgement that empties the record, and a command that leaves it. -/
theorem test_witness_FirstFaultLeavesByAcknowledgementOnly :
    ∃ k, locked.capture.locked = some k ∧ (∃ t, exec (.faultAck asker 65534 3) locked = .next t) ∧
      ∃ t, exec (.zoneReset 4) locked = .next t :=
  ⟨_, rfl, ⟨_, rfl⟩, ⟨_, rfl⟩⟩

/-- A zone whose alarm source set is full. -/
def fullZone : State :=
  withZone 4 { zoneAt .active 50404 with sources := [⟨1, .detector⟩, ⟨2, .detector⟩, ⟨3, .detector⟩, ⟨4, .detector⟩,
    ⟨5, .detector⟩, ⟨6, .detector⟩, ⟨7, .detector⟩, ⟨4095, .confirming⟩] } { mall with pending := [.zoneEvent 4 8 1] }

theorem test_witness_ZoneRecordsStayLegal : zonesOk fullZone ∧ ∃ t, step fullZone = .next t :=
  ⟨by simp [zonesOk, zoneRecOk, fullZone, withZone, zoneAt, mall, State.reset, sput, coldZone, isConfirmed,
    Config.sourceSetSize], _, rfl⟩

/-- Counts at the top of their ranges, and a trail whose numbers pass from 65535 to 0. -/
def fullCounts : State :=
  { mall with
    uptime := 4294967295, pending := [.zoneReset 4]
    plant := { coldPlant with errors := 65535, strays := 65535, tagCounter := 255 }
    panel := { coldPanel with errors := 65535, overruns := 65535 }
    capture := { coldCapture with
      later := 255, nextSequence := 1, trail := [⟨65535, 7, .zoneReset, 1, 1⟩, ⟨0, 7, .zoneReset, 2, 1⟩] } }

theorem test_witness_ListsCountsAndTrailStayInBounds :
    BoundsOk fullCounts ∧ trailOk fullCounts.capture ∧ ∃ t, step fullCounts = .next t :=
  ⟨by constructor <;> decide, by unfold trailOk; decide, _, rfl⟩

/-- Damper 54's step in flight, damper 57 queued, the counts of the Controller at the top of their ranges. -/
def staged : State :=
  { generator with
    run := { coldRun with state := .staging, scenario := 4, served := [4], cursor := 1, inFlight := [10], delay := some 10 }
    queue := [⟨57, .opn⟩], pending := [.uptimeTick]
    plant := { coldPlant with
      fastRing := [12, 14], slowRing := [12, 14, 15], fastCount := 8, burst := 16, modules := [(14, ⟨.missing, 4, some 0⟩)] }
    outs := generator.outs ++ [(57, { coldOut with
      resolved := some .opn, view := .atClosed, valid := true, act := .queued, superseded := 255 })] }

theorem outRec_staged (o : Nat) : o = 21 ∨ o = 22 ∨ o = 23 ∨ o = 57 ∨
    (o ∉ staged.queue.map (fun x => x.output) ∧ outRec staged o = coldOut) := by
  by_cases h1 : o = 21
  · exact .inl h1
  by_cases h2 : o = 22
  · exact .inr (.inl h2)
  by_cases h3 : o = 23
  · exact .inr (.inr (.inl h3))
  by_cases h4 : o = 57
  · exact .inr (.inr (.inr (.inl h4)))
  exact .inr (.inr (.inr (.inr (by simp [staged, generator, outRec, sget, h1, h2, h3, h4]))))

theorem test_witness_QueueRingsAndFlightStayInBounds :
    Canonical staged ∧ ModesOk staged ∧ ListsOk staged ∧ ∃ t, step staged = .next t := by
  refine ⟨by constructor <;> first | decide | (constructor <;> decide), ?_, ?_, _, rfl⟩
  · constructor <;> simp [testActive, writeGuarded, validationGuarded, staged, generator, mall, fireMode, State.reset, coldRun]
  constructor
  case tables | stored => constructor <;> decide
  case writing => intro w h; cases h
  case idle => intro h; exact absurd h (by decide)
  case queued =>
    intro o
    rcases outRec_staged o with rfl | rfl | rfl | rfl | ⟨h, e⟩
    case inr.inr.inr.inr => rw [e]; exact ⟨fun x => absurd x h, fun x => absurd x (by decide)⟩
    all_goals decide
  case atNone | timer | superseded =>
    intro o
    rcases outRec_staged o with rfl | rfl | rfl | rfl | ⟨-, e⟩
    case inr.inr.inr.inr => rw [e]; decide
    all_goals decide
  case misses =>
    intro m
    by_cases h : m = 14
    · subst h; decide
    · simp [staged, moduleRec, sget, coldModule, h]
  all_goals decide

theorem test_witness_StoresStayCanonical :
    Canonical { generator with pending := [.supplyState 2 1] } ∧
      ∃ t, step { generator with pending := [.supplyState 2 1] } = .next t :=
  ⟨by constructor <;> first | decide | (constructor <;> decide), _, rfl⟩

/-- Board 2 holds one slot of 620 within its capacity of 1200; no other board has a fan. -/
theorem test_witness_StartSlotsStayWithinTheBoard :
    SlotsOk { generator with pending := [.supplyState 2 1] } ∧ slotHolders generator 2 = [22] := by
  refine ⟨fun b => ?_, by decide⟩
  by_cases h : b = 2
  · subst h; decide
  · have hf : fansOn { generator with pending := [.supplyState 2 1] } b = [] := by
      have hm : fans { generator with pending := [.supplyState 2 1] } = [21, 22, 23] := by decide
      have e : ∀ o ∈ [21, 22, 23], (outEntry { generator with pending := [.supplyState 2 1] } o).board = 2 := by decide
      unfold fansOn
      rw [hm, List.filter_eq_nil_iff]
      intro o ho
      rw [e o ho]
      simpa using Ne.symm h
    simp [slotHolders, hf]

theorem test_witness_ResolvedCommandFollowsTheLayers : LayersOk { generator with pending := [.bldCmd 210 [57#8, 2#8]] } := by
  unfold LayersOk; decide

/-- Zone 4 ACTIVE and served, and its reset not yet taken by the Selector. -/
def served4 : State :=
  withZone 9 (zoneAt .secondary 60240)
    { generator with zones := [(4, zoneAt .active 60100)], selector := [.confirmed 9], pending := [.placementDecision []] }

theorem test_witness_ActiveZonesAreServed : Canonical served4 ∧ ModesOk served4 ∧ ServedOk served4 := by
  refine ⟨by constructor <;> first | decide | (constructor <;> decide),
    by constructor <;> simp [served4, withZone, testActive, writeGuarded, validationGuarded, generator, mall, fireMode, State.reset, coldRun],
    ⟨?_, fun h => absurd h.2 (by decide), by decide⟩⟩
  intro z hz
  refine ⟨rfl, rfl, ?_⟩
  by_cases h4 : z = 4
  · subst h4; decide
  · by_cases h9 : z = 9
    · subst h9; exact absurd hz (by decide)
    · exact absurd hz (by
        simp [zoneRec, served4, withZone, generator, mall, State.reset, sput, sget, zoneAt, coldZone, h4, h9])

theorem test_witness_OnlyTheirOwnersMoveZonesAndRuns : ∃ t, exec (.supplyState 2 1) generator = .next t := ⟨_, rfl⟩

theorem test_witness_PowerUpIsAColdStart :
    ({ mall with resetHeld := true } : State).resetHeld = true ∧ State.reset.resetHeld = false := ⟨rfl, rfl⟩

/-- The held line, the due warm start, and the three commands that are not due. -/
theorem test_witness_WarmStartsKeepTheRecords :
    (({ mall with resetHeld := true } : State).powered = true ∧ ({ mall with resetHeld := true } : State).resetHeld = true) ∧
    (awake { mall with restartDue := true } = true ∧ ({ mall with restartDue := true } : State).restartDue = true) ∧
    mall.restartDue = false ∧ mall.resetHeld = false ∧
    (({ mall with resetHeld := true, powered := false } : State).resetHeld = true ∧
      ({ mall with resetHeld := true, powered := false } : State).powered = false) := by decide

/-- Without supply, held, and running. -/
theorem test_witness_LampsAndTheStoppedSequencer :
    ({ mall with powered := false } : State).powered = false ∧ ({ mall with resetHeld := true } : State).resetHeld = true ∧
      mall.powered = true ∧ mall.resetHeld = false := by decide

theorem test_witness_TickCountsUptimeAndTimers : generator.powered = true ∧ generator.resetHeld = false := ⟨rfl, rfl⟩

theorem test_witness_ModeRequestsGoByModeAndRun :
    Serves (.enterService asker) serviceMall ∧ Serves (.enterNormal asker) serviceMall ∧ Serves (.modeRestart asker) mall :=
  ⟨test_witness_Serves _, test_witness_Serves _, rfl, rfl⟩

theorem test_witness_ValidationEndsInItsOutcome :
    awake { serviceMall with validating := some asker } = true ∧
      ({ serviceMall with validating := some asker } : State).validating = some asker := ⟨rfl, rfl⟩

/-- Zone 33 NORMAL, zone 8 out of service in PREALARM, zone 9 at its threshold, and zone 9 one below it. -/
theorem test_witness_ValidationEndsInItsOutcome_zones :
    let three : ZoneRec := ⟨.prealarm, [⟨1, .detector⟩, ⟨2, .detector⟩, ⟨3, .detector⟩], none, false⟩
    let two : ZoneRec := ⟨.prealarm, [⟨1, .detector⟩, ⟨2, .detector⟩], none, false⟩
    (¬ (33 ≤ 32) ∧ (zoneRec mall 33).state = .normal) ∧
    ((zoneEntry mall 8).enabled ≠ 1 ∧ (zoneRec (withZone 8 two mall) 8).state ≠ .normal) ∧
    ((zoneEntry mall 9).enabled = 1 ∧ (zoneRec (withZone 9 three mall) 9).state = .prealarm ∧
      (zoneEntry mall 9).threshold ≤ (zoneRec (withZone 9 three mall) 9).sources.length) ∧
    ¬ (zoneEntry mall 9).threshold ≤ (zoneRec (withZone 9 two mall) 9).sources.length := by decide

/-- A configured output and a used window. -/
theorem test_witness_ValidationEndsInItsOutcome_items :
    isConfigured (outputOf mallTables 57) = true ∧ (windowOf mallTables 1).count ≠ 0 := by decide

theorem test_witness_TableWindowSelectsAndReads :
    Serves (.tsel asker 5 1023) serviceMall ∧ Serves (.trd asker) serviceMall := ⟨test_witness_Serves _, test_witness_Serves _⟩

theorem test_witness_TwrIsCheckedInOrder : Serves (.twr asker 2 []) serviceMall := test_witness_Serves _

theorem test_witness_WriteEndsInForceOrFailed :
    (awake writing = true ∧ writing.nvWrite = some ⟨asker, ⟨.board, 2⟩, [3000, 1200, 3, 20]⟩) ∧ Canonical generator :=
  ⟨⟨rfl, rfl⟩, test_witness_Canonical⟩

/-- Board 8, the last of its table, and another entry. -/
theorem test_witness_WrittenEntryReadsBack :
    TablesCanonical mallTables ∧ fieldsInRange .board [3000, 1200, 3, 20] = true ∧
      (⟨.board, 8⟩ : EntryRef).wellFormed = true ∧ (⟨.step, 0⟩ : EntryRef).wellFormed = true ∧
      (⟨.step, 0⟩ : EntryRef) ≠ ⟨.board, 8⟩ :=
  ⟨by constructor <;> decide, by decide, by decide, by decide, by decide⟩

/-- The longest payload. -/
theorem test_witness_SentFrameIsReceivedAsSent :
    ({ dest := 255, src := 255, kind := 255, tag := 255, payload := List.replicate 48 255#8 } : Frame).wellFormed = true := by
  decide

theorem test_witness_PanelFramesAreSorted : awake mall = true := rfl

/-- An awake state; a head with a buffer of one below the limit of 38; a row that is not served. -/
theorem test_witness_RequestsAreBufferedAndTaken :
    let f : Frame := { dest := 200, src := 230, kind := 0x33, tag := 1, payload := [] }
    let out := List.replicate 37 (⟨f, .nothing⟩ : OutFrame)
    let s : State := { mall with panel := { coldPanel with inbound := [f], outbound := out } }
    (awake s = true ∧ s.panel.inbound = f :: [] ∧ s.panel.inService = none ∧ s.panel.outbound.length < 38) ∧
      isRequestRow (.trd asker) = true ∧ mayServe (.trd asker) writing = false := by decide

/-- The queue one frame below its limit for EVENT frames, and at it. -/
theorem test_witness_OutboundQueueAdmitsAndSends :
    let f : OutFrame := ⟨{ dest := 1, src := 200, kind := 0x42, tag := 1, payload := [] }, .nothing⟩
    (List.replicate 31 f).length < 32 ∧ 32 ≤ (List.replicate 32 f).length ∧ awake mall = true := by decide

theorem test_witness_CandidatesAreCheckedAndForwarded : awake mall = true := rfl

/-- A set of seven that a new address joins, a full one, and both kinds of repeat. -/
theorem test_witness_AlarmsJoinTheSetAndMoveTheirZone_set :
    let seven : List AlarmSource := [⟨1, .detector⟩, ⟨2, .detector⟩, ⟨3, .detector⟩, ⟨4, .detector⟩, ⟨5, .detector⟩,
      ⟨6, .detector⟩, ⟨7, .detector⟩]
    let eight : List AlarmSource := seven ++ [⟨8, .detector⟩]
    let a : AlarmSource := ⟨9, .confirming⟩
    (a.address ∉ seven.map (fun x => x.address) ∧ seven.length < 8) ∧
    (a.address ∉ eight.map (fun x => x.address) ∧ 8 ≤ eight.length ∧ eight.length ≤ 8) ∧
    ((⟨7, .detector⟩ : AlarmSource).address ∈ seven.map (fun x => x.address)) ∧
    ((⟨7, .confirming⟩ : AlarmSource).address ∈ seven.map (fun x => x.address)) ∧
    (seven.map (fun x => x.address)).Nodup := by decide

/-- Zone 0 is ignored, class 3 is ignored, and source 4095 of an enabled zone is taken. -/
theorem test_witness_AlarmsJoinTheSetAndMoveTheirZone :
    awake mall = true ∧ (3 ≠ 1 ∧ 3 ≠ 2) ∧
      (1 = sourceClassCode .detector ∧
        ¬ (mall.mode = .start ∨ 12 = 0 ∨ 32 < 12 ∨ (zoneEntry mall 12).enabled ≠ 1 ∨ 4095 = 0 ∨ 4095 < 4095)) := by decide

theorem test_witness_ZoneResetReturnsTheZone : awake mall = true := rfl

theorem test_witness_ZonesAreIsolatedAndPresented :
    Serves (.zoneIsolateOn asker 32) serviceMall ∧ Serves (.zoneIsolateOff asker 0) serviceMall :=
  ⟨test_witness_Serves _, test_witness_Serves _⟩

/-- Two kept zones, one, one that the decision has made ACTIVE itself, and none. -/
theorem test_witness_SelectorChoosesAndAsks :
    let s := { mall with run := { coldRun with state := .staging, served := [4, 5], scenario := 31 } }
    let kept := fun (s : State) (made : List Nat) =>
      s.run.served.filter (fun z => (zoneRec s z).state == .active && !made.contains z)
    kept (withZone 4 (zoneAt .active 1) (withZone 5 (zoneAt .active 2) s)) [] = [4, 5] ∧
      kept (withZone 5 (zoneAt .active 2) s) [] = [5] ∧ kept (withZone 5 (zoneAt .active 2) s) [5] = [] ∧
      kept s [] = [] := by decide

/-- A notice in SERVICE mode, no notice, and one in NORMAL mode that the laws hold for. -/
theorem test_witness_PlacementDecisionServesTheNewZones :
    (awake { serviceMall with selector := [.reset 4] } = true ∧
      ({ serviceMall with selector := [.reset 4] } : State).selector = .reset 4 :: []) ∧
    (awake mall = true ∧ mall.selector = []) ∧
    awake served4 = true ∧ served4.selector = .confirmed 9 :: [] ∧ served4.mode = .normal ∧ served4.validating = none ∧
      ModesOk served4 ∧ ServedOk served4 ∧ Canonical served4 :=
  ⟨⟨rfl, rfl⟩, ⟨rfl, rfl⟩, rfl, rfl, rfl, rfl, test_witness_ActiveZonesAreServed.2.1, test_witness_ActiveZonesAreServed.2.2,
    test_witness_ActiveZonesAreServed.1⟩

/-- A decision that one arrival interrupts. -/
theorem test_witness_PlacementDecisionServesTheNewZones_repeat :
    (⟨[[], [.reset 9]], [], served4⟩ : Placing).during.flatten.length < 2 := by decide

theorem test_witness_TestRunsBeginAndEnd : Serves (.testRun asker 48) serviceMall ∧ Serves (.testEnd asker) serviceMall :=
  ⟨test_witness_Serves _, test_witness_Serves _⟩

/-- A canonical state with a configured fan, and a run that is not a test run. Scenario 4 names fan 21 and not fan 22; a fan
engaged for zone 4 is released at a switch to zone 9 and kept at one to zone 4. -/
theorem test_witness_LoadSwitchAndEndSetTheRun :
    Canonical generator ∧ 21 ∈ configured generator ∧ isFan (outEntry generator 21) = true ∧ generator.run.test = false ∧
      scenarioNames mallTables 4 21 = true ∧ scenarioNames mallTables 4 22 = false ∧
      releasedAtSwitch (withOut 22 { fireFan .settled .high with engaged := .reserveFor 4 } generator) 9 [9] 22 = true ∧
      releasedAtSwitch (withOut 22 { fireFan .settled .high with engaged := .reserveFor 4 } generator) 4 [4] 22 = false :=
  ⟨test_witness_Canonical, by decide, by decide, rfl, by decide, by decide, by decide, by decide⟩

/-- A run with its cursor on its first step and past its last one, a state without a run, and the rows. -/
theorem test_witness_StepsAreIssuedAndRunTimersExpire :
    fireMode mall = false ∧ (fireMode generator = true ∧ generator.run.cursor ≤ (scenarioEntry generator).stepCount) ∧
      2 ≤ (scenarioEntry generator).stepCount ∧ awake mall = true := by decide

theorem test_witness_RunFaultsEngageStandbysAndReserves : fireMode mall = false ∧ fireMode generator = true := by decide

/-- A fan view that is valid, one that is not, and a zone with a watch. -/
theorem test_witness_ExtractIsCountedAndTested :
    coldOut.valid = false ∧ (outRec generator 21).valid = true ∧ (outRec generator 21).view = .fan .high false false ∧
      (∃ w, ({ generator with watches := [⟨4, 300, true, false, false, 1, none⟩] } : State).watches.find?
        (fun w => w.zone == 4) = some w ∧ 1 ≤ w.cursor) ∧ (zoneEntry generator 4).reserve.length ≤ 4 :=
  ⟨rfl, rfl, rfl, ⟨_, rfl, by decide⟩, by decide⟩

/-- An empty frame, and two entries. -/
theorem test_witness_BuildingEntriesAreOneChange :
    awake mall = true ∧ (mall.mode = .start ∨ ([] : List Byte) = [] ∨ ([] : List Byte).length % 2 ≠ 0) ∧ mall.mode ≠ .start ∧
      [(57#8, 2#8), (160#8, 5#8)] ≠ [] ∧
      [57#8, 2#8, 160#8, 5#8] = [(57#8, 2#8), (160#8, 5#8)].flatMap (fun e => [e.1, e.2]) := by decide

theorem test_witness_FirefighterFramesAndLossAreTaken : awake mall = true := rfl

theorem test_witness_SwitchEntriesMoveTheImage : 3 ≠ 1 ∧ 3 ≠ 2 := by decide

/-- Damper 57 with a resolved command: no view, a lost module, a trip, a local flag, a conflict, agreement, a movement. Fan
23: a start. -/
theorem test_witness_OutputsArePlacedForTheirCommand :
    let put := fun (o : Nat) (v : View) (valid : Bool) (c : Cmd) =>
      withOut o { coldOut with resolved := some c, view := v, valid := valid } mall
    (57 ∈ configured (put 57 .none false .opn) ∧ (outRec (put 57 .none false .opn) 57).resolved = some .opn ∧
      (moduleRec (put 57 .none false .opn) 15).state ≠ .missing) ∧
    (moduleRec { put 57 .none false .opn with plant := { coldPlant with modules := [(15, ⟨.missing, 3, some 0⟩)] } } 15).state
      = .missing ∧
    viewTrip (.fan .high true false) = true ∧ viewLocal (.fan .high false true) = true ∧
    (viewAgrees .atOpen .opn = true ∧ viewAgrees .atClosed .opn = false ∧ needsSlot damper57 .atClosed .opn = false) ∧
    viewAgrees (.fan .stopped false false) .high = false ∧ isFanStart fan23 (.fan .stopped false false) .high = true ∧
    isSpeedStep fan23 (.fan .low false false) .high = true := by decide

theorem test_witness_OutputsArePlacedForTheirCommand_canonical :
    Canonical (withOut 57 { coldOut with resolved := some .opn, view := .atClosed, valid := true } mall) := by
  constructor <;> first | decide | (constructor <;> decide)

/-- Fan 23 in WAIT_PATH with damper 57 in its path: open, in FAULT, and not yet seen. Damper 57's state changes. -/
theorem test_witness_OutputsArePlacedForTheirCommand_path :
    let e : OutputEntry := { fan23 with path := [57, 0, 0, 0] }
    let s := fun (d : OutRec) => withOut 57 d (withOut 23 (fireFan .waitPath .stopped)
      { mall with tables := { mallTables with outputs := sput blankOutput 23 e mallTables.outputs } })
    (outRec (s coldOut) 23).act = .waitPath ∧
    pathPasses (s { coldOut with view := .atOpen, valid := true }) e = true ∧
    pathFaults (s { coldOut with act := .fault }) e = true ∧
    (pathPasses (s coldOut) e = false ∧ pathFaults (s coldOut) e = false) ∧
    (isDamper (outEntry mall 57) = true ∧ isDamper (outEntry (setAct 57 .fault mall) 57) = true) ∧
    isDamper (outEntry mall 23) = false ∧ isDamper (outEntry (setAct 23 .queued mall) 23) = false := by decide

/-- Fan 23 with HIGH resolved, at these layers, state and slot, and every other record at its start value. -/
def fanAt (a : Act) (fire safe : Option Cmd) (slot : Option Slot) : State :=
  { mall with
    outs := [(23, { fireFan a .stopped with fire := fire, safe := safe, slot := slot })]
    queue := if a = .queued then [⟨23, .high⟩] else [] }

theorem mall_ok : Canonical mall ∧ ListsOk mall := by
  refine ⟨by constructor <;> first | decide | (constructor <;> decide), ?_⟩
  constructor
  case tables | stored => constructor <;> decide
  case writing => intro w h; cases h
  case queued => intro o; exact ⟨(nomatch ·), (nomatch ·)⟩
  case atNone | timer | superseded => intro o; simp [mall, outRec, sget, State.reset, coldOut]
  case misses => intro m; simp [mall, moduleRec, sget, State.reset, coldPlant, coldModule]
  all_goals decide

theorem fanAt_ok (a : Act) (fire safe : Option Cmd) (slot : Option Slot) :
    Canonical (fanAt a fire safe slot) ∧ ListsOk (fanAt a fire safe slot) ∧ 23 ∈ configured (fanAt a fire safe slot) := by
  have cold : ∀ o, o ≠ 23 → outRec (fanAt a fire safe slot) o = coldOut := fun o h => by simp [fanAt, outRec, sget, h]
  refine ⟨{ mall_ok.1 with outs := by simp [fanAt, sparseWf, fireFan, coldOut] }, { mall_ok.2 with
    queueOnce := by cases a <;> simp [fanAt]
    queued := fun o => ?_, atNone := fun o => ?_, timer := fun o => ?_, superseded := fun o => ?_ },
    show 23 ∈ configured mall by decide⟩
  all_goals
    by_cases h : o = 23
    · subst h; cases a <;> simp [fanAt, outRec, sget, fireFan, coldOut]
    · rw [cold o h]; cases a <;> simp [fanAt, coldOut, h]

/-- Fan 23 in every state, with Canonical and ListsOk: an unchanged command, a change to NONE, a change within a slot of equal
demand, one without such a slot, and one that needs none. -/
theorem test_witness_ChangedCommandsSupersede : ∀ a : Act,
    let kept := some (Slot.mk 480 .needed)
    let s := fanAt a
    let r := fun (fire safe : Option Cmd) (slot : Option Slot) => outRec (s fire safe slot) 23
    (∀ fire safe slot, Canonical (s fire safe slot) ∧ ListsOk (s fire safe slot) ∧ 23 ∈ configured (s fire safe slot) ∧
      outEntry (s fire safe slot) 23 = fan23 ∧ (r fire safe slot).act = a ∧ (r fire safe slot).resolved = some .high ∧
      (r fire safe slot).slot = slot ∧ (r fire safe slot).view = .fan .stopped false false) ∧
    resolve fan23 (r (some .high) none none) = some .high ∧
    resolve fan23 (r none none none) = none ∧
    (resolve fan23 (r (some .low) none kept) = some .low ∧ resolve fan23 (r (some .low) none none) = some .low ∧
      needsSlot fan23 (.fan .stopped false false) .low = true ∧ startDemand fan23 (.fan .stopped false false) .low = 480) ∧
    resolve fan23 (r none (some .stop) kept) = some .stop ∧ needsSlot fan23 (.fan .stopped false false) .stop = false := by
  refine fun a => ⟨fun fire safe slot => ⟨(fanAt_ok ..).1, (fanAt_ok ..).2.1, (fanAt_ok ..).2.2, rfl, rfl, rfl, rfl, rfl⟩, ?_⟩
  cases a <;> decide

/-- Damper 57 and fan 23 read in each of the cases. -/
theorem test_witness_ReadingsMoveTheOutput :
    (Canonical generator ∧ 57 ∈ configured generator ∧ 23 ∈ configured generator) ∧
    (outRec mall 57).resolved = none ∧ (outRec generator 23).resolved = some .high ∧
    viewTrip (readingView fan23 0x84) = true ∧ viewLocal (readingView fan23 0x88) = true ∧
    readingView damper57 0x43 = .conflict ∧
    viewAgrees (readingView fan23 0x82) .high = true ∧ viewAgrees (readingView fan23 0x80) .high = false ∧
    viewAgrees (readingView damper57 0x41) .opn = true ∧ viewAgrees (readingView damper57 0x40) .opn = false ∧
    (viewSpeed (readingView fan23 0x81) ≠ viewSpeed (outRec generator 23).view ∧
      viewAgrees (readingView fan23 0x81) .high = false ∧ needsSlot fan23 (readingView fan23 0x81) .high = true ∧
      needsSlot fan23 (readingView fan23 0x82) .low = false) ∧
    viewTrip (readingView fan23 0x80) = false ∧ viewLocal (readingView fan23 0x80) = false := by
  refine ⟨⟨test_witness_Canonical, ?_, ?_⟩, ?_⟩ <;> decide

theorem test_witness_ResetAndProofExpiry : Serves (.outputReset asker 160) serviceMall ∧ awake mall = true :=
  ⟨test_witness_Serves _, rfl⟩

/-- A command in flight, and none. -/
theorem test_witness_CommandAnswersEndTheExchange :
    (awake sending54 = true ∧ Canonical sending54 ∧
      ∃ f, sending54.plant.exchange = some ⟨.ownCommand 54, f, 1, some 40⟩) ∧
    ∀ o f sends window, mall.plant.exchange ≠ some ⟨.ownCommand o, f, sends, window⟩ :=
  ⟨⟨rfl, by constructor <;> first | decide | (constructor <;> decide), _, rfl⟩, by
    intro o f sends window h; exact absurd h (by simp [mall, State.reset, coldPlant])⟩

/-- A poll in flight, none, and a configured output of a canonical state. -/
theorem test_witness_StateRepliesAreDecoded :
    (awake (polling14 mall) = true ∧ ∃ f, (polling14 mall).plant.exchange = some ⟨.ownPoll, f, 1, some 40⟩) ∧
    (∀ f sends window, mall.plant.exchange ≠ some ⟨.ownPoll, f, sends, window⟩) ∧
    Canonical generator ∧ 57 ∈ configured generator :=
  ⟨⟨rfl, _, rfl⟩, by intro f sends window h; exact absurd h (by simp [mall, State.reset, coldPlant]), test_witness_Canonical,
    by decide⟩

/-- Board 8 has no fan, board 2 has, and DEAD is code 3. -/
theorem test_witness_SourceChangeRestagesTheBoard :
    awake generator = true ∧ fansOn generator 8 = [] ∧
      ¬ (generator.mode = .start ∨ 2 = 0 ∨ 8 < 2 ∨ fansOn generator 2 = [] ∨ (3 ≠ 1 ∧ 3 ≠ 2 ∧ 3 ≠ 3)) ∧
      boardSourceCode .dead = 3 ∧ Canonical generator :=
  ⟨rfl, by decide, by decide, by decide, test_witness_Canonical⟩

/-- Fan 23 heads the list of board 2 and does not fit; with the slot of 22 gone it does. -/
theorem test_witness_HeadOfTheWaitListIsAdmittedFirst :
    Canonical generator ∧ waitList generator 1 = [] ∧ waitList generator 2 = 23 :: [] ∧
      (outRec generator 23).resolved = some .high ∧ awake generator = true :=
  ⟨test_witness_Canonical, by decide, by decide, by decide, rfl⟩

theorem test_witness_ArbiterGrantsAndSends : quiet sending54 ∧ sending54.plant.exchange.isSome = true := ⟨⟨rfl, rfl⟩, rfl⟩

/-- A quiet state with a free line, in each state of the hold. -/
theorem test_witness_ArbiterGrantsAndSends_hold :
    let s := fun (x : HoldState) => { mall with plant := { coldPlant with hold := { coldPlant.hold with state := x } } }
    ∀ x, quiet (s x) ∧ (s x).plant.exchange = none ∧ (s x).plant.hold.state = x := fun _ => ⟨⟨rfl, rfl⟩, rfl, rfl⟩

/-- A queued command, and both rings: the fast one below its ratio, the slow one at it. -/
theorem test_witness_ArbiterGrantsAndSends_grants :
    let p : Plant := { coldPlant with fastRing := [14], fastCursor := some 14, slowRing := [8], slowCursor := some 8 }
    ({ generator with queue := [⟨57, .opn⟩] } : State).queue = ⟨57, .opn⟩ :: [] ∧ 57 ∈ configured generator ∧
    (p.fastCursor ≠ none ∧ ({ p with fastCount := 2 } : Plant).fastCount < mall.tables.link.fastPerSlow) ∧
    ¬ (p.fastCursor ≠ none ∧ (3 < mall.tables.link.fastPerSlow ∨ p.slowCursor = none)) := by decide

/-- A send leaving the line, a window running, and nothing in flight. -/
theorem test_witness_PlantLinkTimersExpire :
    awake mall = true ∧ mall.plant.exchange = none ∧ (∃ x, sending54.plant.exchange = some x ∧ x.window ≠ none) ∧
      ∃ x, (({ sending54 with plant := { sending54.plant with
        exchange := sending54.plant.exchange.map (fun x => { x with window := none }) } } : State).plant.exchange = some x ∧
        x.window = none) := ⟨rfl, rfl, ⟨_, rfl, by decide⟩, ⟨_, rfl, rfl⟩⟩

/-- A free line, an exchange in flight, a forward in flight, and none. -/
theorem test_witness_PlantFramesAndForwardsAreTaken :
    awake mall = true ∧ mall.plant.exchange = none ∧ (∃ x, sending54.plant.exchange = some x) ∧
    (∃ f, ({ coldPlant with exchange := some ⟨.forward 230 17 134,
      { dest := 15, src := 250, kind := 0x62, tag := 17, payload := [] }, 1, some 40⟩ } : Plant).exchange
        = some ⟨.forward 230 17 134, f, 1, some 40⟩) ∧
    ∀ f sends window station tag addressed,
      sending54.plant.exchange ≠ some ⟨.forward station tag addressed, f, sends, window⟩ :=
  ⟨rfl, rfl, ⟨_, rfl⟩, ⟨_, rfl⟩, by intro f sends window station tag addressed h; simp [sending54] at h⟩

theorem test_witness_HoldIsAskedGrantedAndReleased :
    Serves (.holdAsk asker) serviceMall ∧ Serves (.holdEnd asker) serviceMall ∧ awake mall = true :=
  ⟨test_witness_Serves _, test_witness_Serves _, rfl⟩

theorem test_witness_CriticalReportsLockTheRecord : 1 ≤ (scenarioEntry generator).stepCount := by decide

theorem test_witness_FaultsAreAcknowledgedAndTrailRead :
    Serves (.faultAck asker 65535 255) serviceMall ∧ Serves (.trailRead asker 65535 4) serviceMall ∧ 65535 < 65536 :=
  ⟨test_witness_Serves _, test_witness_Serves _, by decide⟩

theorem test_witness_StatusIsAnsweredInParts :
    Serves (.statusAskSummary asker 0 0) mall ∧ Serves (.statusAskZone asker 32 0) mall ∧
      Serves (.statusAskOutput asker 160 0) mall ∧ Serves (.statusAskRun asker 0 0) mall ∧
      Serves (.statusAskBoard asker 8 0) mall ∧ Serves (.statusAskFirstFault asker 0 0) mall :=
  ⟨⟨rfl, rfl⟩, ⟨rfl, rfl⟩, ⟨rfl, rfl⟩, ⟨rfl, rfl⟩, ⟨rfl, rfl⟩, ⟨rfl, rfl⟩⟩

end Sys2Proof.Tests
end

section
/-! The zone records and the run's key stand: the Fault Capture Unit, the Output Resolver and the Start Scheduler leave them. -/

namespace Sys2Proof.Machine

/-- R36: which run is loaded: its scenario, served zones and TEST flag. -/
def runKey (s : State) : Nat × List Nat × Bool := (s.run.scenario, s.run.served, s.run.test)

/-- What only its owners may move (R2 to R25, R36 to R49): the zone records and the run's key. -/
def owned (s : State) : Sparse ZoneRec × Nat × List Nat × Bool := (s.zones, runKey s)

variable (s : State)

theorem owned_congr {s t : State} (hz : t.zones = s.zones) (hr : t.run = s.run) : owned t = owned s := by
  simp only [owned, runKey, hz, hr]

/-! ### The named writes -/

@[simp] theorem owned_modOut (o : Nat) (f : OutRec → OutRec) : owned (modOut o f s) = owned s := owned_congr rfl rfl
@[simp] theorem owned_setQueue (f : List QueueEntry → List QueueEntry) : owned (setQueue f s) = owned s :=
  owned_congr rfl rfl
@[simp] theorem owned_setWatches (f : List Watch → List Watch) : owned (setWatches f s) = owned s := owned_congr rfl rfl
@[simp] theorem owned_setFf (f : FfUnit → FfUnit) : owned (setFf f s) = owned s := owned_congr rfl rfl
@[simp] theorem owned_setBoardSource (b : Nat) (x : BoardSource) : owned (setBoardSource b x s) = owned s :=
  owned_congr rfl rfl
@[simp] theorem owned_setPlant (f : Plant → Plant) : owned (setPlant f s) = owned s := owned_congr rfl rfl
@[simp] theorem owned_setHold (f : Hold → Hold) : owned (setHold f s) = owned s := owned_congr rfl rfl
@[simp] theorem owned_setModule (m : Nat) (r : ModuleRec) : owned (setModule m r s) = owned s := owned_congr rfl rfl
@[simp] theorem owned_setPanel (f : Panel → Panel) : owned (setPanel f s) = owned s := owned_congr rfl rfl
@[simp] theorem owned_setCapture (f : Capture → Capture) : owned (setCapture f s) = owned s := owned_congr rfl rfl
@[simp] theorem owned_tellRunner (n : RunnerNotice) : owned (tellRunner n s) = owned s := owned_congr rfl rfl
@[simp] theorem owned_tellMonitor (n : MonitorNotice) : owned (tellMonitor n s) = owned s := owned_congr rfl rfl
@[simp] theorem owned_useFree : owned (useFree s) = owned s := owned_congr rfl rfl
@[simp] theorem owned_runnerIn (x : List RunnerNotice) : owned { s with runnerIn := x } = owned s := owned_congr rfl rfl
@[simp] theorem owned_monitorIn (x : List MonitorNotice) : owned { s with monitorIn := x } = owned s :=
  owned_congr rfl rfl

@[simp] theorem owned_setRun {f : Run → Run} (hsc : (f s.run).scenario = s.run.scenario)
    (hsv : (f s.run).served = s.run.served) (ht : (f s.run).test = s.run.test) : owned (setRun f s) = owned s := by
  simp only [owned, runKey, setRun_zones, setRun_run, hsc, hsv, ht]

@[simp] theorem owned_foldl {α : Type} {f : State → α → State} (hf : ∀ u x, owned (f u x) = owned u) (xs : List α) :
    owned (xs.foldl f s) = owned s := by
  induction xs generalizing s with
  | nil => rfl
  | cons x xs ih => exact (ih (f s x)).trans (hf s x)

@[simp] theorem owned_ite {c : Prop} [Decidable c] (a b : State) :
    owned (if c then a else b) = if c then owned a else owned b := apply_ite owned c a b

/-! ### The Fault Capture Unit -/

@[simp] theorem owned_sendReply (q : Requester) (r : Result) : owned (sendReply q r s) = owned s := owned_congr rfl rfl
@[simp] theorem owned_sendFail (a b c : Nat) (r : FailReason) : owned (sendFail a b c r s) = owned s :=
  owned_congr rfl rfl
@[simp] theorem owned_recordEntry (ev : Ev) (a b : Nat) : owned (recordEntry ev a b s) = owned s := by
  simp [recordEntry]

@[simp] theorem owned_takeCritical (u : State) (r : Report) : owned (takeCritical u r s) = owned s := by
  simp [takeCritical]

@[simp] theorem owned_report (r : Report) : owned (report r s) = owned s := by simp [report]
@[simp] theorem owned_raise (ev : Ev) (a b : Nat) : owned (raise ev a b s) = owned s := by simp [raise]
@[simp] theorem owned_unmapped (a b : Nat) : owned (unmapped a b s) = owned s := by simp [unmapped]

/-! ### The Output Resolver and the Start Scheduler -/

@[simp] theorem owned_setAct (o : Nat) (a : Act) : owned (setAct o a s) = owned s := by simp [setAct]
@[simp] theorem owned_dequeue (o : Nat) : owned (dequeue o s) = owned s := owned_congr rfl rfl
@[simp] theorem owned_requeueInPlace (o : Nat) (c : Cmd) : owned (requeueInPlace o c s) = owned s := owned_congr rfl rfl
@[simp] theorem owned_enqueue (o : Nat) (c : Cmd) : owned (enqueue o c s) = owned s := by simp [enqueue]

@[simp] theorem owned_tellReserve (o : Nat) : owned (tellReserve o s) = owned s := by
  unfold tellReserve
  split <;> simp

@[simp] theorem owned_tellSettled (o : Nat) : owned (tellSettled o s) = owned s := by simp [tellSettled]
@[simp] theorem owned_settleRecord (o : Nat) : owned (settleRecord o s) = owned s := by simp [settleRecord]

@[simp] theorem owned_admitFan (f : Nat) : owned (admitFan f s) = owned s := by
  unfold admitFan
  split <;> simp

@[simp] theorem owned_examineTimes (n b : Nat) : owned (examineTimes n b s) = owned s := by
  induction n generalizing s with
  | zero => rfl
  | succ n ih =>
    unfold examineTimes
    split <;> simp [ih]

@[simp] theorem owned_examine (b : Nat) : owned (examine b s) = owned s := by simp [examine]
@[simp] theorem owned_examineFor (o : Nat) : owned (examineFor o s) = owned s := by simp [examineFor]
@[simp] theorem owned_releaseSlot (o : Nat) : owned (releaseSlot o s) = owned s := by simp [releaseSlot]
@[simp] theorem owned_forgetWait (o : Nat) : owned (forgetWait o s) = owned s := owned_congr rfl rfl
@[simp] theorem owned_resumeWait (o : Nat) : owned (resumeWait o s) = owned s := by simp [resumeWait]
@[simp] theorem owned_warnHeld (f : Nat) : owned (warnHeld f s) = owned s := by simp [warnHeld]

@[simp] theorem owned_faultRecord (o : Nat) (code : FaultCode) (cause : Cause) :
    owned (faultRecord o code cause s) = owned s := by simp [faultRecord]

@[simp] theorem owned_toFault (o : Nat) (code : FaultCode) (cause : Cause) :
    owned (toFault o code cause s) = owned s := by simp [toFault]

@[simp] theorem owned_joinWait (f : Nat) : owned (joinWait f s) = owned s := by simp [joinWait]
@[simp] theorem owned_judgePath (f : Nat) : owned (judgePath f s) = owned s := by simp [judgePath]
@[simp] theorem owned_rejudge (d : Nat) : owned (rejudge d s) = owned s := by simp [rejudge]
@[simp] theorem owned_settle (o : Nat) : owned (settle o s) = owned s := by simp [settle]
@[simp] theorem owned_placeStart (o : Nat) (c : Cmd) : owned (placeStart o c s) = owned s := by simp [placeStart]

@[simp] theorem owned_place (o : Nat) : owned (place o s) = owned s := by
  unfold place
  dsimp only
  split <;> simp

@[simp] theorem owned_placeFromWait (o : Nat) : owned (placeFromWait o s) = owned s := by simp [placeFromWait]
@[simp] theorem owned_newAttempt (o : Nat) (way : Way) : owned (newAttempt o way s) = owned s := by simp [newAttempt]

@[simp] theorem owned_requeueStart (o : Nat) : owned (requeueStart o s) = owned s := by
  unfold requeueStart
  dsimp only
  split <;> simp

@[simp] theorem owned_onOutput (o : Nat) {work : State → State} (hw : ∀ u, owned (work u) = owned u) :
    owned (onOutput o work s) = owned s := by simp [onOutput, hw]

@[simp] theorem owned_supersede (o : Nat) (c : Cmd) : owned (supersede o c s) = owned s := by simp [supersede]
@[simp] theorem owned_toNone (was : Act) (o : Nat) : owned (toNone was o s) = owned s := by simp [toNone]
@[simp] theorem owned_takeCommand (o : Nat) : owned (takeCommand o s) = owned s := owned_congr rfl rfl

@[simp] theorem owned_actOnCommand (was : Act) (o : Nat) : owned (actOnCommand was o s) = owned s := by
  unfold actOnCommand
  split
  · simp
  · split <;> simp

@[simp] theorem owned_recomputeAll (os : List Nat) : owned (recomputeAll os s) = owned s := by simp [recomputeAll]
@[simp] theorem owned_recompute (o : Nat) : owned (recompute o s) = owned s := by simp [recompute]

@[simp] theorem owned_changeLayers (w : Nat → OutRec → OutRec) (os : List Nat) :
    owned (changeLayers w os s) = owned s := by simp [changeLayers]

@[simp] theorem owned_writeFire (o : Nat) (c : Option Cmd) : owned (writeFire o c s) = owned s := by simp [writeFire]
@[simp] theorem owned_beginFire : owned (beginFire s) = owned s := by simp [beginFire]
@[simp] theorem owned_endFire : owned (endFire s) = owned s := by simp [endFire]

@[simp] theorem owned_acceptCommand (o : Nat) (c : Cmd) : owned (acceptCommand o c s) = owned s := by
  unfold acceptCommand
  dsimp only
  split <;> simp

@[simp] theorem owned_sentEnding (o : Nat) (a : Ack) : owned (sentEnding o a s) = owned s := by
  unfold sentEnding
  dsimp only
  split
  · rfl
  · split <;> simp

@[simp] theorem owned_supersededEnding (o : Nat) (a : Ack) : owned (supersededEnding o a s) = owned s := by
  unfold supersededEnding
  split
  · rfl
  · split <;> simp

@[simp] theorem owned_exchangeEnded (o : Nat) (a : Ack) : owned (exchangeEnded o a s) = owned s := by
  unfold exchangeEnded
  split <;> simp

@[simp] theorem owned_proofExpired (o : Nat) : owned (proofExpired o s) = owned s := by
  unfold proofExpired
  refine owned_onOutput _ _ fun u => ?_
  split <;> simp

@[simp] theorem owned_takeView (o : Nat) (v : View) (valid unusable : Bool) :
    owned (takeView o v valid unusable s) = owned s := by simp [takeView]

@[simp] theorem owned_readInFault (o : Nat) (old : OutRec) (c : Cmd) : owned (readInFault o old c s) = owned s := by
  simp [readInFault]

@[simp] theorem owned_depart (o : Nat) (c : Cmd) : owned (depart o c s) = owned s := by simp [depart]

@[simp] theorem owned_readInState (o : Nat) (old : OutRec) (c : Cmd) : owned (readInState o old c s) = owned s := by
  unfold readInState
  dsimp only
  split <;> simp

@[simp] theorem owned_afterReading (o : Nat) (old : OutRec) : owned (afterReading o old s) = owned s := by
  unfold afterReading
  split <;> try split
  all_goals simp

@[simp] theorem owned_examineIfFallen (o before : Nat) : owned (examineIfFallen o before s) = owned s := by
  simp [examineIfFallen]

@[simp] theorem owned_takeReading (o b : Nat) : owned (takeReading o b s) = owned s := by simp [takeReading]
@[simp] theorem owned_takeUnusable (o : Nat) : owned (takeUnusable o s) = owned s := by simp [takeUnusable]
@[simp] theorem owned_outputLost (o : Nat) : owned (outputLost o s) = owned s := by simp [outputLost]
@[simp] theorem owned_outputsLost (m : Nat) : owned (outputsLost m s) = owned s := by simp [outputsLost]
@[simp] theorem owned_outputReturned (o : Nat) : owned (outputReturned o s) = owned s := by simp [outputReturned]
@[simp] theorem owned_outputsReturned (m : Nat) : owned (outputsReturned m s) = owned s := by simp [outputsReturned]

@[simp] theorem owned_takeReadings (m : Nat) (bs : List Byte) : owned (takeReadings m bs s) = owned s := by
  simp [takeReadings]

@[simp] theorem owned_returnToWait (f : Nat) : owned (returnToWait f s) = owned s := by simp [returnToWait]
@[simp] theorem owned_restageBoard (b : Nat) : owned (restageBoard b s) = owned s := by simp [restageBoard]
@[simp] theorem owned_examineAndWarn (b : Nat) : owned (examineAndWarn b s) = owned s := by simp [examineAndWarn]

@[simp] theorem owned_sourceChange (b : Nat) (src : BoardSource) : owned (sourceChange b src s) = owned s := by
  simp [sourceChange]

@[simp] theorem owned_replaceQueued (o : Nat) : owned (replaceQueued o s) = owned s := by
  unfold replaceQueued
  dsimp only
  split <;> simp

@[simp] theorem owned_reassertOutput (o : Nat) : owned (reassertOutput o s) = owned s := by
  unfold reassertOutput
  dsimp only
  split <;> simp

@[simp] theorem owned_reassert : owned (reassert s) = owned s := by simp [reassert]
@[simp] theorem owned_boardWritten (b : Nat) : owned (boardWritten b s) = owned s := by simp [boardWritten]

@[simp] theorem owned_rebuildRecord (o : Nat) (old : OutputEntry) : owned (rebuildRecord o old s) = owned s := by
  simp [rebuildRecord]

@[simp] theorem owned_putOutput (o : Nat) (new : OutputEntry) : owned (putOutput o new s) = owned s := by
  unfold putOutput
  dsimp only
  split
  · rfl
  · exact owned_setAct s o .unknown

@[simp] theorem owned_outputWritten (o : Nat) (new : OutputEntry) : owned (outputWritten o new s) = owned s := by
  simp [outputWritten]

end Sys2Proof.Machine
end

section
/-! The zone records and the run's key stand: Runner (but for load, switch and end), Monitor, Plant Link Controller,
Firefighter Control Unit and Panel Link Interface leave them. -/

namespace Sys2Proof.Machine

variable (s : State)

/-! ### The Scenario Runner, but for load, switch and end -/

@[simp] theorem owned_recordRunFault (o : Nat) : owned (recordRunFault o s) = owned s := by simp [recordRunFault]
@[simp] theorem owned_extractLost (duty : Nat) : owned (extractLost duty s) = owned s := by simp [extractLost]
@[simp] theorem owned_tellStandby (duty : Nat) : owned (tellStandby duty s) = owned s := by simp [tellStandby]

@[simp] theorem owned_engageStandby (standby duty : Nat) (c : Cmd) :
    owned (engageStandby standby duty c s) = owned s := by simp [engageStandby]

@[simp] theorem owned_substitute (duty : Nat) (code : FaultCode) : owned (substitute duty code s) = owned s := by
  unfold substitute
  dsimp only
  split <;> simp

@[simp] theorem owned_standbyFaulted (o : Nat) : owned (standbyFaulted o s) = owned s := by
  unfold standbyFaulted
  split <;> simp

@[simp] theorem owned_takeFault (o : Nat) (code : FaultCode) : owned (takeFault o code s) = owned s := by
  simp [takeFault]

@[simp] theorem owned_leaveFlight (o : Nat) : owned (leaveFlight o s) = owned s := by simp [leaveFlight]

@[simp] theorem owned_takeReport (n : RunnerNotice) : owned (takeReport n s) = owned s := by
  unfold takeReport
  cases n <;> simp

@[simp] theorem owned_takeReportsTimes (n : Nat) : owned (takeReportsTimes n s) = owned s := by
  induction n generalizing s with
  | zero => rfl
  | succ n ih =>
    unfold takeReportsTimes
    split <;> simp [ih]

@[simp] theorem owned_takeReports : owned (takeReports s) = owned s := by simp [takeReports]
@[simp] theorem owned_joinFlight (i : Nat) : owned (joinFlight i s) = owned s := by simp [joinFlight]

@[simp] theorem owned_placeStep (i n : Nat) (r : OutRec) : owned (placeStep i n r s) = owned s := by
  unfold placeStep
  dsimp only
  split <;> simp

@[simp] theorem owned_followStep (duty : Nat) (c : Cmd) : owned (followStep duty c s) = owned s := by
  simp [followStep]

@[simp] theorem owned_issueStep (i : Nat) : owned (issueStep i s) = owned s := by
  unfold issueStep
  dsimp only
  split <;> simp

@[simp] theorem owned_establish : owned (establish s) = owned s := by simp [establish]
@[simp] theorem owned_issueAtCursor : owned (issueAtCursor s) = owned s := by simp [issueAtCursor]

@[simp] theorem owned_advanceTimes (n : Nat) : owned (advanceTimes n s) = owned s := by
  induction n generalizing s with
  | zero => rfl
  | succ n ih => simp [advanceTimes, ih]

@[simp] theorem owned_advance : owned (advance s) = owned s := by simp [advance]
@[simp] theorem owned_takeRunner (n : RunnerNotice) : owned (takeRunner n s) = owned s := by simp [takeRunner]
@[simp] theorem owned_delayExpired : owned (delayExpired s) = owned s := by simp [delayExpired]
@[simp] theorem owned_deadlineExpired : owned (deadlineExpired s) = owned s := by simp [deadlineExpired]
@[simp] theorem owned_releaseFans (fs : List Nat) : owned (releaseFans fs s) = owned s := by simp [releaseFans]
@[simp] theorem owned_engageReserve (f z : Nat) : owned (engageReserve f z s) = owned s := by simp [engageReserve]

/-! ### The Extract Monitor, and the notices between blocks -/

@[simp] theorem owned_modWatch (z : Nat) (f : Watch → Watch) : owned (modWatch z f s) = owned s := by simp [modWatch]
@[simp] theorem owned_deficitEnds (z : Nat) : owned (deficitEnds z s) = owned s := by simp [deficitEnds]
@[simp] theorem owned_exhaust (w : Watch) : owned (exhaust w s) = owned s := by simp [exhaust]

@[simp] theorem owned_engageTimes (n z : Nat) : owned (engageTimes n z s) = owned s := by
  induction n generalizing s with
  | zero => rfl
  | succ n ih =>
    unfold engageTimes
    split <;> simp [ih]

@[simp] theorem owned_engagementStep (z : Nat) : owned (engagementStep z s) = owned s := by simp [engagementStep]
@[simp] theorem owned_deficitBegins (w : Watch) : owned (deficitBegins w s) = owned s := by simp [deficitBegins]

@[simp] theorem owned_deficitTest (z : Nat) : owned (deficitTest z s) = owned s := by
  unfold deficitTest
  split <;> simp

@[simp] theorem owned_startWatching : owned (startWatching s) = owned s := by simp [startWatching]

@[simp] theorem owned_reserveSettled (f : Nat) : owned (reserveSettled f s) = owned s := by
  unfold reserveSettled
  split <;> simp

@[simp] theorem owned_takeMonitor (n : MonitorNotice) : owned (takeMonitor n s) = owned s := by
  unfold takeMonitor
  cases n <;> simp

@[simp] theorem owned_drainTimes (n : Nat) : owned (drainTimes n s) = owned s := by
  induction n generalizing s with
  | zero => rfl
  | succ n ih =>
    unfold drainTimes
    split
    · simp [ih]
    · split <;> simp [ih]

@[simp] theorem owned_drain : owned (drain s) = owned s := owned_drainTimes s Config.cascadeFuel

/-! ### The Plant Link Controller -/

@[simp] theorem owned_startPacer : owned (startPacer s) = owned s := owned_setPlant s _
@[simp] theorem owned_beginExchange (k : ExchangeKind) (f : Frame) : owned (beginExchange k f s) = owned s :=
  owned_setPlant s _
@[simp] theorem owned_nextTag : owned (nextTag s) = owned s := owned_setPlant s _

@[simp] theorem owned_grantCommand : owned (grantCommand s) = owned s := by
  unfold grantCommand
  split <;> simp

@[simp] theorem owned_grantPoll : owned (grantPoll s) = owned s := by
  unfold grantPoll
  split <;> simp

@[simp] theorem owned_grantForward : owned (grantForward s) = owned s := by
  unfold grantForward
  split <;> simp

@[simp] theorem owned_setBurst (n : Nat) : owned (setBurst n s) = owned s := owned_setPlant s _
@[simp] theorem owned_arbitrate : owned (arbitrate s) = owned s := by simp [arbitrate]
@[simp] theorem owned_moduleMissing (m : Nat) : owned (moduleMissing m s) = owned s := by simp [moduleMissing]
@[simp] theorem owned_pollMissed (m : Nat) : owned (pollMissed m s) = owned s := by simp [pollMissed]
@[simp] theorem owned_clearMisses (m : Nat) : owned (clearMisses m s) = owned s := by simp [clearMisses]
@[simp] theorem owned_modulePresent (m : Nat) : owned (modulePresent m s) = owned s := by simp [modulePresent]

@[simp] theorem owned_stateDecoded (m : Nat) (bs : List Byte) : owned (stateDecoded m bs s) = owned s := by
  simp [stateDecoded]

@[simp] theorem owned_endExchange : owned (endExchange s) = owned s := owned_setPlant s _
@[simp] theorem owned_countError : owned (countError s) = owned s := owned_setPlant s _
@[simp] theorem owned_countStray : owned (countStray s) = owned s := owned_setPlant s _

@[simp] theorem owned_commandAnswered (o m : Nat) (a : Ack) : owned (commandAnswered o m a s) = owned s := by
  simp [commandAnswered]

@[simp] theorem owned_pollAnswered (m : Nat) (bs : List Byte) : owned (pollAnswered m bs s) = owned s := by
  simp [pollAnswered]

@[simp] theorem owned_forwardAnswered (x : Exchange) (station tag addressed kind : Nat) (payload : List Byte) :
    owned (forwardAnswered x station tag addressed kind payload s) = owned s := by simp [forwardAnswered]

@[simp] theorem owned_windowExpired (x : Exchange) : owned (windowExpired x s) = owned s := by
  unfold windowExpired
  split <;> simp

@[simp] theorem owned_offerForward (e : ForwardEntry) : owned (offerForward e s) = owned s := by simp [offerForward]

@[simp] theorem owned_refuseEntries (es : List ForwardEntry) (r : FailReason) :
    owned (refuseEntries es r s) = owned s := by simp [refuseEntries]

@[simp] theorem owned_answerAsk (r : Result) : owned (answerAsk r s) = owned s := by
  unfold answerAsk
  split <;> simp

@[simp] theorem owned_grantHold : owned (grantHold s) = owned s := by simp [grantHold]
@[simp] theorem owned_freeHold : owned (freeHold s) = owned s := by simp [freeHold]

@[simp] theorem owned_holdProgress : owned (holdProgress s) = owned s := by
  unfold holdProgress
  split
  · rfl
  · split <;> simp

@[simp] theorem owned_releaseHold (r : ReleaseReason) : owned (releaseHold r s) = owned s := owned_setHold s _
@[simp] theorem owned_refuseHold : owned (refuseHold s) = owned s := by simp [refuseHold]

@[simp] theorem owned_revokeHold : owned (revokeHold s) = owned s := by
  unfold revokeHold
  split <;> simp

@[simp] theorem owned_endStep : owned (endStep s) = owned s := by simp [endStep]

/-! ### The Firefighter Control Unit -/

@[simp] theorem owned_handFf : owned (handFf s) = owned s := by simp [handFf]

@[simp] theorem owned_superviseFrame : owned (superviseFrame s) = owned s := by
  unfold superviseFrame
  dsimp only
  split <;> simp

@[simp] theorem owned_takeAllStop (active : Bool) : owned (takeAllStop active s) = owned s := by simp [takeAllStop]

@[simp] theorem owned_takeZoneSwitch (z : Nat) (p : ZoneSwitch) : owned (takeZoneSwitch z p s) = owned s := by
  simp [takeZoneSwitch]

@[simp] theorem owned_takeOutputSwitch (o : Nat) (p : OutputSwitch) : owned (takeOutputSwitch o p s) = owned s := by
  simp [takeOutputSwitch]

@[simp] theorem owned_takeSwitch (type number position : Nat) :
    owned (takeSwitch type number position s) = owned s := by
  unfold takeSwitch
  split
  · split <;> simp
  split
  · split <;> simp
  · simp

@[simp] theorem owned_takeSwitches (bs : List Byte) : owned (takeSwitches bs s) = owned s := by
  induction bs, s using takeSwitches.induct with
  | case1 s a b c rest ih => simpa [takeSwitches] using ih
  | case2 s bs hne => simp [takeSwitches]

@[simp] theorem owned_takeFfContent (payload : List Byte) : owned (takeFfContent payload s) = owned s := by
  unfold takeFfContent
  split <;> simp

@[simp] theorem owned_ffStateTaken (src : Nat) (payload : List Byte) :
    owned (ffStateTaken src payload s) = owned s := by
  simp [ffStateTaken]

@[simp] theorem owned_panelLost : owned (panelLost s) = owned s := by simp [panelLost]
@[simp] theorem owned_ffEntryWritten (o : Nat) : owned (ffEntryWritten o s) = owned s := by simp [ffEntryWritten]

/-! ### The Panel Link Interface and the Forwarding Map -/

@[simp] theorem owned_leaveService : owned (leaveService s) = owned s := owned_setPanel s _
@[simp] theorem owned_answer (req : Requester) (r : Result) : owned (answer req r s) = owned s := by simp [answer]

@[simp] theorem owned_answerFrame (req : Requester) (kind : Nat) (payload : List Byte) (after : AfterSent) :
    owned (answerFrame req kind payload after s) = owned s := by simp [answerFrame]

@[simp] theorem owned_answerWrite (table : Option TableId) (req : Requester) (r : Result) :
    owned (answerWrite table req r s) = owned s := by simp [answerWrite]

@[simp] theorem owned_answerStatus (req : Requester) (selector index part : Nat) (inRange : Bool) (bs : List Byte) :
    owned (answerStatus req selector index part inRange bs s) = owned s := by simp [answerStatus, markClearing]

@[simp] theorem owned_joinInbound (f : Frame) : owned (joinInbound f s) = owned s := owned_setPanel s _
@[simp] theorem owned_unmappedOpen (a b : Option Nat) : owned (unmappedOpen a b s) = owned s := by simp [unmappedOpen]

@[simp] theorem owned_supplyStateTaken (b source : Nat) : owned (supplyStateTaken b source s) = owned s := by
  unfold supplyStateTaken
  split <;> simp

@[simp] theorem owned_readBld (bs : List Byte) (acc : List (Nat × Option Cmd)) :
    owned (readBld bs acc s).2 = owned s := by
  induction bs, acc, s using readBld.induct with
  | case1 acc s a b rest hb ih => simpa [readBld, hb] using ih
  | case2 acc s a b rest hb ih => simpa [readBld, hb] using ih
  | case3 bs acc s hne => simp [readBld]

@[simp] theorem owned_bldCmdTaken (src : Nat) (payload : List Byte) : owned (bldCmdTaken src payload s) = owned s := by
  simp [bldCmdTaken]

@[simp] theorem owned_mapFrame (f : Frame) : owned (mapFrame f s) = owned s := by
  unfold mapFrame
  split
  · simp
  · split <;> simp

@[simp] theorem owned_candidateTaken (f : Frame) : owned (candidateTaken f s) = owned s := by simp [candidateTaken]

@[simp] theorem owned_afterSent (a : AfterSent) : owned (afterSent a s) = owned s := by
  unfold afterSent
  split
  · rfl
  · simp
  · exact owned_congr rfl rfl

@[simp] theorem owned_headSent : owned (headSent s) = owned s := by
  unfold headSent
  split <;> simp

@[simp] theorem owned_takeReply (x : Exchange) (kind : Nat) (payload : List Byte) :
    owned (takeReply x kind payload s) = owned s := by
  unfold takeReply
  split
  · simp
  · split <;> try split
    all_goals simp

@[simp] theorem owned_plantBytes (bs : List Byte) : owned (plantBytes bs s) = owned s := by
  unfold plantBytes
  split <;> try split
  all_goals simp

@[simp] theorem owned_refuseRequest (f : Frame) (r : Result) : owned (refuseRequest f r s) = owned s := by
  simp [refuseRequest]

@[simp] theorem owned_takeHead : owned (takeHead s) = owned s := by
  unfold takeHead
  split
  · rfl
  · unfold takeRequest
    split
    · split
      · simp
      · split <;> simp
    · rfl

end Sys2Proof.Machine
end

section
/-! What requests and commands leave of the zone records and the run's key. Zone Intake leaves the run's key, and the load and
the end of a run leave the zone records. -/

namespace Sys2Proof.Machine

variable (s : State)

/-! ### Requests, modes and writes -/

@[simp] theorem owned_changeMode (m : Mode) : owned (changeMode m s) = owned s := by
  unfold changeMode
  exact (owned_raise _ _ _ _).trans (owned_congr rfl rfl)

@[simp] theorem owned_interruptWrite : owned (interruptWrite s) = owned s := by
  unfold interruptWrite
  split
  · rfl
  · exact owned_congr rfl rfl

@[simp] theorem owned_stepCursor : owned (stepCursor s) = owned s := owned_congr rfl rfl

@[simp] theorem owned_tickTimers : owned (tickTimers s) = owned s := by simp [owned, runKey, tickTimers]
@[simp] theorem owned_tickUptime : owned (tickUptime s) = owned s := owned_congr rfl rfl

@[simp] theorem owned_bringIntoForce (w : NvWrite) : owned (bringIntoForce w s) = owned s := by
  unfold bringIntoForce
  dsimp only
  split
  · simp only [owned_ffEntryWritten, owned_outputWritten]
    exact owned_congr rfl rfl
  · rw [owned_boardWritten]
    exact owned_congr rfl rfl
  · exact owned_congr rfl rfl

@[simp] theorem owned_serveNvWrite (w : NvWrite) (readBackEqual : Bool) :
    owned (serveNvWrite w readBackEqual s) = owned s := by
  unfold serveNvWrite
  dsimp only
  split
  · simp only [owned_endStep, owned_answerWrite, owned_stepCursor, owned_drain, owned_bringIntoForce]
    exact owned_congr rfl rfl
  · simp only [owned_answerWrite, owned_useFree]
    exact owned_congr rfl rfl

@[simp] theorem owned_serveOutputReset (req : Requester) (o : Nat) : owned (serveOutputReset req o s) = owned s := by
  simp [serveOutputReset]

@[simp] theorem owned_serveFaultAck (req : Requester) (sequence later : Nat) :
    owned (serveFaultAck req sequence later s) = owned s := by
  unfold serveFaultAck
  split <;> simp

@[simp] theorem owned_serveTrailRead (req : Requester) (start count : Nat) :
    owned (serveTrailRead req start count s) = owned s := by simp [serveTrailRead]

@[simp] theorem owned_serveEnterService (req : Requester) : owned (serveEnterService req s) = owned s := by
  unfold serveEnterService
  split <;> simp

@[simp] theorem owned_serveEnterNormal (req : Requester) : owned (serveEnterNormal req s) = owned s := by
  unfold serveEnterNormal
  split
  · simp
  · split
    · simp
    · exact owned_congr rfl rfl

@[simp] theorem owned_serveRestart (req : Requester) : owned (serveRestart req s) = owned s := by
  unfold serveRestart
  split <;> simp

@[simp] theorem owned_serveTsel (req : Requester) (table index : Nat) :
    owned (serveTsel req table index s) = owned s := by
  unfold serveTsel
  split
  · simp
  split
  · simp
  split
  · rw [owned_answer]
    exact owned_congr rfl rfl
  · simp

@[simp] theorem owned_serveTrd (req : Requester) : owned (serveTrd req s) = owned s := by
  unfold serveTrd
  split
  · simp
  · split <;> simp

@[simp] theorem owned_serveTwr (req : Requester) (index : Nat) (entry : List Byte) :
    owned (serveTwr req index entry s) = owned s := by
  unfold serveTwr
  split
  · simp
  · exact owned_congr rfl rfl

@[simp] theorem owned_serveHoldAsk (req : Requester) : owned (serveHoldAsk req s) = owned s := by
  unfold serveHoldAsk
  split <;> simp

@[simp] theorem owned_holdEnded : owned (holdEnded s) = owned s := by
  unfold holdEnded
  split <;> simp

@[simp] theorem owned_serveHoldEnd (req : Requester) : owned (serveHoldEnd req s) = owned s := by simp [serveHoldEnd]

@[simp] theorem owned_enterServing (row : Instr) : owned (enterServing row s) = owned s := owned_setPanel s _

/-! ### Commands of the plant link -/

@[simp] theorem owned_sendComplete : owned (sendComplete s) = owned s := by
  unfold sendComplete
  split <;> simp

@[simp] theorem owned_ackTaken (result : Nat) : owned (ackTaken result s) = owned s := by
  unfold ackTaken
  split
  · split <;> simp
  · simp

@[simp] theorem owned_stateTaken (readings : List Byte) : owned (stateTaken readings s) = owned s := by
  unfold stateTaken
  split <;> simp

@[simp] theorem owned_forwardTaken (kind : Nat) (payload : List Byte) :
    owned (forwardTaken kind payload s) = owned s := by
  unfold forwardTaken
  split
  · split <;> simp
  · simp

@[simp] theorem owned_forwardWaited (place : Nat) : owned (forwardWaited place s) = owned s := by
  unfold forwardWaited
  split <;> simp

/-! ### Zone Intake leaves the run alone -/

@[simp] theorem owned_setZone_snd (z : Nat) (r : ZoneRec) : (owned (setZone z r s)).2 = (owned s).2 := rfl

@[simp] theorem owned_tellConfirmed (z : Nat) : owned (tellConfirmed z s) = owned s := by
  unfold tellConfirmed
  dsimp only
  split
  · exact (owned_congr rfl rfl).trans (owned_revokeHold s)
  · exact owned_revokeHold s

@[simp] theorem owned_tellReset (z : Nat) : owned (tellReset z s) = owned s := by
  unfold tellReset
  split
  · exact owned_congr rfl rfl
  · rfl

@[simp] theorem owned_confirmZone_snd (z : Nat) (a : AlarmSource) (set : List AlarmSource) :
    (owned (confirmZone z a set s)).2 = (owned s).2 := by simp [confirmZone]

@[simp] theorem owned_alarmArrival_snd (z : Nat) (a : AlarmSource) :
    (owned (alarmArrival z a s)).2 = (owned s).2 := by
  unfold alarmArrival
  dsimp only
  split
  case h_5 | h_6 => split <;> simp
  all_goals simp

@[simp] theorem owned_zoneEventTaken_snd (z source cls : Nat) :
    (owned (zoneEventTaken z source cls s)).2 = (owned s).2 := by
  unfold zoneEventTaken
  split
  · split <;> simp
  · simp

@[simp] theorem owned_zoneResetTaken_snd (z : Nat) : (owned (zoneResetTaken z s)).2 = (owned s).2 := by
  unfold zoneResetTaken
  dsimp only
  split
  · simp
  split
  · simp
  · split <;> simp

@[simp] theorem owned_isolateZone_snd (z : Nat) : (owned (isolateZone z s).1).2 = (owned s).2 := by
  unfold isolateZone
  dsimp only
  split <;> simp

@[simp] theorem owned_deisolateZone_snd (z : Nat) : (owned (deisolateZone z s)).2 = (owned s).2 := by
  unfold deisolateZone
  dsimp only
  split
  · rfl
  split
  · simp
  · split <;> simp

@[simp] theorem owned_serveIsolateOn_snd (req : Requester) (z : Nat) :
    (owned (serveIsolateOn req z s)).2 = (owned s).2 := by
  unfold serveIsolateOn
  split <;> simp

@[simp] theorem owned_serveIsolateOff_snd (req : Requester) (z : Nat) :
    (owned (serveIsolateOff req z s)).2 = (owned s).2 := by
  unfold serveIsolateOff
  split <;> simp

@[simp] theorem owned_takeArrival_snd (f : Frame) : (owned (takeArrival f s)).2 = (owned s).2 := by
  unfold takeArrival
  dsimp only
  split
  · split <;> simp
  split
  · split <;> simp
  split
  · split <;> simp
  · split <;> simp

@[simp] theorem owned_panelBytes_snd (bs : List Byte) : (owned (panelBytes bs s)).2 = (owned s).2 := by
  unfold panelBytes
  split
  · rfl
  · simp
  · unfold sortFrame
    repeat' split
    all_goals simp

/-! ### Load and end of a run leave the zones alone -/

@[simp] theorem owned_setRun_fst (f : Run → Run) : (owned (setRun f s)).1 = (owned s).1 := rfl

@[simp] theorem owned_loadRun_fst (test : Bool) (scenario : Nat) (served : List Nat) :
    (owned (loadRun test scenario served s)).1 = (owned s).1 := by
  unfold loadRun
  dsimp only
  split <;> simp

@[simp] theorem owned_endRun_fst : (owned (endRun s)).1 = (owned s).1 := by
  unfold endRun
  dsimp only
  rw [owned_setRun_fst]
  split <;> simp

@[simp] theorem owned_serveTestRun_fst (req : Requester) (n : Nat) :
    (owned (serveTestRun req n s)).1 = (owned s).1 := by
  unfold serveTestRun instructTest
  repeat' split
  all_goals simp

@[simp] theorem owned_serveTestEnd_fst (req : Requester) : (owned (serveTestEnd req s)).1 = (owned s).1 := by
  unfold serveTestEnd instructEnd
  repeat' split
  all_goals simp

end Sys2Proof.Machine
end

section
/-! Which commands move the zone records and the run (O15), and that every step keeps the zone records legal (O7). -/

namespace Sys2Proof.Machine

/-! ### Commands -/

variable {s t : State}

/-- A command that acts keeps what its work keeps: a stopped sequencer changes nothing (R176). -/
theorem acting_keeps {β : Type} (π : State → β) {work : State → State} (he : acting work s = .next t)
    (hw : ∀ u, π (work u) = π u) : π t = π s := by
  cases he
  split
  · exact hw s
  · rfl

/-- A request row keeps what its service keeps. -/
theorem serving_keeps {β : Type} (π : State → β) {row : Instr} {work : State → State}
    (he : serving row work s = .next t)
    (hs : ∀ u, π (enterServing row u) = π u) (hw : ∀ u, π (work u) = π u) : π t = π s := by
  refine acting_keeps π he fun u => ?_
  split
  · exact (hw _).trans (hs u)
  · rfl

theorem serving_owned {row : Instr} {work : State → State} (he : serving row work s = .next t)
    (hw : ∀ u, owned (work u) = owned u) : owned t = owned s :=
  serving_keeps owned he (fun u => owned_enterServing u row) hw

/-- R155: a STATUS_ASK only answers. -/
theorem statusAsk_owned {row : Instr} {req : Requester} {selector index part : Nat} {inRange : Bool}
    {bs : State → List Byte}
    (he : serving row (fun u => answerStatus req selector index part inRange (bs u) u) s = .next t) :
    owned t = owned s :=
  serving_owned he fun u => owned_answerStatus u req selector index part inRange (bs u)

/-- Which of the zone records and the run's key a command may move (R2 to R25, R36 to R49, R176). -/
inductive Moves where
  | neither | zones | run | both

def movedBy : Instr → Moves
  | .powerUp _ | .resetLineRelease _ | .warmStart _ | .placementDecision _ | .validationComplete => .both
  | .panelFrameReceived _ | .zoneEvent _ _ _ | .zoneReset _ | .zoneIsolateOn _ _ | .zoneIsolateOff _ _ => .zones
  | .testRun _ _ | .testEnd _ => .run
  | _ => .neither

theorem exec_owned {c : Instr} (hc : movedBy c = .neither) (he : exec c s = .next t) : owned t = owned s := by
  cases c with
  | powerUp | resetLineRelease | warmStart | placementDecision | validationComplete => cases hc
  | panelFrameReceived | zoneEvent | zoneReset | zoneIsolateOn | zoneIsolateOff => cases hc
  | testRun | testEnd => cases hc
  | resetLineAssert => cases he; exact (owned_congr rfl rfl).trans (owned_interruptWrite s)
  | powerFailure => cases he; exact (owned_congr rfl rfl).trans (owned_interruptWrite s)
  | uptimeTick => cases he; simp
  | requestArrival f => exact acting_keeps owned he fun u => owned_joinInbound u f
  | requestTaken => exact acting_keeps owned he owned_takeHead
  | outboundFrameSent => exact acting_keeps owned he owned_headSent
  | supplyState b x =>
    exact acting_keeps owned (work := fun s => endStep (supplyStateTaken b x s)) he fun u => by simp
  | ffState x p =>
    exact acting_keeps owned (work := fun s => endStep (ffStateTaken x p s)) he fun u => by simp
  | bldCmd x p =>
    exact acting_keeps owned (work := fun s => endStep (bldCmdTaken x p s)) he fun u => by simp
  | outputReset q o => exact serving_owned he fun u => owned_serveOutputReset u q o
  | faultAck q n l => exact serving_owned he fun u => owned_serveFaultAck u q n l
  | trailRead q n k => exact serving_owned he fun u => owned_serveTrailRead u q n k
  | statusAskSummary q i p => exact statusAsk_owned (bs := summaryReport) he
  | statusAskZone q i p => exact statusAsk_owned (bs := fun u => zoneReport u i) he
  | statusAskOutput q i p => exact statusAsk_owned (bs := fun u => outputReport u i) he
  | statusAskRun q i p => exact statusAsk_owned (bs := runReport) he
  | statusAskBoard q i p => exact statusAsk_owned (bs := fun u => boardReport u i) he
  | statusAskFirstFault q i p => exact statusAsk_owned (bs := firstFaultReport) he
  | enterService q => exact serving_owned he fun u => owned_serveEnterService u q
  | enterNormal q => exact serving_owned he fun u => owned_serveEnterNormal u q
  | modeRestart q => exact serving_owned he fun u => owned_serveRestart u q
  | tsel q x i => exact serving_owned he fun u => owned_serveTsel u q x i
  | trd q => exact serving_owned he fun u => owned_serveTrd u q
  | twr q i e => exact serving_owned he fun u => owned_serveTwr u q i e
  | holdAsk q => exact serving_owned he fun u => owned_serveHoldAsk u q
  | holdEnd q => exact serving_owned he fun u => owned_serveHoldEnd u q
  | nvWriteComplete b =>
    refine acting_keeps owned (work := fun s => match s.nvWrite with
      | some w => serveNvWrite w b s
      | none => s) he fun u => ?_
    split <;> simp
  | forwardCandidate f => exact acting_keeps owned he fun u => owned_candidateTaken u f
  | delayTimerExpiry =>
    exact acting_keeps owned (work := fun s => if s.run.delay = some 0 then endStep (delayExpired s) else s) he
      fun u => by simp
  | establishDeadlineExpiry =>
    exact acting_keeps owned (work := fun s =>
      if s.run.state = .staging ∧ s.run.deadline = some 0 then endStep (deadlineExpired s) else s) he fun u => by simp
  | plantSendComplete => exact acting_keeps owned he owned_sendComplete
  | plantFrameReceived bs => exact acting_keeps owned he fun u => owned_plantBytes u bs
  | cmdAck ch r => exact acting_keeps owned he fun u => owned_ackTaken u r
  | stateReply bs => exact acting_keeps owned he fun u => owned_stateTaken u bs
  | forwardReply k p => exact acting_keeps owned he fun u => owned_forwardTaken u k p
  | proofTimerExpiry o =>
    exact acting_keeps owned (work := fun s =>
      if (outRec s o).timer = some 0 then endStep (proofExpired o s) else s) he fun u => by simp
  | replyWindowExpiry =>
    refine acting_keeps owned (work := fun s => match s.plant.exchange with
      | some x => if x.window.isSome then endStep (windowExpired x s) else s
      | none => s) he fun u => ?_
    split <;> simp
  | pacerTimerExpiry =>
    exact acting_keeps owned (work := fun s =>
      if s.plant.pacer.isSome then endStep (setPlant (fun p => { p with pacer := none, ready := true }) s) else s) he
      fun u => by simp
  | forwardWaitExpiry n => exact acting_keeps owned he fun u => owned_forwardWaited u n
  | holdTimerExpiry =>
    exact acting_keeps owned (work := fun s =>
      if s.plant.hold.state = .held ∧ s.plant.hold.timer = some 0 then endStep (releaseHold .timeout s) else s) he
      fun u => by simp
  | startHeld f => exact acting_keeps owned he fun u => owned_warnHeld u f
  | supervisionTimerExpiry =>
    exact acting_keeps owned (work := fun s => if s.ff.timer = some 0 then panelLost s else s) he fun u => by simp

/-- Zone Intake's commands leave the run's key alone. -/
theorem exec_runKey {c : Instr} (hc : movedBy c = .zones) (he : exec c s = .next t) : runKey t = runKey s := by
  have hs : ∀ row u, (owned (enterServing row u)).2 = (owned u).2 := fun row u => by rw [owned_enterServing]
  cases c with
  | panelFrameReceived bs => exact acting_keeps (fun u => (owned u).2) he fun u => owned_panelBytes_snd u bs
  | zoneEvent z a k =>
    exact acting_keeps (fun u => (owned u).2) (work := fun s => endStep (zoneEventTaken z a k s)) he fun u => by simp
  | zoneReset z => exact acting_keeps (fun u => (owned u).2) he fun u => owned_zoneResetTaken_snd u z
  | zoneIsolateOn q z =>
    exact serving_keeps (fun u => (owned u).2) he (hs _) fun u => owned_serveIsolateOn_snd u q z
  | zoneIsolateOff q z =>
    exact serving_keeps (fun u => (owned u).2) he (hs _) fun u => owned_serveIsolateOff_snd u q z
  | _ => cases hc

/-- A test run and its end leave the zone records alone. -/
theorem exec_zones {c : Instr} (hc : movedBy c = .run) (he : exec c s = .next t) : t.zones = s.zones := by
  have hs : ∀ row u, (owned (enterServing row u)).1 = (owned u).1 := fun row u => by rw [owned_enterServing]
  cases c with
  | testRun q n => exact serving_keeps (fun u => (owned u).1) he (hs _) fun u => owned_serveTestRun_fst u q n
  | testEnd q => exact serving_keeps (fun u => (owned u).1) he (hs _) fun u => owned_serveTestEnd_fst u q
  | _ => cases hc

/-- Only the commands that may move them move the zone records. -/
theorem zones_of_movedBy {c : Instr} (he : exec c s = .next t) :
    match movedBy c with
    | .neither | .run => t.zones = s.zones
    | .zones | .both => True := by
  split
  case h_1 hc => exact congrArg Prod.fst (exec_owned hc he)
  case h_2 hc => exact exec_zones hc he
  all_goals trivial

/-- Only the commands that may move it move the run's key. -/
theorem runKey_of_movedBy {c : Instr} (he : exec c s = .next t) :
    match movedBy c with
    | .neither | .zones =>
      t.run.scenario = s.run.scenario ∧ t.run.served = s.run.served ∧ t.run.test = s.run.test
    | .run | .both => True := by
  have parts : runKey t = runKey s →
      t.run.scenario = s.run.scenario ∧ t.run.served = s.run.served ∧ t.run.test = s.run.test := by
    simp only [runKey, Prod.mk.injEq, imp_self]
  split
  case h_1 hc => exact parts (congrArg Prod.snd (exec_owned hc he))
  case h_2 hc => exact parts (exec_runKey hc he)
  all_goals trivial

/-- Settles O15: the two frames above, read off at each constructor of the commands. -/
theorem onlyTheirOwnersMoveZonesAndRuns : Obligations.OnlyTheirOwnersMoveZonesAndRuns := by
  intro c s t he
  have hz := zones_of_movedBy he
  have hr := runKey_of_movedBy he
  cases c <;> exact ⟨hz, hr⟩

/-! ### Zone records -/

theorem zonesOk_nil (h : s.zones = []) : zonesOk s := by
  intro p hp
  rw [h] at hp
  cases hp

/-- Legal records stay legal where the zone records stand. -/
theorem zonesOk_of_zones (h : t.zones = s.zones) (ok : zonesOk s) : zonesOk t := by
  unfold zonesOk
  rwa [h]

theorem zonesOk_of_owned (h : owned t = owned s) (ok : zonesOk s) : zonesOk t :=
  zonesOk_of_zones (congrArg Prod.fst h) ok

/-- R176: the read, the validation and the way out of START. -/
theorem zonesOk_leaveStart (ok : zonesOk s) {bad : List EntryRef} : zonesOk (leaveStart bad s) := by
  have hr : zonesOk (readTables bad s) := ok
  unfold leaveStart
  dsimp only
  split
  · refine zonesOk_of_owned ?_ hr
    simp only [owned_startPacer, buildSlowRing, owned_setPlant, owned_changeMode, configInvalid, owned_raise]
    exact owned_congr rfl rfl
  · refine (work_placementDecision (.refl _)).zones (zonesOk_of_owned ?_ hr)
    simp only [owned_startPacer, buildSlowRing, owned_setPlant, owned_changeMode]
    exact owned_congr rfl rfl

/-- R3: a warm start begins with cold zone records. -/
theorem zonesOk_warmStart {cause : RestartCause} {bad : List EntryRef} : zonesOk (warmStart cause bad s) :=
  zonesOk_leaveStart (zonesOk_of_owned (owned_raise _ _ _ _) (zonesOk_nil rfl))

/-- R171: the re-evaluation and the decision at the entry to NORMAL. -/
theorem zonesOk_enterNormalMode (ok : zonesOk s) {during : List (List IntakeArrival)} :
    zonesOk (enterNormalMode during s) := by
  have hr : zonesOk (changeMode .normal (buildSlowRing (reevaluateZones { s with failing := none }))) :=
    zonesOk_of_owned ((owned_changeMode _ _).trans (owned_setPlant _ _)) ((work_reevaluateZones (.refl _)).zones ok)
  unfold enterNormalMode
  refine (work_placementDecision (work_drain ?_)).zones hr
  exact work_ite (work_revokeHold (.refl _)) (.refl _)

/-- R171: a validation that ends. -/
theorem zonesOk_serveValidation (ok : zonesOk s) {req : Requester} : zonesOk (serveValidation req s) := by
  unfold serveValidation
  dsimp only
  split
  · exact zonesOk_of_owned ((owned_answer _ _ _).trans (owned_raise _ _ _ _)) ok
  · refine (work_endStep (work_answer (work_drain (.refl _)))).zones (zonesOk_enterNormalMode ?_)
    exact ok

/-- R19: the Selector takes a notice. -/
theorem zonesOk_noticeTaken (ok : zonesOk s) {during : List (List IntakeArrival)} : zonesOk (noticeTaken during s) := by
  unfold noticeTaken
  split
  · exact ok
  · dsimp only
    split
    · exact (work_endStep (work_placementDecision (.refl _))).zones ok
    · exact ok

theorem zonesOk_acting {work : State → State} (ok : zonesOk s) (he : acting work s = .next t)
    (hw : zonesOk s → zonesOk (work s)) : zonesOk t := by
  cases he
  split
  · exact hw ok
  · exact ok

theorem zonesOk_serving {row : Instr} {work : State → State} (ok : zonesOk s) (he : serving row work s = .next t)
    (hw : ∀ u, Work u (work u)) : zonesOk t := by
  refine zonesOk_acting ok he fun ok => ?_
  split
  · exact (hw _).zones ok
  · exact ok

/-- R12. -/
theorem work_serveIsolateOn {req : Requester} {z : Nat} : Work s (serveIsolateOn req z s) := by
  unfold serveIsolateOn
  split
  · exact work_answer (.refl s)
  · exact work_answer (work_isolateZone (.refl s))

/-- R14. -/
theorem work_serveIsolateOff {req : Requester} {z : Nat} : Work s (serveIsolateOff req z s) := by
  unfold serveIsolateOff
  split
  · exact work_answer (.refl s)
  · exact work_endStep (work_answer (work_deisolateZone (.refl s)))

/-- Every command keeps the zone records legal: one that does not move them trivially, the others by the work of Zone
Intake and the Selector, or from cold records. -/
theorem exec_zonesOk {c : Instr} (ok : zonesOk s) (he : exec c s = .next t) : zonesOk t := by
  have hz := zones_of_movedBy he
  cases c with
  | powerUp bad =>
    cases he
    split
    · exact zonesOk_nil rfl
    · exact zonesOk_leaveStart (zonesOk_nil rfl)
  | resetLineRelease bad =>
    cases he
    split
    · exact ok
    · split
      · exact zonesOk_warmStart
      · exact ok
  | warmStart bad =>
    refine zonesOk_acting ok he fun ok => ?_
    split
    · exact zonesOk_warmStart
    · exact ok
  | placementDecision during =>
    refine zonesOk_acting ok (work := fun s => noticeTaken during (giveForEntry during s)) he fun ok =>
      zonesOk_noticeTaken ?_
    unfold giveForEntry
    split <;> exact ok
  | validationComplete =>
    refine zonesOk_acting ok (work := fun s => match s.validating with
      | some req => serveValidation req s
      | none => s) he fun ok => ?_
    split
    · exact zonesOk_serveValidation ok
    · exact ok
  | panelFrameReceived bs => exact zonesOk_acting ok he (work_panelBytes (.refl s)).zones
  | zoneEvent z a k =>
    exact zonesOk_acting ok (work := fun s => endStep (zoneEventTaken z a k s)) he
      (work_endStep (work_zoneEventTaken (.refl s))).zones
  | zoneReset z => exact zonesOk_acting ok he (work_zoneResetTaken (.refl s)).zones
  | zoneIsolateOn q z => exact zonesOk_serving ok he fun _ => work_serveIsolateOn
  | zoneIsolateOff q z => exact zonesOk_serving ok he fun _ => work_serveIsolateOff
  | _ => exact zonesOk_of_zones hz ok

/-- What a step can do: idle, or run the command at the front of the queue. -/
theorem step_cases (he : step s = .next t) :
    t = s ∨ ∃ c rest, s.pending = c :: rest ∧ exec c { s with pending := rest } = .next t := by
  unfold step at he
  split at he
  · cases he
    exact .inl rfl
  · exact .inr ⟨_, _, ‹_›, he⟩

/-- Settles O7: a step idles or runs a command. -/
theorem zoneRecordsStayLegal : Obligations.ZoneRecordsStayLegal := by
  intro s t ok he
  rcases step_cases he with rfl | ⟨c, rest, -, he⟩
  · exact ok
  · exact exec_zonesOk (s := { s with pending := rest }) ok he

end Sys2Proof.Machine
end

section
/-! Zone Intake and the Scenario Selector, case by case: ZONE_EVENT (O31), confirmations (O32), ZONE_RESET (O33) and
ZONE_ISOLATE (O34). -/

namespace Sys2Proof.Machine

variable {s : State}

/-! ### Plain events, and commands that are taken -/

/-- R160: the events of the zones, and UNMAPPED_INPUT, are never CRITICAL. -/
def isPlain : Ev → Bool
  | .zonePrealarm | .zoneConfirmed | .zoneActive | .zoneSecondary | .zoneReset | .zoneIsolated | .zoneDeisolated
  | .heldPresented | .unmappedInput => true
  | _ => false

theorem not_critical_of_isPlain {r : Report} (h : isPlain r.event = true) : isCritical s r = false := by
  unfold isCritical
  split
  case h_7 => rfl
  all_goals
    rename_i he
    rw [he] at h
    cases h

theorem raise_plain {ev : Ev} (h : isPlain ev = true) (a b : Nat) (s : State) :
    raise ev a b s = recordEntry ev a b s := by
  have hc : isCritical s { event := ev, subject := a, detail := b, clean := .none, facts := none } = false :=
    not_critical_of_isPlain h
  simp [raise, report, hc]

theorem unmapped_eq (a b : Nat) (s : State) : unmapped a b s = recordEntry .unmappedInput a b s :=
  raise_plain rfl a b s

theorem acting_awake {work : State → State} (h : awake s = true) : acting work s = .next (work s) := by
  simp [acting, h]

theorem serving_served {row : Instr} {work : State → State} (h : Serves row s) :
    serving row work s = .next (work (enterServing row s)) := by
  obtain ⟨ha, hm⟩ := h
  simp [serving, acting_awake ha, hm]

/-! ### Alarm source sets (R5) -/

section
variable {a : AlarmSource} {set : List AlarmSource}

theorem any_address_iff :
    set.any (fun x => x.address == a.address) = true ↔ a.address ∈ set.map (fun x => x.address) := by
  simp [List.any_eq_true, List.mem_map]

theorem joinSources_new (hn : a.address ∉ set.map (fun x => x.address)) (hl : set.length < 8) :
    joinSources a set = set ++ [a] := by
  unfold joinSources
  rw [if_neg (mt any_address_iff.1 hn)]
  exact if_pos hl

theorem joinSources_full (hn : a.address ∉ set.map (fun x => x.address)) (hl : 8 ≤ set.length) :
    joinSources a set = set := by
  unfold joinSources
  rw [if_neg (mt any_address_iff.1 hn)]
  exact if_neg (Nat.not_lt.2 hl)

theorem joinSources_detector (hm : a.address ∈ set.map (fun x => x.address)) (hc : a.cls = .detector) :
    joinSources a set = set := by
  unfold joinSources
  rw [if_pos (any_address_iff.2 hm), if_neg (by rw [hc]; decide)]

theorem joinSources_confirming (hm : a.address ∈ set.map (fun x => x.address)) (hc : a.cls = .confirming) :
    joinSources a set = set.map (fun x => if x.address = a.address then { x with cls := .confirming } else x) := by
  unfold joinSources
  rw [if_pos (any_address_iff.2 hm), if_pos hc]
  simp only [beq_iff_eq]

theorem joinSources_length (hl : set.length ≤ 8) : (joinSources a set).length ≤ 8 := by
  unfold joinSources
  split
  · split
    · simpa using hl
    · exact hl
  · split
    · rename_i hlt
      exact List.length_append.trans_le hlt
    · exact hl

theorem joinSources_nodup (hn : (set.map (fun x => x.address)).Nodup) :
    ((joinSources a set).map (fun x => x.address)).Nodup := by
  by_cases hl : set.length ≤ 8
  · exact (joinSources_ok hl hn).2
  by_cases hm : a.address ∈ set.map (fun x => x.address)
  · cases hc : a.cls with
    | detector => rwa [joinSources_detector hm hc]
    | confirming =>
      have keeps : ∀ x : AlarmSource,
          (if x.address = a.address then { x with cls := .confirming } else x).address = x.address := by
        intro x
        split <;> rfl
      rw [joinSources_confirming hm hc, List.map_map]
      simpa only [Function.comp_def, keeps] using hn
  · rwa [joinSources_full hm (by omega)]

end

/-! ### A confirmation is passed on (R8, R19, R143, R144) -/

theorem tellConfirmed_of_revokeHold {z : Nat} {u : State} (h : revokeHold s = u) :
    tellConfirmed z s = if u.mode = .normal then { u with selector := u.selector ++ [.confirmed z] } else u := by
  subst h
  rfl

/-- Settles O32, by the state of the hold. -/
theorem confirmationsReachSelectorAndHold : Obligations.ConfirmationsReachSelectorAndHold := by
  intro z s
  refine tellConfirmed_of_revokeHold ?_
  unfold revokeHold
  split
  case h_1 hs =>
    simp only [hs, refuseHold, answerAsk]
    cases ha : s.plant.hold.ask <;> simp [setHold, setPlant, ha]
  case h_2 hs =>
    simp only [hs, holdProgress]
    rfl
  case h_3 hp hh =>
    cases hs : s.plant.hold.state <;> simp_all

/-! ### ZONE_RESET (R9) -/

/-- Settles O33: the three outcomes of R9 by the state of the zone. -/
theorem zoneResetReturnsTheZone : Obligations.ZoneResetReturnsTheZone := by
  intro z s hw
  refine (acting_awake hw).trans (congrArg _ ?_)
  unfold zoneResetTaken
  simp only [unmapped_eq, Nat.lt_one_iff]
  split
  · rfl
  · cases hs : (zoneRec s z).state <;> simp [isConfirmed, tellReset, zoneStateCode] <;> rfl

/-! ### ZONE_ISOLATE (R11, R12, R14) -/

theorem offerEvent_inService (f : Frame) (p : Panel) (x : Option Instr) :
    offerEvent f { p with inService := x } = { offerEvent f p with inService := x } := by
  unfold offerEvent
  split <;> rfl

theorem offerFrame_leave (f : Frame) (after : AfterSent) (p : Panel) (x : Option Instr) :
    { offerFrame f after { p with inService := x } with inService := none } =
      { offerFrame f after p with inService := none } := by
  unfold offerFrame
  split <;> rfl

/-- R153: an event does not touch the request in service. -/
theorem recordEntry_enterServing (row : Instr) (ev : Ev) (a b : Nat) (s : State) :
    recordEntry ev a b (enterServing row s) = enterServing row (recordEntry ev a b s) := by
  simp only [recordEntry, enterServing, setPanel]
  simp only [setCapture, nextEntry, offerEvent_inService]

/-- R153: an answered request has left service. -/
theorem answer_enterServing (req : Requester) (r : Result) (row : Instr) (s : State) :
    answer req r (enterServing row s) = answer req r s :=
  congrArg (fun p => setPanel (fun _ => p) s) (offerFrame_leave _ .nothing s.panel (some row))

theorem inService_iff (s : State) (z : Nat) :
    inService s.tables z = true ↔ 1 ≤ z ∧ z ≤ 32 ∧ (zoneEntry s z).enabled = 1 := by
  simp [inService, zoneEntry, and_assoc]

/-- R11: a request that fails a check is answered with its refusal. -/
theorem isolateRefused_or (s : State) (z : Nat) (refused : Result → State) (passed : State) :
    (match isolateRefusal s z with
      | some r => refused r
      | none => passed) =
      if s.mode = .start then refused .wrongMode
      else if ¬ (1 ≤ z ∧ z ≤ 32 ∧ (zoneEntry s z).enabled = 1) then refused .badIndex
      else passed := by
  by_cases hm : s.mode = .start
  · simp [isolateRefusal, hm]
  · by_cases hz : inService s.tables z = true
    · simp [isolateRefusal, hm, hz, (inService_iff s z).1 hz]
    · simp [isolateRefusal, hm, hz, mt (inService_iff s z).2 hz]

/-- R12: the answer and the isolation by the state of the zone. -/
theorem answer_isolateZone (req : Requester) (z : Nat) (row : Instr) (s : State) :
    answer req (isolateZone z (enterServing row s)).2 (isolateZone z (enterServing row s)).1 =
      match (zoneRec s z).state with
      | .normal | .prealarm =>
        answer req .ok (recordEntry .zoneIsolated z (zoneRec s z).sources.length
          (setZone z { zoneRec s z with state := .isolated, sources := [], held := false } s))
      | .confirmed | .active | .secondary => answer req .zoneBusy s
      | .isolated => answer req .ok s := by
  have hr : zoneRec (enterServing row s) z = zoneRec s z := rfl
  have hz : ∀ r, setZone z r (enterServing row s) = enterServing row (setZone z r s) := fun _ => rfl
  unfold isolateZone
  cases hs : (zoneRec s z).state <;>
    simp only [hr, hs, hz, raise_plain (ev := .zoneIsolated) rfl, recordEntry_enterServing, answer_enterServing]

/-- R14: what the presentation of a held set does. -/
theorem deisolateZone_eq (z : Nat) (s : State) :
    deisolateZone z s =
      let r := zoneRec s z
      let n := r.sources.length
      let lift := fun (record : ZoneRec) => recordEntry .zoneDeisolated z n (setZone z record s)
      if r.state ≠ .isolated then s
      else if (∃ a ∈ r.sources, a.cls = .confirming) ∨ (zoneEntry s z).threshold ≤ n then
        tellConfirmed z (recordEntry .heldPresented z n (lift { r with
          state := .confirmed, confirmation := some { reason := .held, stamp := s.uptime }, held := false }))
      else if r.sources = [] then lift { r with state := .normal, held := false }
      else recordEntry .zonePrealarm z 0 (lift { r with state := .prealarm, held := false }) := by
  have h1 := raise_plain (ev := .zoneDeisolated) rfl
  have h2 := raise_plain (ev := .heldPresented) rfl
  have h3 := raise_plain (ev := .zonePrealarm) rfl
  unfold deisolateZone
  simp only [h1, h2, h3, Bool.or_eq_true, List.any_eq_true, beq_iff_eq, decide_eq_true_eq, ne_eq, ite_not,
    List.length_eq_zero_iff]

/-- Settles O34: each direction answers its refusals, and else does what R12 or R14 says. -/
theorem zonesAreIsolatedAndPresented : Obligations.ZonesAreIsolatedAndPresented := by
  intro req z s
  refine ⟨fun hw => ?_, fun hw => ?_⟩
  · refine (serving_served hw).trans (congrArg _ ?_)
    refine (isolateRefused_or (enterServing (.zoneIsolateOn req z) s) z _ _).trans ?_
    simp only [answer_enterServing, answer_isolateZone]
    rfl
  · refine (serving_served hw).trans (congrArg _ ?_)
    refine (isolateRefused_or (enterServing (.zoneIsolateOff req z) s) z _ _).trans ?_
    simp only [answer_enterServing, deisolateZone_eq]
    rfl

/-! ### ZONE_EVENT (R4, R6 to R8, R13) -/

/-- R4: what makes a ZONE_EVENT be ignored, whatever its class. -/
def eventIgnored (z source : Nat) (s : State) : Prop :=
  s.mode = .start ∨ z = 0 ∨ 32 < z ∨ (zoneEntry s z).enabled ≠ 1 ∨ source = 0 ∨ 4095 < source

theorem not_eventIgnored_iff {z source : Nat} :
    ¬ eventIgnored z source s ↔ s.mode ≠ .start ∧ inService s.tables z ∧ 1 ≤ source ∧ source ≤ 4095 := by
  rw [inService_iff]
  unfold eventIgnored
  constructor
  · intro h
    simp only [not_or] at h
    obtain ⟨h1, h2, h3, h4, h5, h6⟩ := h
    exact ⟨h1, ⟨by omega, by omega, not_not.1 h4⟩, by omega, by omega⟩
  · rintro ⟨h1, ⟨h2, h3, h4⟩, h5, h6⟩ (h | h | h | h | h | h)
    · exact h1 h
    · omega
    · omega
    · exact h h4
    · omega
    · omega

theorem sourceClassOf_none {cls : Nat} (h1 : cls ≠ 1) (h2 : cls ≠ 2) : sourceClassOf cls = none := by
  unfold sourceClassOf
  split
  · exact absurd rfl h1
  · exact absurd rfl h2
  · rfl

theorem zoneEventTaken_ignored {z source cls : Nat} (h : eventIgnored z source s ∨ (cls ≠ 1 ∧ cls ≠ 2)) :
    zoneEventTaken z source cls s = recordEntry .unmappedInput z source s := by
  unfold zoneEventTaken
  rcases h with h | ⟨h1, h2⟩
  · split
    · rw [if_neg fun hn => not_eventIgnored_iff.2 hn h, unmapped_eq]
    · exact unmapped_eq z source s
  · rw [sourceClassOf_none h1 h2]
    exact unmapped_eq z source s

theorem zoneEventTaken_taken {z source : Nat} {c : SourceClass} (h : ¬ eventIgnored z source s) :
    zoneEventTaken z source (sourceClassCode c) s = alarmArrival z { address := source, cls := c } s := by
  have hc : sourceClassOf (sourceClassCode c) = some c := by cases c <;> rfl
  unfold zoneEventTaken
  rw [hc]
  exact if_pos (not_eventIgnored_iff.1 h)

/-- R4: the row does what the arrival does, and ends the step. -/
theorem exec_zoneEvent_of {z source cls : Nat} {u : State} (hw : awake s = true)
    (h : zoneEventTaken z source cls s = u) :
    zoneEventTaken z source cls s = u ∧ exec (.zoneEvent z source cls) s = .next (endStep u) := by
  subst h
  exact ⟨rfl, acting_awake (work := fun s => endStep (zoneEventTaken z source cls s)) hw⟩

/-- Settles O31: the set laws of R5, and the outcome of an arrival by the state of its zone. -/
theorem alarmsJoinTheSetAndMoveTheirZone : Obligations.AlarmsJoinTheSetAndMoveTheirZone := by
  refine ⟨fun a set => ⟨joinSources_new, joinSources_full, joinSources_detector, joinSources_confirming,
    joinSources_length, joinSources_nodup⟩, fun z source cls s hw => ⟨fun h => ?_, fun c hc h => ?_⟩⟩
  · exact exec_zoneEvent_of hw (zoneEventTaken_ignored h)
  · subst hc
    refine exec_zoneEvent_of hw ((zoneEventTaken_taken h).trans ?_)
    have h1 := raise_plain (ev := .zoneConfirmed) rfl
    have h2 := raise_plain (ev := .zonePrealarm) rfl
    unfold alarmArrival confirmZone
    simp only [h1, h2]
    cases hs : (zoneRec s z).state <;> rfl

end Sys2Proof.Machine
end

section
/-! The Scenario Selector's choice: the waiting order, the kept zones and the joint partner (O35). -/

namespace Sys2Proof.Machine

/-! ### Lists put in order -/

section
variable {before : Nat → Nat → Bool}

theorem insertBy_perm (x : Nat) (ys : List Nat) : (insertBy before x ys).Perm (x :: ys) := by
  induction ys with
  | nil => exact .refl _
  | cons y ys ih =>
    unfold insertBy
    split
    · exact (ih.cons y).trans (.swap x y ys)
    · exact .refl _

theorem sortBy_perm (xs : List Nat) : (sortBy before xs).Perm xs := by
  induction xs with
  | nil => exact .refl _
  | cons x xs ih => exact (insertBy_perm x _).trans (ih.cons x)

theorem mem_sortBy {z : Nat} {xs : List Nat} : z ∈ sortBy before xs ↔ z ∈ xs := (sortBy_perm xs).mem_iff

variable (trans : ∀ x y z, before x y = true → before y z = true → before x z = true)
  (total : ∀ x y, x ≠ y → before x y = true ∨ before y x = true)

include trans total in
theorem insertBy_pairwise {x : Nat} {ys : List Nat} (hx : x ∉ ys) (h : ys.Pairwise (fun a b => before a b = true)) :
    (insertBy before x ys).Pairwise (fun a b => before a b = true) := by
  induction ys with
  | nil => exact List.pairwise_singleton _ x
  | cons y ys ih =>
    obtain ⟨hy, hys⟩ := List.pairwise_cons.1 h
    obtain ⟨hxy, hx⟩ := not_or.1 (mt List.mem_cons.2 hx)
    unfold insertBy
    split
    · rename_i hb
      refine List.pairwise_cons.2 ⟨fun w hw => ?_, ih hx hys⟩
      rcases List.mem_cons.1 ((insertBy_perm x ys).mem_iff.1 hw) with rfl | hw
      · exact hb
      · exact hy w hw
    · rename_i hb
      have hxy := (total x y hxy).resolve_right hb
      refine List.pairwise_cons.2 ⟨fun w hw => ?_, h⟩
      rcases List.mem_cons.1 hw with rfl | hw
      · exact hxy
      · exact trans x y w hxy (hy w hw)

include trans total in
/-- Distinct numbers are sorted by a transitive order that compares any two of them. -/
theorem sortBy_pairwise {xs : List Nat} (hn : xs.Nodup) :
    (sortBy before xs).Pairwise (fun a b => before a b = true) := by
  induction xs with
  | nil => exact .nil
  | cons x xs ih =>
    obtain ⟨hx, hn⟩ := List.nodup_cons.1 hn
    exact insertBy_pairwise trans total (mt mem_sortBy.1 hx) (ih hn)

end

variable {s : State}

/-! ### The waiting set (R21, R24) -/

/-- The confirm stamp by which a zone waits, 0 where there is none. -/
def waitStamp (s : State) (z : Nat) : Nat := ((zoneRec s z).confirmation.map (fun c => c.stamp)).getD 0

/-- R21: priority, then stamp, then number. -/
theorem waitingBefore_iff {x y : Nat} :
    waitingBefore s x y = true ↔
      (zoneEntry s x).priority < (zoneEntry s y).priority ∨
        ((zoneEntry s x).priority = (zoneEntry s y).priority ∧
          (waitStamp s x < waitStamp s y ∨ (waitStamp s x = waitStamp s y ∧ x < y))) := by
  have hs : ∀ z, (match (zoneRec s z).confirmation with
      | some c => c.stamp
      | none => 0) = waitStamp s z := by
    intro z
    unfold waitStamp
    cases (zoneRec s z).confirmation <;> rfl
  have he : waitingBefore s x y = (decide ((zoneEntry s x).priority < (zoneEntry s y).priority) ||
      ((zoneEntry s x).priority == (zoneEntry s y).priority &&
        (decide (waitStamp s x < waitStamp s y) || (waitStamp s x == waitStamp s y && decide (x < y))))) := by
    rw [← hs, ← hs]
    rfl
  simp [he]

theorem waitingBefore_trans (x y z : Nat) (hxy : waitingBefore s x y = true) (hyz : waitingBefore s y z = true) :
    waitingBefore s x z = true := by
  rw [waitingBefore_iff] at *
  omega

theorem waitingBefore_total (x y : Nat) (h : x ≠ y) : waitingBefore s x y = true ∨ waitingBefore s y x = true := by
  rw [waitingBefore_iff, waitingBefore_iff]
  omega

theorem mem_zoneNumbers {z : Nat} : z ∈ zoneNumbers ↔ 1 ≤ z ∧ z ≤ 32 := by
  simp only [zoneNumbers, List.mem_map, List.mem_range]
  constructor
  · rintro ⟨k, hk, rfl⟩
    omega
  · rintro ⟨h1, h2⟩
    exact ⟨z - 1, by omega, by omega⟩

theorem mem_waitingSet {made : List Nat} {z : Nat} :
    z ∈ waitingSet s made ↔ 1 ≤ z ∧ z ≤ 32 ∧
      ((zoneRec s z).state = .confirmed ∨ (zoneRec s z).state = .secondary ∨
        (z ∈ made ∧ (zoneRec s z).state = .active)) := by
  simp [waitingSet, mem_sortBy, mem_zoneNumbers, isWaiting, and_assoc, or_assoc]

theorem waitingSet_pairwise (made : List Nat) :
    (waitingSet s made).Pairwise (fun x y => waitingBefore s x y = true) :=
  sortBy_pairwise waitingBefore_trans waitingBefore_total (List.Nodup.filter _ (by decide))

/-! ### Joint partners (R22, R23) -/

/-- R22: an entry of the joint table for this pair of zones. -/
def isJoint (s : State) (p q : Nat) (e : JointEntry) : Prop :=
  (∃ n, (n, e) ∈ s.tables.joints) ∧ e.zoneA ≠ 0 ∧ ((e.zoneA = p ∧ e.zoneB = q) ∨ (e.zoneA = q ∧ e.zoneB = p))

theorem mem_joints_iff {e : JointEntry} :
    e ∈ s.tables.joints.map (fun x => x.2) ↔ ∃ n, (n, e) ∈ s.tables.joints := by
  simp

theorem isJoint_of_jointEntry {p q : Nat} {e : JointEntry} (h : jointEntry s.tables p q = some e) :
    isJoint s p q e := by
  have hm := mem_joints_iff.1 (List.mem_of_find?_eq_some h)
  have hp := List.find?_some h
  refine ⟨hm, ?_⟩
  simpa using hp

theorem not_isJoint_of_jointEntry {p q : Nat} (h : jointEntry s.tables p q = none) (e : JointEntry) :
    ¬ isJoint s p q e := by
  rintro ⟨hm, hp⟩
  refine List.find?_eq_none.1 h e (mem_joints_iff.2 hm) ?_
  simpa using hp

/-- R23: the zone is served with its first joint partner in waiting order, or alone. -/
theorem serveWith_cases (p : Nat) (waiting : List Nat) :
    (∃ before q after e, waiting.filter (fun z => z != p) = before ++ q :: after ∧ isJoint s p q e ∧
      (∀ x ∈ before, ∀ e', ¬ isJoint s p x e') ∧ serveWith s p waiting = ([e.zoneA, e.zoneB], e.scenario)) ∨
    ((∀ x ∈ waiting, x ≠ p → ∀ e, ¬ isJoint s p x e) ∧ serveWith s p waiting = ([p], (zoneEntry s p).scenario)) := by
  cases h : (waiting.filter (fun z => z != p)).findSome? (jointEntry s.tables p) with
  | some e =>
    obtain ⟨before, q, after, hl, hq, hb⟩ := List.findSome?_eq_some_iff.1 h
    exact .inl ⟨before, q, after, e, hl, isJoint_of_jointEntry hq, fun x hx => not_isJoint_of_jointEntry (hb x hx),
      by simp only [serveWith, h]⟩
  | none =>
    refine .inr ⟨fun x hx hp => not_isJoint_of_jointEntry (List.findSome?_eq_none_iff.1 h x ?_),
      by simp only [serveWith, h]⟩
    exact List.mem_filter.2 ⟨hx, by simpa using hp⟩

/-! ### The new served zones by the kept ones (R23, R24) -/

section
variable {made waiting : List Nat}

theorem newServed_pair {p q : Nat} (h : keptSet s made = [p, q]) :
    newServed s made waiting = ([p, q], s.run.scenario) := by
  simp only [newServed, h]

theorem newServed_one {p : Nat} (h : keptSet s made = [p]) : newServed s made waiting = serveWith s p waiting := by
  simp only [newServed, h]

theorem newServed_first {c : Nat} {rest : List Nat} (h : keptSet s made = []) (hw : waiting = c :: rest) :
    newServed s made waiting = serveWith s c waiting := by
  simp only [newServed, h, hw]

theorem newServed_none (h : keptSet s made = []) (hw : waiting = []) : newServed s made waiting = ([], 0) := by
  simp only [newServed, h, hw]

end

/-! ### Requests to Zone Intake (R10) -/

theorem zoneRequest_eq {z detail : Nat} {want : ZoneState × Ev}
    (hw : want ∈ [(ZoneState.active, Ev.zoneActive), (.secondary, .zoneSecondary)]) :
    zoneRequest z want.1 want.2 detail s =
      if (zoneRec s z).state = .normal ∨ (zoneRec s z).state = .prealarm ∨ (zoneRec s z).state = .isolated then
        (s, false)
      else if (zoneRec s z).state = want.1 then (s, true)
      else (recordEntry want.2 z detail (setZone z { zoneRec s z with state := want.1 } s), true) := by
  have hp : isPlain want.2 = true := by
    simp only [List.mem_cons, List.not_mem_nil, or_false] at hw
    rcases hw with rfl | rfl <;> rfl
  unfold zoneRequest
  simp only [raise_plain hp]
  cases hs : (zoneRec s z).state <;> simp [isConfirmed]

/-- Settles O35: the requests, the waiting order, and the choice by the kept zones. -/
theorem selectorChoosesAndAsks : Obligations.SelectorChoosesAndAsks := by
  refine ⟨fun z detail s want hw => zoneRequest_eq hw, fun s made waiting => ?_⟩
  refine ⟨fun z => mem_waitingSet, (waitingSet_pairwise made).imp waitingBefore_iff.1, fun p q hk => ?_,
    fun p hk => ?_, fun c rest hk hr => ?_, fun hk hr => ?_⟩
  · exact newServed_pair hk
  · rw [newServed_one hk]
    exact serveWith_cases p waiting
  · rw [newServed_first hk hr]
    exact serveWith_cases c waiting
  · exact newServed_none hk hr

end Sys2Proof.Machine
end

section
/-! Fire mode and what waits for the Selector stand: the Fault Capture Unit, the Output Resolver and the Start Scheduler leave
them. With `owned` this says what stands of all that the Selector's rules speak of. -/

namespace Sys2Proof.Machine

/-- R19, R30: fire mode, and what has reached the Selector and waits. -/
def standing (s : State) : Bool × List SelectorNotice := (fireMode s, s.selector)

variable (s : State)

theorem fireMode_congr {s t : State} (hr : t.run = s.run) : fireMode t = fireMode s := by
  simp only [fireMode, hr]

theorem standing_congr {s t : State} (hr : t.run = s.run) (hs : t.selector = s.selector) :
    standing t = standing s := by
  simp only [standing, fireMode_congr hr, hs]

/-! ### The named writes -/

@[simp] theorem standing_modOut (o : Nat) (f : OutRec → OutRec) : standing (modOut o f s) = standing s :=
  standing_congr rfl rfl
@[simp] theorem standing_setQueue (f : List QueueEntry → List QueueEntry) : standing (setQueue f s) = standing s :=
  standing_congr rfl rfl
@[simp] theorem standing_setWatches (f : List Watch → List Watch) : standing (setWatches f s) = standing s :=
  standing_congr rfl rfl
@[simp] theorem standing_setFf (f : FfUnit → FfUnit) : standing (setFf f s) = standing s := standing_congr rfl rfl
@[simp] theorem standing_setBoardSource (b : Nat) (x : BoardSource) : standing (setBoardSource b x s) = standing s :=
  standing_congr rfl rfl
@[simp] theorem standing_setPlant (f : Plant → Plant) : standing (setPlant f s) = standing s := standing_congr rfl rfl
@[simp] theorem standing_setHold (f : Hold → Hold) : standing (setHold f s) = standing s := standing_congr rfl rfl
@[simp] theorem standing_setModule (m : Nat) (r : ModuleRec) : standing (setModule m r s) = standing s :=
  standing_congr rfl rfl
@[simp] theorem standing_setPanel (f : Panel → Panel) : standing (setPanel f s) = standing s := standing_congr rfl rfl
@[simp] theorem standing_setCapture (f : Capture → Capture) : standing (setCapture f s) = standing s :=
  standing_congr rfl rfl
@[simp] theorem standing_tellRunner (n : RunnerNotice) : standing (tellRunner n s) = standing s :=
  standing_congr rfl rfl
@[simp] theorem standing_tellMonitor (n : MonitorNotice) : standing (tellMonitor n s) = standing s :=
  standing_congr rfl rfl
@[simp] theorem standing_useFree : standing (useFree s) = standing s := standing_congr rfl rfl
@[simp] theorem standing_runnerIn (x : List RunnerNotice) : standing { s with runnerIn := x } = standing s :=
  standing_congr rfl rfl
@[simp] theorem standing_monitorIn (x : List MonitorNotice) : standing { s with monitorIn := x } = standing s :=
  standing_congr rfl rfl

@[simp] theorem standing_setRun {f : Run → Run} (h : (f s.run).state = s.run.state) :
    standing (setRun f s) = standing s := by
  simp only [standing, fireMode, setRun_run, setRun_selector, h]

@[simp] theorem standing_foldl {α : Type} {f : State → α → State} (hf : ∀ u x, standing (f u x) = standing u)
    (xs : List α) :
    standing (xs.foldl f s) = standing s := by
  induction xs generalizing s with
  | nil => rfl
  | cons x xs ih => exact (ih (f s x)).trans (hf s x)

@[simp] theorem standing_ite {c : Prop} [Decidable c] (a b : State) :
    standing (if c then a else b) = if c then standing a else standing b := apply_ite standing c a b

/-! ### The Fault Capture Unit -/

@[simp] theorem standing_sendReply (q : Requester) (r : Result) : standing (sendReply q r s) = standing s :=
  standing_congr rfl rfl
@[simp] theorem standing_sendFail (a b c : Nat) (r : FailReason) : standing (sendFail a b c r s) = standing s :=
  standing_congr rfl rfl
@[simp] theorem standing_recordEntry (ev : Ev) (a b : Nat) : standing (recordEntry ev a b s) = standing s := by
  simp [recordEntry]

@[simp] theorem standing_takeCritical (u : State) (r : Report) : standing (takeCritical u r s) = standing s := by
  simp [takeCritical]

@[simp] theorem standing_report (r : Report) : standing (report r s) = standing s := by simp [report]
@[simp] theorem standing_raise (ev : Ev) (a b : Nat) : standing (raise ev a b s) = standing s := by simp [raise]
@[simp] theorem standing_unmapped (a b : Nat) : standing (unmapped a b s) = standing s := by simp [unmapped]

/-! ### The Output Resolver and the Start Scheduler -/

@[simp] theorem standing_setAct (o : Nat) (a : Act) : standing (setAct o a s) = standing s := by simp [setAct]
@[simp] theorem standing_dequeue (o : Nat) : standing (dequeue o s) = standing s := standing_congr rfl rfl
@[simp] theorem standing_requeueInPlace (o : Nat) (c : Cmd) : standing (requeueInPlace o c s) = standing s :=
  standing_congr rfl rfl
@[simp] theorem standing_enqueue (o : Nat) (c : Cmd) : standing (enqueue o c s) = standing s := by simp [enqueue]

@[simp] theorem standing_tellReserve (o : Nat) : standing (tellReserve o s) = standing s := by
  unfold tellReserve
  split <;> simp

@[simp] theorem standing_tellSettled (o : Nat) : standing (tellSettled o s) = standing s := by simp [tellSettled]
@[simp] theorem standing_settleRecord (o : Nat) : standing (settleRecord o s) = standing s := by simp [settleRecord]

@[simp] theorem standing_admitFan (f : Nat) : standing (admitFan f s) = standing s := by
  unfold admitFan
  split <;> simp

@[simp] theorem standing_examineTimes (n b : Nat) : standing (examineTimes n b s) = standing s := by
  induction n generalizing s with
  | zero => rfl
  | succ n ih =>
    unfold examineTimes
    split <;> simp [ih]

@[simp] theorem standing_examine (b : Nat) : standing (examine b s) = standing s := by simp [examine]
@[simp] theorem standing_examineFor (o : Nat) : standing (examineFor o s) = standing s := by simp [examineFor]
@[simp] theorem standing_releaseSlot (o : Nat) : standing (releaseSlot o s) = standing s := by simp [releaseSlot]
@[simp] theorem standing_forgetWait (o : Nat) : standing (forgetWait o s) = standing s := standing_congr rfl rfl
@[simp] theorem standing_resumeWait (o : Nat) : standing (resumeWait o s) = standing s := by simp [resumeWait]
@[simp] theorem standing_warnHeld (f : Nat) : standing (warnHeld f s) = standing s := by simp [warnHeld]

@[simp] theorem standing_faultRecord (o : Nat) (code : FaultCode) (cause : Cause) :
    standing (faultRecord o code cause s) = standing s := by simp [faultRecord]

@[simp] theorem standing_toFault (o : Nat) (code : FaultCode) (cause : Cause) :
    standing (toFault o code cause s) = standing s := by simp [toFault]

@[simp] theorem standing_joinWait (f : Nat) : standing (joinWait f s) = standing s := by simp [joinWait]
@[simp] theorem standing_judgePath (f : Nat) : standing (judgePath f s) = standing s := by simp [judgePath]
@[simp] theorem standing_rejudge (d : Nat) : standing (rejudge d s) = standing s := by simp [rejudge]
@[simp] theorem standing_settle (o : Nat) : standing (settle o s) = standing s := by simp [settle]
@[simp] theorem standing_placeStart (o : Nat) (c : Cmd) : standing (placeStart o c s) = standing s := by
  simp [placeStart]

@[simp] theorem standing_place (o : Nat) : standing (place o s) = standing s := by
  unfold place
  dsimp only
  split <;> simp

@[simp] theorem standing_placeFromWait (o : Nat) : standing (placeFromWait o s) = standing s := by simp [placeFromWait]
@[simp] theorem standing_newAttempt (o : Nat) (way : Way) : standing (newAttempt o way s) = standing s := by
  simp [newAttempt]

@[simp] theorem standing_requeueStart (o : Nat) : standing (requeueStart o s) = standing s := by
  unfold requeueStart
  dsimp only
  split <;> simp

@[simp] theorem standing_onOutput (o : Nat) {work : State → State} (hw : ∀ u, standing (work u) = standing u) :
    standing (onOutput o work s) = standing s := by simp [onOutput, hw]

@[simp] theorem standing_supersede (o : Nat) (c : Cmd) : standing (supersede o c s) = standing s := by simp [supersede]
@[simp] theorem standing_toNone (was : Act) (o : Nat) : standing (toNone was o s) = standing s := by simp [toNone]
@[simp] theorem standing_takeCommand (o : Nat) : standing (takeCommand o s) = standing s := standing_congr rfl rfl

@[simp] theorem standing_actOnCommand (was : Act) (o : Nat) : standing (actOnCommand was o s) = standing s := by
  unfold actOnCommand
  split
  · simp
  · split <;> simp

@[simp] theorem standing_recomputeAll (os : List Nat) : standing (recomputeAll os s) = standing s := by
  simp [recomputeAll]
@[simp] theorem standing_recompute (o : Nat) : standing (recompute o s) = standing s := by simp [recompute]

@[simp] theorem standing_changeLayers (w : Nat → OutRec → OutRec) (os : List Nat) :
    standing (changeLayers w os s) = standing s := by simp [changeLayers]

@[simp] theorem standing_writeFire (o : Nat) (c : Option Cmd) : standing (writeFire o c s) = standing s := by
  simp [writeFire]
@[simp] theorem standing_beginFire : standing (beginFire s) = standing s := by simp [beginFire]
@[simp] theorem standing_endFire : standing (endFire s) = standing s := by simp [endFire]

@[simp] theorem standing_acceptCommand (o : Nat) (c : Cmd) : standing (acceptCommand o c s) = standing s := by
  unfold acceptCommand
  dsimp only
  split <;> simp

@[simp] theorem standing_sentEnding (o : Nat) (a : Ack) : standing (sentEnding o a s) = standing s := by
  unfold sentEnding
  dsimp only
  split
  · rfl
  · split <;> simp

@[simp] theorem standing_supersededEnding (o : Nat) (a : Ack) : standing (supersededEnding o a s) = standing s := by
  unfold supersededEnding
  split
  · rfl
  · split <;> simp

@[simp] theorem standing_exchangeEnded (o : Nat) (a : Ack) : standing (exchangeEnded o a s) = standing s := by
  unfold exchangeEnded
  split <;> simp

@[simp] theorem standing_proofExpired (o : Nat) : standing (proofExpired o s) = standing s := by
  unfold proofExpired
  refine standing_onOutput _ _ fun u => ?_
  split <;> simp

@[simp] theorem standing_takeView (o : Nat) (v : View) (valid unusable : Bool) :
    standing (takeView o v valid unusable s) = standing s := by simp [takeView]

@[simp] theorem standing_readInFault (o : Nat) (old : OutRec) (c : Cmd) :
    standing (readInFault o old c s) = standing s := by
  simp [readInFault]

@[simp] theorem standing_depart (o : Nat) (c : Cmd) : standing (depart o c s) = standing s := by simp [depart]

@[simp] theorem standing_readInState (o : Nat) (old : OutRec) (c : Cmd) :
    standing (readInState o old c s) = standing s := by
  unfold readInState
  dsimp only
  split <;> simp

@[simp] theorem standing_afterReading (o : Nat) (old : OutRec) : standing (afterReading o old s) = standing s := by
  unfold afterReading
  split <;> try split
  all_goals simp

@[simp] theorem standing_examineIfFallen (o before : Nat) : standing (examineIfFallen o before s) = standing s := by
  simp [examineIfFallen]

@[simp] theorem standing_takeReading (o b : Nat) : standing (takeReading o b s) = standing s := by simp [takeReading]
@[simp] theorem standing_takeUnusable (o : Nat) : standing (takeUnusable o s) = standing s := by simp [takeUnusable]
@[simp] theorem standing_outputLost (o : Nat) : standing (outputLost o s) = standing s := by simp [outputLost]
@[simp] theorem standing_outputsLost (m : Nat) : standing (outputsLost m s) = standing s := by simp [outputsLost]
@[simp] theorem standing_outputReturned (o : Nat) : standing (outputReturned o s) = standing s := by
  simp [outputReturned]
@[simp] theorem standing_outputsReturned (m : Nat) : standing (outputsReturned m s) = standing s := by
  simp [outputsReturned]

@[simp] theorem standing_takeReadings (m : Nat) (bs : List Byte) : standing (takeReadings m bs s) = standing s := by
  simp [takeReadings]

@[simp] theorem standing_returnToWait (f : Nat) : standing (returnToWait f s) = standing s := by simp [returnToWait]
@[simp] theorem standing_restageBoard (b : Nat) : standing (restageBoard b s) = standing s := by simp [restageBoard]
@[simp] theorem standing_examineAndWarn (b : Nat) : standing (examineAndWarn b s) = standing s := by
  simp [examineAndWarn]

@[simp] theorem standing_sourceChange (b : Nat) (src : BoardSource) : standing (sourceChange b src s) = standing s := by
  simp [sourceChange]

@[simp] theorem standing_replaceQueued (o : Nat) : standing (replaceQueued o s) = standing s := by
  unfold replaceQueued
  dsimp only
  split <;> simp

@[simp] theorem standing_reassertOutput (o : Nat) : standing (reassertOutput o s) = standing s := by
  unfold reassertOutput
  dsimp only
  split <;> simp

@[simp] theorem standing_reassert : standing (reassert s) = standing s := by simp [reassert]
@[simp] theorem standing_boardWritten (b : Nat) : standing (boardWritten b s) = standing s := by simp [boardWritten]

@[simp] theorem standing_rebuildRecord (o : Nat) (old : OutputEntry) :
    standing (rebuildRecord o old s) = standing s := by
  simp [rebuildRecord]

@[simp] theorem standing_putOutput (o : Nat) (new : OutputEntry) : standing (putOutput o new s) = standing s := by
  unfold putOutput
  dsimp only
  split
  · rfl
  · exact standing_setAct s o .unknown

@[simp] theorem standing_outputWritten (o : Nat) (new : OutputEntry) :
    standing (outputWritten o new s) = standing s := by
  simp [outputWritten]

end Sys2Proof.Machine
end

section
/-! Fire mode and what waits for the Selector stand: Runner (but for load, switch and end), Monitor, Plant Link Controller,
Firefighter Control Unit and Panel Link Interface leave them. -/

namespace Sys2Proof.Machine

variable (s : State)

/-! ### The Scenario Runner, but for load, switch and end -/

@[simp] theorem standing_recordRunFault (o : Nat) : standing (recordRunFault o s) = standing s := by
  simp [recordRunFault]
@[simp] theorem standing_extractLost (duty : Nat) : standing (extractLost duty s) = standing s := by simp [extractLost]
@[simp] theorem standing_tellStandby (duty : Nat) : standing (tellStandby duty s) = standing s := by simp [tellStandby]

@[simp] theorem standing_engageStandby (standby duty : Nat) (c : Cmd) :
    standing (engageStandby standby duty c s) = standing s := by simp [engageStandby]

@[simp] theorem standing_substitute (duty : Nat) (code : FaultCode) :
    standing (substitute duty code s) = standing s := by
  unfold substitute
  dsimp only
  split <;> simp

@[simp] theorem standing_standbyFaulted (o : Nat) : standing (standbyFaulted o s) = standing s := by
  unfold standbyFaulted
  split <;> simp

@[simp] theorem standing_takeFault (o : Nat) (code : FaultCode) : standing (takeFault o code s) = standing s := by
  simp [takeFault]

@[simp] theorem standing_leaveFlight (o : Nat) : standing (leaveFlight o s) = standing s := by simp [leaveFlight]

@[simp] theorem standing_takeReport (n : RunnerNotice) : standing (takeReport n s) = standing s := by
  unfold takeReport
  cases n <;> simp

@[simp] theorem standing_takeReportsTimes (n : Nat) : standing (takeReportsTimes n s) = standing s := by
  induction n generalizing s with
  | zero => rfl
  | succ n ih =>
    unfold takeReportsTimes
    split <;> simp [ih]

@[simp] theorem standing_takeReports : standing (takeReports s) = standing s := by simp [takeReports]
@[simp] theorem standing_joinFlight (i : Nat) : standing (joinFlight i s) = standing s := by simp [joinFlight]

@[simp] theorem standing_placeStep (i n : Nat) (r : OutRec) : standing (placeStep i n r s) = standing s := by
  unfold placeStep
  dsimp only
  split <;> simp

@[simp] theorem standing_followStep (duty : Nat) (c : Cmd) : standing (followStep duty c s) = standing s := by
  simp [followStep]

@[simp] theorem standing_issueStep (i : Nat) : standing (issueStep i s) = standing s := by
  unfold issueStep
  dsimp only
  split <;> simp

/-- R44: a run that becomes ESTABLISHED was STAGING. -/
theorem standing_establish (h : s.run.state = .staging) : standing (establish s) = standing s := by
  have hf : standing (setRun (fun r => { r with state := .established, deadline := none }) s) = standing s := by
    simp [standing, fireMode, h]
  simp [establish, hf]

@[simp] theorem standing_issueAtCursor : standing (issueAtCursor s) = standing s := by simp [issueAtCursor]

@[simp] theorem standing_advanceTimes (n : Nat) : standing (advanceTimes n s) = standing s := by
  induction n generalizing s with
  | zero => rfl
  | succ n ih =>
    unfold advanceTimes
    dsimp only
    split
    · split
      · rename_i hs
        simp only [Bool.and_eq_true, beq_iff_eq] at hs
        exact (standing_establish _ hs.2).trans (standing_takeReports s)
      · exact standing_takeReports s
    · simp [ih]

@[simp] theorem standing_advance : standing (advance s) = standing s := by simp [advance]
@[simp] theorem standing_takeRunner (n : RunnerNotice) : standing (takeRunner n s) = standing s := by simp [takeRunner]
@[simp] theorem standing_delayExpired : standing (delayExpired s) = standing s := by simp [delayExpired]
@[simp] theorem standing_deadlineExpired : standing (deadlineExpired s) = standing s := by simp [deadlineExpired]
@[simp] theorem standing_releaseFans (fs : List Nat) : standing (releaseFans fs s) = standing s := by simp [releaseFans]
@[simp] theorem standing_engageReserve (f z : Nat) : standing (engageReserve f z s) = standing s := by
  simp [engageReserve]

/-! ### The Extract Monitor, and the notices between blocks -/

@[simp] theorem standing_modWatch (z : Nat) (f : Watch → Watch) : standing (modWatch z f s) = standing s := by
  simp [modWatch]
@[simp] theorem standing_deficitEnds (z : Nat) : standing (deficitEnds z s) = standing s := by simp [deficitEnds]
@[simp] theorem standing_exhaust (w : Watch) : standing (exhaust w s) = standing s := by simp [exhaust]

@[simp] theorem standing_engageTimes (n z : Nat) : standing (engageTimes n z s) = standing s := by
  induction n generalizing s with
  | zero => rfl
  | succ n ih =>
    unfold engageTimes
    split <;> simp [ih]

@[simp] theorem standing_engagementStep (z : Nat) : standing (engagementStep z s) = standing s := by
  simp [engagementStep]
@[simp] theorem standing_deficitBegins (w : Watch) : standing (deficitBegins w s) = standing s := by
  simp [deficitBegins]

@[simp] theorem standing_deficitTest (z : Nat) : standing (deficitTest z s) = standing s := by
  unfold deficitTest
  split <;> simp

@[simp] theorem standing_startWatching : standing (startWatching s) = standing s := by simp [startWatching]

@[simp] theorem standing_reserveSettled (f : Nat) : standing (reserveSettled f s) = standing s := by
  unfold reserveSettled
  split <;> simp

@[simp] theorem standing_takeMonitor (n : MonitorNotice) : standing (takeMonitor n s) = standing s := by
  unfold takeMonitor
  cases n <;> simp

@[simp] theorem standing_drainTimes (n : Nat) : standing (drainTimes n s) = standing s := by
  induction n generalizing s with
  | zero => rfl
  | succ n ih =>
    unfold drainTimes
    split
    · simp [ih]
    · split <;> simp [ih]

@[simp] theorem standing_drain : standing (drain s) = standing s := standing_drainTimes s Config.cascadeFuel

/-! ### The Plant Link Controller -/

@[simp] theorem standing_startPacer : standing (startPacer s) = standing s := standing_setPlant s _
@[simp] theorem standing_beginExchange (k : ExchangeKind) (f : Frame) : standing (beginExchange k f s) = standing s :=
  standing_setPlant s _
@[simp] theorem standing_nextTag : standing (nextTag s) = standing s := standing_setPlant s _

@[simp] theorem standing_grantCommand : standing (grantCommand s) = standing s := by
  unfold grantCommand
  split <;> simp

@[simp] theorem standing_grantPoll : standing (grantPoll s) = standing s := by
  unfold grantPoll
  split <;> simp

@[simp] theorem standing_grantForward : standing (grantForward s) = standing s := by
  unfold grantForward
  split <;> simp

@[simp] theorem standing_setBurst (n : Nat) : standing (setBurst n s) = standing s := standing_setPlant s _
@[simp] theorem standing_arbitrate : standing (arbitrate s) = standing s := by simp [arbitrate]
@[simp] theorem standing_moduleMissing (m : Nat) : standing (moduleMissing m s) = standing s := by simp [moduleMissing]
@[simp] theorem standing_pollMissed (m : Nat) : standing (pollMissed m s) = standing s := by simp [pollMissed]
@[simp] theorem standing_clearMisses (m : Nat) : standing (clearMisses m s) = standing s := by simp [clearMisses]
@[simp] theorem standing_modulePresent (m : Nat) : standing (modulePresent m s) = standing s := by simp [modulePresent]

@[simp] theorem standing_stateDecoded (m : Nat) (bs : List Byte) : standing (stateDecoded m bs s) = standing s := by
  simp [stateDecoded]

@[simp] theorem standing_endExchange : standing (endExchange s) = standing s := standing_setPlant s _
@[simp] theorem standing_countError : standing (countError s) = standing s := standing_setPlant s _
@[simp] theorem standing_countStray : standing (countStray s) = standing s := standing_setPlant s _

@[simp] theorem standing_commandAnswered (o m : Nat) (a : Ack) : standing (commandAnswered o m a s) = standing s := by
  simp [commandAnswered]

@[simp] theorem standing_pollAnswered (m : Nat) (bs : List Byte) : standing (pollAnswered m bs s) = standing s := by
  simp [pollAnswered]

@[simp] theorem standing_forwardAnswered (x : Exchange) (station tag addressed kind : Nat) (payload : List Byte) :
    standing (forwardAnswered x station tag addressed kind payload s) = standing s := by simp [forwardAnswered]

@[simp] theorem standing_windowExpired (x : Exchange) : standing (windowExpired x s) = standing s := by
  unfold windowExpired
  split <;> simp

@[simp] theorem standing_offerForward (e : ForwardEntry) : standing (offerForward e s) = standing s := by
  simp [offerForward]

@[simp] theorem standing_refuseEntries (es : List ForwardEntry) (r : FailReason) :
    standing (refuseEntries es r s) = standing s := by simp [refuseEntries]

@[simp] theorem standing_answerAsk (r : Result) : standing (answerAsk r s) = standing s := by
  unfold answerAsk
  split <;> simp

@[simp] theorem standing_grantHold : standing (grantHold s) = standing s := by simp [grantHold]
@[simp] theorem standing_freeHold : standing (freeHold s) = standing s := by simp [freeHold]

@[simp] theorem standing_holdProgress : standing (holdProgress s) = standing s := by
  unfold holdProgress
  split
  · rfl
  · split <;> simp

@[simp] theorem standing_releaseHold (r : ReleaseReason) : standing (releaseHold r s) = standing s :=
  standing_setHold s _
@[simp] theorem standing_refuseHold : standing (refuseHold s) = standing s := by simp [refuseHold]

@[simp] theorem standing_revokeHold : standing (revokeHold s) = standing s := by
  unfold revokeHold
  split <;> simp

@[simp] theorem standing_endStep : standing (endStep s) = standing s := by simp [endStep]

/-! ### The Firefighter Control Unit -/

@[simp] theorem standing_handFf : standing (handFf s) = standing s := by simp [handFf]

@[simp] theorem standing_superviseFrame : standing (superviseFrame s) = standing s := by
  unfold superviseFrame
  dsimp only
  split <;> simp

@[simp] theorem standing_takeAllStop (active : Bool) : standing (takeAllStop active s) = standing s := by
  simp [takeAllStop]

@[simp] theorem standing_takeZoneSwitch (z : Nat) (p : ZoneSwitch) : standing (takeZoneSwitch z p s) = standing s := by
  simp [takeZoneSwitch]

@[simp] theorem standing_takeOutputSwitch (o : Nat) (p : OutputSwitch) :
    standing (takeOutputSwitch o p s) = standing s := by
  simp [takeOutputSwitch]

@[simp] theorem standing_takeSwitch (type number position : Nat) :
    standing (takeSwitch type number position s) = standing s := by
  unfold takeSwitch
  split
  · split <;> simp
  split
  · split <;> simp
  · simp

@[simp] theorem standing_takeSwitches (bs : List Byte) : standing (takeSwitches bs s) = standing s := by
  induction bs, s using takeSwitches.induct with
  | case1 s a b c rest ih => simpa [takeSwitches] using ih
  | case2 s bs hne => simp [takeSwitches]

@[simp] theorem standing_takeFfContent (payload : List Byte) : standing (takeFfContent payload s) = standing s := by
  unfold takeFfContent
  split <;> simp

@[simp] theorem standing_ffStateTaken (src : Nat) (payload : List Byte) :
    standing (ffStateTaken src payload s) = standing s := by
  simp [ffStateTaken]

@[simp] theorem standing_panelLost : standing (panelLost s) = standing s := by simp [panelLost]
@[simp] theorem standing_ffEntryWritten (o : Nat) : standing (ffEntryWritten o s) = standing s := by
  simp [ffEntryWritten]

/-! ### The Panel Link Interface and the Forwarding Map -/

@[simp] theorem standing_leaveService : standing (leaveService s) = standing s := standing_setPanel s _
@[simp] theorem standing_answer (req : Requester) (r : Result) : standing (answer req r s) = standing s := by
  simp [answer]

@[simp] theorem standing_answerFrame (req : Requester) (kind : Nat) (payload : List Byte) (after : AfterSent) :
    standing (answerFrame req kind payload after s) = standing s := by simp [answerFrame]

@[simp] theorem standing_answerWrite (table : Option TableId) (req : Requester) (r : Result) :
    standing (answerWrite table req r s) = standing s := by simp [answerWrite]

@[simp] theorem standing_answerStatus (req : Requester) (selector index part : Nat) (inRange : Bool) (bs : List Byte) :
    standing (answerStatus req selector index part inRange bs s) = standing s := by simp [answerStatus, markClearing]

@[simp] theorem standing_joinInbound (f : Frame) : standing (joinInbound f s) = standing s := standing_setPanel s _
@[simp] theorem standing_unmappedOpen (a b : Option Nat) : standing (unmappedOpen a b s) = standing s := by
  simp [unmappedOpen]

@[simp] theorem standing_supplyStateTaken (b source : Nat) : standing (supplyStateTaken b source s) = standing s := by
  unfold supplyStateTaken
  split <;> simp

@[simp] theorem standing_readBld (bs : List Byte) (acc : List (Nat × Option Cmd)) :
    standing (readBld bs acc s).2 = standing s := by
  induction bs, acc, s using readBld.induct with
  | case1 acc s a b rest hb ih => simpa [readBld, hb] using ih
  | case2 acc s a b rest hb ih => simpa [readBld, hb] using ih
  | case3 bs acc s hne => simp [readBld]

@[simp] theorem standing_bldCmdTaken (src : Nat) (payload : List Byte) :
    standing (bldCmdTaken src payload s) = standing s := by
  simp [bldCmdTaken]

@[simp] theorem standing_mapFrame (f : Frame) : standing (mapFrame f s) = standing s := by
  unfold mapFrame
  split
  · simp
  · split <;> simp

@[simp] theorem standing_candidateTaken (f : Frame) : standing (candidateTaken f s) = standing s := by
  simp [candidateTaken]

@[simp] theorem standing_afterSent (a : AfterSent) : standing (afterSent a s) = standing s := by
  unfold afterSent
  split
  · rfl
  · simp
  · exact standing_congr rfl rfl

@[simp] theorem standing_headSent : standing (headSent s) = standing s := by
  unfold headSent
  split <;> simp

@[simp] theorem standing_takeReply (x : Exchange) (kind : Nat) (payload : List Byte) :
    standing (takeReply x kind payload s) = standing s := by
  unfold takeReply
  split
  · simp
  · split <;> try split
    all_goals simp

@[simp] theorem standing_plantBytes (bs : List Byte) : standing (plantBytes bs s) = standing s := by
  unfold plantBytes
  split <;> try split
  all_goals simp

@[simp] theorem standing_refuseRequest (f : Frame) (r : Result) : standing (refuseRequest f r s) = standing s := by
  simp [refuseRequest]

@[simp] theorem standing_takeHead : standing (takeHead s) = standing s := by
  unfold takeHead
  split
  · rfl
  · unfold takeRequest
    split
    · split
      · simp
      · split <;> simp
    · rfl

end Sys2Proof.Machine
end

section
/-! Fire mode and what waits for the Selector stand: requests and commands leave them, but for those that move the zone
records or the run. -/

namespace Sys2Proof.Machine

variable (s : State)

/-! ### Requests, modes and writes -/

@[simp] theorem standing_changeMode (m : Mode) : standing (changeMode m s) = standing s := by
  unfold changeMode
  exact (standing_raise _ _ _ _).trans (standing_congr rfl rfl)

@[simp] theorem standing_interruptWrite : standing (interruptWrite s) = standing s := by
  unfold interruptWrite
  split
  · rfl
  · exact standing_congr rfl rfl

@[simp] theorem standing_stepCursor : standing (stepCursor s) = standing s := standing_congr rfl rfl

@[simp] theorem standing_tickTimers : standing (tickTimers s) = standing s := rfl
@[simp] theorem standing_tickUptime : standing (tickUptime s) = standing s := standing_congr rfl rfl

@[simp] theorem standing_bringIntoForce (w : NvWrite) : standing (bringIntoForce w s) = standing s := by
  unfold bringIntoForce
  dsimp only
  split
  · simp only [standing_ffEntryWritten, standing_outputWritten]
    exact standing_congr rfl rfl
  · rw [standing_boardWritten]
    exact standing_congr rfl rfl
  · exact standing_congr rfl rfl

@[simp] theorem standing_serveNvWrite (w : NvWrite) (readBackEqual : Bool) :
    standing (serveNvWrite w readBackEqual s) = standing s := by
  unfold serveNvWrite
  dsimp only
  split
  · simp only [standing_endStep, standing_answerWrite, standing_stepCursor, standing_drain, standing_bringIntoForce]
    exact standing_congr rfl rfl
  · simp only [standing_answerWrite, standing_useFree]
    exact standing_congr rfl rfl

@[simp] theorem standing_serveOutputReset (req : Requester) (o : Nat) :
    standing (serveOutputReset req o s) = standing s := by
  simp [serveOutputReset]

@[simp] theorem standing_serveFaultAck (req : Requester) (sequence later : Nat) :
    standing (serveFaultAck req sequence later s) = standing s := by
  unfold serveFaultAck
  split <;> simp

@[simp] theorem standing_serveTrailRead (req : Requester) (start count : Nat) :
    standing (serveTrailRead req start count s) = standing s := by simp [serveTrailRead]

@[simp] theorem standing_serveEnterService (req : Requester) : standing (serveEnterService req s) = standing s := by
  unfold serveEnterService
  split <;> simp

@[simp] theorem standing_serveEnterNormal (req : Requester) : standing (serveEnterNormal req s) = standing s := by
  unfold serveEnterNormal
  split
  · simp
  · split
    · simp
    · exact standing_congr rfl rfl

@[simp] theorem standing_serveRestart (req : Requester) : standing (serveRestart req s) = standing s := by
  unfold serveRestart
  split <;> simp

@[simp] theorem standing_serveTsel (req : Requester) (table index : Nat) :
    standing (serveTsel req table index s) = standing s := by
  unfold serveTsel
  split
  · simp
  split
  · simp
  split
  · rw [standing_answer]
    exact standing_congr rfl rfl
  · simp

@[simp] theorem standing_serveTrd (req : Requester) : standing (serveTrd req s) = standing s := by
  unfold serveTrd
  split
  · simp
  · split <;> simp

@[simp] theorem standing_serveTwr (req : Requester) (index : Nat) (entry : List Byte) :
    standing (serveTwr req index entry s) = standing s := by
  unfold serveTwr
  split
  · simp
  · exact standing_congr rfl rfl

@[simp] theorem standing_serveHoldAsk (req : Requester) : standing (serveHoldAsk req s) = standing s := by
  unfold serveHoldAsk
  split <;> simp

@[simp] theorem standing_holdEnded : standing (holdEnded s) = standing s := by
  unfold holdEnded
  split <;> simp

@[simp] theorem standing_serveHoldEnd (req : Requester) : standing (serveHoldEnd req s) = standing s := by
  simp [serveHoldEnd]

@[simp] theorem standing_enterServing (row : Instr) : standing (enterServing row s) = standing s :=
  standing_setPanel s _

/-! ### Commands of the plant link -/

@[simp] theorem standing_sendComplete : standing (sendComplete s) = standing s := by
  unfold sendComplete
  split <;> simp

@[simp] theorem standing_ackTaken (result : Nat) : standing (ackTaken result s) = standing s := by
  unfold ackTaken
  split
  · split <;> simp
  · simp

@[simp] theorem standing_stateTaken (readings : List Byte) : standing (stateTaken readings s) = standing s := by
  unfold stateTaken
  split <;> simp

@[simp] theorem standing_forwardTaken (kind : Nat) (payload : List Byte) :
    standing (forwardTaken kind payload s) = standing s := by
  unfold forwardTaken
  split
  · split <;> simp
  · simp

@[simp] theorem standing_forwardWaited (place : Nat) : standing (forwardWaited place s) = standing s := by
  unfold forwardWaited
  split <;> simp

/-! ### Commands -/

variable {s t : State}

theorem serving_standing {row : Instr} {work : State → State} (he : serving row work s = .next t)
    (hw : ∀ u, standing (work u) = standing u) : standing t = standing s :=
  serving_keeps standing he (fun u => standing_enterServing u row) hw

/-- R155: a STATUS_ASK only answers. -/
theorem statusAsk_standing {row : Instr} {req : Requester} {selector index part : Nat} {inRange : Bool}
    {bs : State → List Byte}
    (he : serving row (fun u => answerStatus req selector index part inRange (bs u) u) s = .next t) :
    standing t = standing s :=
  serving_standing he fun u => standing_answerStatus u req selector index part inRange (bs u)

/-- A command that moves neither the zone records nor the run's key leaves fire mode and the Selector's notices too. -/
theorem exec_standing {c : Instr} (hc : movedBy c = .neither) (he : exec c s = .next t) : standing t = standing s := by
  cases c with
  | powerUp | resetLineRelease | warmStart | placementDecision | validationComplete => cases hc
  | panelFrameReceived | zoneEvent | zoneReset | zoneIsolateOn | zoneIsolateOff => cases hc
  | testRun | testEnd => cases hc
  | resetLineAssert => cases he; exact (standing_congr rfl rfl).trans (standing_interruptWrite s)
  | powerFailure => cases he; exact (standing_congr rfl rfl).trans (standing_interruptWrite s)
  | uptimeTick => cases he; simp
  | requestArrival f => exact acting_keeps standing he fun u => standing_joinInbound u f
  | requestTaken => exact acting_keeps standing he standing_takeHead
  | outboundFrameSent => exact acting_keeps standing he standing_headSent
  | supplyState b x =>
    exact acting_keeps standing (work := fun s => endStep (supplyStateTaken b x s)) he fun u => by simp
  | ffState x p =>
    exact acting_keeps standing (work := fun s => endStep (ffStateTaken x p s)) he fun u => by simp
  | bldCmd x p =>
    exact acting_keeps standing (work := fun s => endStep (bldCmdTaken x p s)) he fun u => by simp
  | outputReset q o => exact serving_standing he fun u => standing_serveOutputReset u q o
  | faultAck q n l => exact serving_standing he fun u => standing_serveFaultAck u q n l
  | trailRead q n k => exact serving_standing he fun u => standing_serveTrailRead u q n k
  | statusAskSummary q i p => exact statusAsk_standing (bs := summaryReport) he
  | statusAskZone q i p => exact statusAsk_standing (bs := fun u => zoneReport u i) he
  | statusAskOutput q i p => exact statusAsk_standing (bs := fun u => outputReport u i) he
  | statusAskRun q i p => exact statusAsk_standing (bs := runReport) he
  | statusAskBoard q i p => exact statusAsk_standing (bs := fun u => boardReport u i) he
  | statusAskFirstFault q i p => exact statusAsk_standing (bs := firstFaultReport) he
  | enterService q => exact serving_standing he fun u => standing_serveEnterService u q
  | enterNormal q => exact serving_standing he fun u => standing_serveEnterNormal u q
  | modeRestart q => exact serving_standing he fun u => standing_serveRestart u q
  | tsel q x i => exact serving_standing he fun u => standing_serveTsel u q x i
  | trd q => exact serving_standing he fun u => standing_serveTrd u q
  | twr q i e => exact serving_standing he fun u => standing_serveTwr u q i e
  | holdAsk q => exact serving_standing he fun u => standing_serveHoldAsk u q
  | holdEnd q => exact serving_standing he fun u => standing_serveHoldEnd u q
  | nvWriteComplete b =>
    refine acting_keeps standing (work := fun s => match s.nvWrite with
      | some w => serveNvWrite w b s
      | none => s) he fun u => ?_
    split <;> simp
  | forwardCandidate f => exact acting_keeps standing he fun u => standing_candidateTaken u f
  | delayTimerExpiry =>
    exact acting_keeps standing (work := fun s => if s.run.delay = some 0 then endStep (delayExpired s) else s) he
      fun u => by simp
  | establishDeadlineExpiry =>
    exact acting_keeps standing (work := fun s =>
      if s.run.state = .staging ∧ s.run.deadline = some 0 then endStep (deadlineExpired s) else s) he fun u => by simp
  | plantSendComplete => exact acting_keeps standing he standing_sendComplete
  | plantFrameReceived bs => exact acting_keeps standing he fun u => standing_plantBytes u bs
  | cmdAck ch r => exact acting_keeps standing he fun u => standing_ackTaken u r
  | stateReply bs => exact acting_keeps standing he fun u => standing_stateTaken u bs
  | forwardReply k p => exact acting_keeps standing he fun u => standing_forwardTaken u k p
  | proofTimerExpiry o =>
    exact acting_keeps standing (work := fun s =>
      if (outRec s o).timer = some 0 then endStep (proofExpired o s) else s) he fun u => by simp
  | replyWindowExpiry =>
    refine acting_keeps standing (work := fun s => match s.plant.exchange with
      | some x => if x.window.isSome then endStep (windowExpired x s) else s
      | none => s) he fun u => ?_
    split <;> simp
  | pacerTimerExpiry =>
    exact acting_keeps standing (work := fun s =>
      if s.plant.pacer.isSome then endStep (setPlant (fun p => { p with pacer := none, ready := true }) s) else s) he
      fun u => by simp
  | forwardWaitExpiry n => exact acting_keeps standing he fun u => standing_forwardWaited u n
  | holdTimerExpiry =>
    exact acting_keeps standing (work := fun s =>
      if s.plant.hold.state = .held ∧ s.plant.hold.timer = some 0 then endStep (releaseHold .timeout s) else s) he
      fun u => by simp
  | startHeld f => exact acting_keeps standing he fun u => standing_warnHeld u f
  | supervisionTimerExpiry =>
    exact acting_keeps standing (work := fun s => if s.ff.timer = some 0 then panelLost s else s) he fun u => by simp

end Sys2Proof.Machine
end

section
/-! Test runs: TEST_RUN and TEST_END (O37). -/

namespace Sys2Proof.Machine

variable {s : State}

/-- R30: fire mode is any run state but IDLE. -/
theorem fireMode_iff : fireMode s = true ↔ s.run.state ≠ .idle := decide_eq_true_iff

theorem fireMode_false_iff : fireMode s = false ↔ s.run.state = .idle := by
  rw [← Bool.not_eq_true, fireMode_iff, not_not]

/-- R38: outside fire mode a test load is a load. -/
theorem instructTest_of_idle {n : Nat} (h : s.run.state = .idle) : instructTest n s = loadRun true n [] s := by
  simp [instructTest, fireMode_false_iff.2 h]

/-- R38: in fire mode an end instruction is an end. -/
theorem instructEnd_of_run (h : s.run.state ≠ .idle) : instructEnd s = endRun s := by
  simp [instructEnd, fireMode_iff.2 h]

/-- R31: the refusals of TEST_RUN in order, and the load. -/
theorem serveTestRun_enterServing (req : Requester) (n : Nat) (row : Instr) (s : State) :
    serveTestRun req n (enterServing row s) =
      if s.mode ≠ .service then answer req .wrongMode s
      else if n = 0 ∨ 48 < n then answer req .badIndex s
      else if s.run.state ≠ .idle then answer req .runActive s
      else if s.plant.hold.state ≠ .free then answer req .busy s
      else if scenarioOk s.tables n = false then answer req .badValue s
      else endStep (answer req .ok (drain (loadRun true n [] (enterServing row s)))) := by
  unfold serveTestRun
  simp only [answer_enterServing, fireMode_iff, Bool.not_eq_true']
  refine if_congr Iff.rfl rfl (if_congr Iff.rfl rfl ?_)
  split
  case isTrue h => exact (if_pos h).symm
  case isFalse h =>
    rw [instructTest_of_idle (s := enterServing row s) (not_not.1 h)]
    exact (if_neg h).symm

/-- R32: the refusal of TEST_END, and the end of a run. -/
theorem serveTestEnd_enterServing (req : Requester) (row : Instr) (s : State) :
    serveTestEnd req (enterServing row s) =
      if s.mode ≠ .service then answer req .wrongMode s
      else if s.run.state = .idle then answer req .ok s
      else endStep (answer req .ok (drain (endRun (enterServing row s)))) := by
  unfold serveTestEnd
  simp only [answer_enterServing, fireMode_iff]
  refine if_congr Iff.rfl rfl ?_
  split
  case isTrue h =>
    rw [instructEnd_of_run (s := enterServing row s) h]
    exact (if_neg h).symm
  case isFalse h => exact (if_pos (not_not.1 h)).symm

/-- Settles O37: each request is served as R31 and R32 say. -/
theorem testRunsBeginAndEnd : Obligations.TestRunsBeginAndEnd := by
  intro req n s
  refine ⟨fun hw => ?_, fun hw => ?_⟩
  · exact (serving_served hw).trans (congrArg _ (serveTestRun_enterServing req n _ s))
  · exact (serving_served hw).trans (congrArg _ (serveTestEnd_enterServing req _ s))

end Sys2Proof.Machine
end

section
/-! Power failure, the reset line and the lamps (O18). -/

namespace Sys2Proof.Machine

variable {s : State}

/-- R174: a write that is cut off leaves the stored entry as it was or as written, and changes nothing else. -/
theorem interruptWrite_cutOff (s : State) :
    ∃ (nv : Tables) (n : Nat), cutOff s nv ∧ interruptWrite s = { s with nvWrite := none, nv := nv, free := n } := by
  cases hw : s.nvWrite with
  | none =>
    refine ⟨s.nv, s.free, .inl rfl, ?_⟩
    simp only [interruptWrite, hw]
    rw [← hw]
  | some w =>
    refine ⟨if Config.interruptedWriteStored s.free then putEntry w.ref w.fields s.nv else s.nv, s.free + 1, ?_, ?_⟩
    · split
      · exact .inr ⟨w, hw, rfl⟩
      · exact .inl rfl
    · simp only [interruptWrite, hw]
      rfl

theorem awake_iff : awake s = true ↔ s.powered = true ∧ s.resetHeld = false := by
  simp [awake]

theorem not_awake (h : s.powered = false ∨ s.resetHeld = true) : ¬ awake s = true := by
  rcases h with h | h <;> simp [awake, h]

/-- R177: the tick of a stopped sequencer. -/
theorem execUptimeTick_stopped (h : s.powered = false ∨ s.resetHeld = true) :
    execUptimeTick s =
      .next (if s.powered then { s with uptime := (s.uptime + 1) % 4294967296 } else s) := by
  by_cases hp : s.powered = true
  · have hr : s.resetHeld = true := h.resolve_left (by simp [hp])
    simp [execUptimeTick, hp, hr, tickUptime, Config.uptimeModulus]
  · simp [execUptimeTick, hp]

theorem faultCount_pos_iff : 0 < faultCount s ↔ ∃ o ∈ configured s, (outRec s o).act = .fault := by
  simp [faultCount, List.length_pos_iff_exists_mem, List.mem_filter]

/-- R30, R82: the lamps of a running sequencer. -/
theorem lamps_awake (h : awake s = true) :
    (fireModeLamp s = true ↔ s.run.state ≠ .idle) ∧
      (faultLamp s = true ↔ (∃ o ∈ configured s, (outRec s o).act = .fault) ∨ s.capture.locked ≠ none) := by
  simp [fireModeLamp, faultLamp, h, fireMode_iff, faultCount_pos_iff, Option.isSome_iff_ne_none]

/-- Settles O18: the cut-off write, the stopped sequencer command by command, and the lamps. -/
theorem lampsAndTheStoppedSequencer : Obligations.LampsAndTheStoppedSequencer := by
  refine ⟨fun s => ?_, fun s => ?_, fun c s h => ?_, fun s hp hr => ?_⟩
  · obtain ⟨nv, n, hc, hi⟩ := interruptWrite_cutOff s
    exact ⟨nv, n, hc, by simp only [exec, execResetLineAssert, hi]⟩
  · obtain ⟨nv, n, hc, hi⟩ := interruptWrite_cutOff s
    exact ⟨nv, n, hc, by simp only [exec, execPowerFailure, hi]⟩
  · have ha := not_awake h
    refine ⟨rfl, by simp [fireModeLamp, ha], by simp [faultLamp, ha], ?_⟩
    cases c with
    | powerUp | powerFailure | resetLineAssert | resetLineRelease => trivial
    | uptimeTick => exact execUptimeTick_stopped h
    | _ => exact congrArg Host.Outcome.next (if_neg ha)
  · exact ⟨hp, lamps_awake (awake_iff.2 ⟨hp, hr⟩)⟩

end Sys2Proof.Machine
end

section
/-! Which zones work may make ACTIVE: Zone Intake makes none, and the blocks below it do not move the zone records. -/

namespace Sys2Proof.Machine

/-- The zone records are in canonical form. -/
def zonesWf (s : State) : Prop := sparseWf coldZone s.zones = true

/-- 1.3: the zone is ACTIVE. -/
def isActive (s : State) (z : Nat) : Prop := (zoneRec s z).state = .active

/-- Work that makes no zone ACTIVE but those of `zs` (R10), and neither begins, changes nor ends a run. -/
structure Activates (zs : List Nat) (s t : State) : Prop where
  key : runKey t = runKey s
  fire : fireMode t = fireMode s
  wf : zonesWf s → zonesWf t
  active : zonesWf s → ∀ z, isActive t z → isActive s z ∨ z ∈ zs

variable {zs ys : List Nat} {s t u : State} {z : Nat}

theorem Activates.refl (s : State) : Activates zs s s := ⟨rfl, rfl, id, fun _ _ h => .inl h⟩

theorem Activates.trans (h : Activates zs s t) (h' : Activates zs t u) : Activates zs s u where
  key := h'.key.trans h.key
  fire := h'.fire.trans h.fire
  wf := h'.wf ∘ h.wf
  active hs z hz := (h'.active (h.wf hs) z hz).elim (h.active hs z) .inr

theorem Activates.mono (h : Activates zs s t) (hs : zs ⊆ ys) : Activates ys s t :=
  ⟨h.key, h.fire, h.wf, fun w z hz => (h.active w z hz).imp id fun hm => hs hm⟩

/-- Work that moves neither the zone records nor the run. -/
theorem Activates.of_frame (h : Activates zs s t) (ho : owned u = owned t) (hf : (standing u).1 = (standing t).1) :
    Activates zs s u := by
  have hz : u.zones = t.zones := congrArg Prod.fst ho
  refine h.trans ⟨congrArg Prod.snd ho, hf, fun w => ?_, fun _ z hz' => .inl ?_⟩
  · simpa only [zonesWf, hz] using w
  · simpa only [isActive, zoneRec, hz] using hz'

theorem zoneRec_setZone_other {r : ZoneRec} {x : Nat} (h : x ≠ z) : zoneRec (setZone z r s) x = zoneRec s x :=
  sget_sput_other h

theorem zoneRec_setZone_same {r : ZoneRec} (hs : zonesWf s) : zoneRec (setZone z r s) z = r := sget_sput_same hs

/-- A written zone record that is ACTIVE belongs to a zone that was ACTIVE or may be made so. -/
theorem activates_setZone (h : Activates zs s t) {r : ZoneRec}
    (hr : r.state = .active → (zoneRec t z).state = .active ∨ z ∈ zs) : Activates zs s (setZone z r t) := by
  refine h.trans ⟨rfl, rfl, sparseWf_sput, fun hw x hx => ?_⟩
  by_cases hxz : x = z
  · subst hxz
    exact hr (by rwa [isActive, zoneRec_setZone_same hw] at hx)
  · exact .inl (by rwa [isActive, zoneRec_setZone_other hxz] at hx)

/-- A zone record that is written keeps its state. -/
theorem activates_setZone_kept (h : Activates zs s t) {r : ZoneRec} (hr : r.state = (zoneRec t z).state) :
    Activates zs s (setZone z r t) := activates_setZone h fun e => .inl (hr ▸ e)

/-- A zone record that is written is not ACTIVE. -/
theorem activates_setZone_inactive (h : Activates zs s t) {r : ZoneRec} (hr : r.state ≠ .active) :
    Activates zs s (setZone z r t) := activates_setZone h fun e => absurd e hr

theorem activates_foldl {α : Type} {f : State → α → State}
    (hf : ∀ {u : State} (x : α), Activates zs s u → Activates zs s (f u x)) {xs : List α} (h : Activates zs s t) :
    Activates zs s (xs.foldl f t) := by
  induction xs generalizing t with
  | nil => exact h
  | cons x xs ih => exact ih (hf x h)

theorem activates_raise (h : Activates zs s t) {ev : Ev} {a b : Nat} : Activates zs s (raise ev a b t) :=
  h.of_frame (by simp) (by simp)

theorem activates_unmapped (h : Activates zs s t) {a b : Nat} : Activates zs s (unmapped a b t) :=
  h.of_frame (by simp) (by simp)

theorem activates_answer (h : Activates zs s t) {req : Requester} {r : Result} : Activates zs s (answer req r t) :=
  h.of_frame (by simp) (by simp)

theorem activates_drain (h : Activates zs s t) : Activates zs s (drain t) := h.of_frame (by simp) (by simp)

theorem activates_endStep (h : Activates zs s t) : Activates zs s (endStep t) := h.of_frame (by simp) (by simp)

theorem activates_changeMode (h : Activates zs s t) {m : Mode} : Activates zs s (changeMode m t) :=
  h.of_frame (by simp) (by simp)

/-! ### Zone Intake (chapter 1) -/

theorem activates_tellConfirmed (h : Activates zs s t) : Activates zs s (tellConfirmed z t) := by
  have hr : fireMode (revokeHold t) = fireMode t := congrArg Prod.fst (standing_revokeHold t)
  refine h.of_frame (by simp) ?_
  unfold tellConfirmed
  dsimp only
  split <;> exact hr

theorem activates_tellReset (h : Activates zs s t) : Activates zs s (tellReset z t) := by
  refine h.of_frame (by simp) ?_
  unfold tellReset
  split <;> rfl

/-- R8. -/
theorem activates_confirmZone (h : Activates zs s t) {a : AlarmSource} {set : List AlarmSource} :
    Activates zs s (confirmZone z a set t) :=
  activates_tellConfirmed (activates_raise (activates_setZone_inactive h (by simp)))

/-- R6, R7, R13. -/
theorem activates_alarmArrival (h : Activates zs s t) {a : AlarmSource} : Activates zs s (alarmArrival z a t) := by
  unfold alarmArrival
  dsimp only
  split
  case h_5 =>
    split
    · exact activates_confirmZone h
    · exact activates_raise (activates_setZone_inactive h (by simp))
  case h_6 =>
    split
    · exact activates_confirmZone h
    · exact activates_setZone_kept h (by rfl)
  all_goals exact activates_setZone_kept h (by rfl)

/-- R4. -/
theorem activates_zoneEventTaken (h : Activates zs s t) {source cls : Nat} :
    Activates zs s (zoneEventTaken z source cls t) := by
  unfold zoneEventTaken
  split
  · split
    · exact activates_alarmArrival h
    · exact activates_unmapped h
  · exact activates_unmapped h

/-- R9. -/
theorem activates_zoneResetTaken (h : Activates zs s t) : Activates zs s (zoneResetTaken z t) := by
  have hc : Activates zs s (setZone z coldZone t) := activates_setZone_inactive h (by decide)
  unfold zoneResetTaken
  dsimp only
  split
  · exact activates_unmapped h
  split
  · exact activates_raise (activates_setZone_kept h (by rfl))
  split
  · exact activates_tellReset (activates_raise hc)
  · exact activates_raise hc

/-- R12. -/
theorem activates_isolateZone (h : Activates zs s t) : Activates zs s (isolateZone z t).1 := by
  unfold isolateZone
  dsimp only
  split <;> dsimp only
  case h_1 | h_2 => exact activates_raise (activates_setZone_inactive h (by simp))
  all_goals exact h

/-- R14. -/
theorem activates_deisolateZone (h : Activates zs s t) : Activates zs s (deisolateZone z t) := by
  unfold deisolateZone
  dsimp only
  split
  · exact h
  split
  · exact activates_tellConfirmed (activates_raise (activates_raise (activates_setZone_inactive h (by simp))))
  split
  · exact activates_raise (activates_raise (activates_setZone_inactive h (by simp)))
  · exact activates_raise (activates_setZone_inactive h (by simp))

/-- R16. -/
theorem activates_reevaluateZone (h : Activates zs s t) : Activates zs s (reevaluateZone z t) := by
  unfold reevaluateZone
  dsimp only
  split
  · split
    · exact h
    · exact activates_raise (activates_setZone_inactive h (by decide))
  split
  · exact activates_raise (activates_setZone_inactive h (by simp))
  · exact h

theorem activates_reevaluateZones (h : Activates zs s t) : Activates zs s (reevaluateZones t) :=
  activates_foldl (fun _ hu => activates_tellConfirmed hu) (activates_foldl (fun _ hu => activates_reevaluateZone hu) h)

/-- R11, R12. -/
theorem activates_serveIsolateOn (h : Activates zs s t) {req : Requester} :
    Activates zs s (serveIsolateOn req z t) := by
  unfold serveIsolateOn
  split
  · exact activates_answer h
  · exact activates_answer (activates_isolateZone h)

/-- R11, R14. -/
theorem activates_serveIsolateOff (h : Activates zs s t) {req : Requester} :
    Activates zs s (serveIsolateOff req z t) := by
  unfold serveIsolateOff
  split
  · exact activates_answer h
  · exact activates_endStep (activates_answer (activates_deisolateZone h))

/-! ### Frames of the panel link (R149, R151) -/

theorem activates_takeArrival (h : Activates zs s t) {f : Frame} : Activates zs s (takeArrival f t) := by
  unfold takeArrival
  dsimp only
  split
  · split
    · exact activates_endStep (activates_zoneEventTaken h)
    · exact h.of_frame (by simp) (by simp)
  split
  · split
    · exact activates_zoneResetTaken h
    · exact h.of_frame (by simp) (by simp)
  split
  · split
    · exact h.of_frame (by simp) (by simp)
    · exact h.of_frame (by simp) (by simp)
  · split
    · exact h.of_frame (by simp) (by simp)
    · exact h.of_frame (by simp) (by simp)

theorem activates_panelBytes (h : Activates zs s t) {bs : List Byte} : Activates zs s (panelBytes bs t) := by
  unfold panelBytes
  split
  · exact h
  · exact h.of_frame (by simp) (by simp)
  · unfold sortFrame
    split
    · exact h
    split
    · exact h.of_frame (by simp) (by simp)
    split
    · exact h.of_frame (by simp) (by simp)
    split
    · exact activates_takeArrival h
    · exact activates_unmapped h

/-! ### What Zone Intake takes during a decision (R20) -/

theorem activates_takeIntake (h : Activates zs s t) {a : IntakeArrival} : Activates zs s (takeIntake a t) := by
  cases a with
  | event => exact activates_zoneEventTaken h
  | reset => exact activates_zoneResetTaken h

theorem activates_takeGroup {p : Placing} (h : Activates zs s p.state) : Activates zs s (takeGroup p).state := by
  unfold takeGroup
  split
  · exact h
  · exact activates_foldl (fun _ hu => activates_takeIntake hu) h

theorem activates_takeLeft {p : Placing} (h : Activates zs s p.state) : Activates zs s (takeLeft p).state :=
  activates_foldl (fun _ hu => activates_takeIntake hu) h

end Sys2Proof.Machine
end

section
/-! What a load, a switch and an end make of fire mode and the run's key, and what the Selector's instruction comes to
(R25). -/

namespace Sys2Proof.Machine

/-! ### Load, switch and end (R39, R48, R49) -/

section
variable (s : State)

@[simp] theorem owned_loadRun (test : Bool) (n : Nat) (served : List Nat) :
    owned (loadRun test n served s) = (s.zones, n, served, test) := by
  unfold loadRun
  dsimp only
  rw [owned_advance]
  split <;> simp <;> rfl

@[simp] theorem standing_loadRun (test : Bool) (n : Nat) (served : List Nat) :
    standing (loadRun test n served s) = (true, s.selector) := by
  unfold loadRun
  dsimp only
  rw [standing_advance]
  split <;> simp <;> rfl

/-- A change of the run's context moves of `owned` its key alone. -/
theorem owned_setRun_eq (f : Run → Run) :
    owned (setRun f s) = ((owned s).1, (f s.run).scenario, (f s.run).served, (f s.run).test) := rfl

/-- The TEST flag as a part of `owned`, by which the frame lemmas reach it. -/
theorem test_eq_owned : s.run.test = (owned s).2.2.2 := rfl

theorem standing_setRun_eq (f : Run → Run) :
    standing (setRun f s) = (decide ((f s.run).state ≠ .idle), (standing s).2) := rfl

@[simp] theorem owned_switchRun (n : Nat) (served : List Nat) :
    owned (switchRun n served s) = (s.zones, n, served, s.run.test) := by
  unfold switchRun
  dsimp only
  rw [owned_advance]
  split <;> simp [owned_setRun_eq, test_eq_owned] <;> rfl

@[simp] theorem standing_switchRun (n : Nat) (served : List Nat) :
    standing (switchRun n served s) = (true, s.selector) := by
  unfold switchRun
  dsimp only
  rw [standing_advance]
  split <;> simp [standing_setRun_eq] <;> rfl

@[simp] theorem owned_endRun : owned (endRun s) = (s.zones, 0, [], false) := by
  refine Prod.ext ?_ rfl
  exact owned_endRun_fst s

@[simp] theorem standing_endRun : standing (endRun s) = (false, s.selector) := by
  unfold endRun
  dsimp only
  rw [standing_setRun_eq]
  split <;> simp <;> rfl

end

/-! ### The instruction of a decision (R25) -/

/-- What a decision leaves of the zone records and notices of `s`: the run on the zones `served` with their scenario, or
no run where there is none. -/
structure Placed (served : List Nat) (scenario : Nat) (s t : State) : Prop where
  zones : t.zones = s.zones
  selector : t.selector = s.selector
  serves : t.run.served = served
  run : served ≠ [] → fireMode t = true ∧ t.run.test = false ∧ t.run.scenario = scenario
  idle : served = [] → fireMode t = false

variable {s t u : State} {served : List Nat} {scenario : Nat}

theorem Placed.of_eq {n : Nat} {fire : Bool} (ho : owned t = (s.zones, n, served, false))
    (hs : standing t = (fire, s.selector)) (hr : served ≠ [] → fire = true ∧ n = scenario)
    (hi : served = [] → fire = false) : Placed served scenario s t := by
  simp only [owned, runKey, standing, Prod.mk.injEq] at ho hs
  obtain ⟨hz, hn, hv, ht⟩ := ho
  obtain ⟨hf, hl⟩ := hs
  exact ⟨hz, hl, hv, fun h => ⟨hf.trans (hr h).1, ht, hn.trans (hr h).2⟩, fun h => hf.trans (hi h)⟩

/-- R25: a load, a switch, an end or nothing leaves the run on the zones instructed, where the run before was no test
run. -/
theorem placed_instruct (hn : ¬ testActive s) (hi : fireMode s = false → s.run.served = []) :
    Placed served scenario s (instruct served scenario s) := by
  unfold instruct instructLoad instructEnd instructSwitch
  cases hf : fireMode s with
  | false =>
    cases hv : served with
    | nil => exact ⟨rfl, rfl, hi hf, fun h => absurd rfl h, fun _ => hf⟩
    | cons z zs => exact .of_eq (owned_loadRun ..) (standing_loadRun ..) (fun _ => ⟨rfl, rfl⟩) nofun
  | true =>
    have ht : s.run.test = false := Bool.eq_false_iff.2 fun h => hn ⟨hf, h⟩
    cases hv : served with
    | nil => exact .of_eq (owned_endRun s) (standing_endRun s) (fun h => absurd rfl h) fun _ => rfl
    | cons z zs =>
      simp only [Bool.not_true, Bool.false_eq_true, if_false, List.isEmpty_cons, if_true]
      split
      · rename_i h
        exact ⟨rfl, rfl, h.1.symm, fun _ => ⟨hf, ht, h.2.symm⟩, nofun⟩
      · exact .of_eq (by rw [owned_switchRun, ht]) (standing_switchRun ..) (fun _ => ⟨rfl, rfl⟩) nofun

/-- What a decision leaves stands under work that moves neither the zone records nor the run. -/
theorem Placed.trans_frame (h : Placed served scenario s t) (ho : owned u = owned t) (hs : standing u = standing t) :
    Placed served scenario s u := by
  simp only [owned, runKey, standing, Prod.mk.injEq] at ho hs
  obtain ⟨hz, hn, hv, ht⟩ := ho
  obtain ⟨hf, hl⟩ := hs
  exact ⟨hz.trans h.zones, hl.trans h.selector, hv.trans h.serves,
    fun hne => let ⟨h1, h2, h3⟩ := h.run hne; ⟨hf.trans h1, ht.trans h2, hn.trans h3⟩, fun he => hf.trans (h.idle he)⟩

end Sys2Proof.Machine
end

section
/-! The placement decision: the zones that it chooses, what its requests do, and that its repeats come to an end. -/

namespace Sys2Proof.Machine

variable {s : State} {made waiting : List Nat} {z : Nat}

/-! ### The new served zones come from the kept and the waiting ones (R23) -/

theorem mem_keptSet : z ∈ keptSet s made ↔ z ∈ s.run.served ∧ isActive s z ∧ z ∉ made := by
  simp [keptSet, isActive]

/-- R23: a zone is served alone or with another of the waiting zones. -/
theorem serveWith_zones (p : Nat) (waiting : List Nat) :
    (serveWith s p waiting).1 = [p] ∨
      ∃ q ∈ waiting, q ≠ p ∧ ((serveWith s p waiting).1 = [p, q] ∨ (serveWith s p waiting).1 = [q, p]) := by
  rcases serveWith_cases (s := s) p waiting with ⟨before, q, after, e, hl, ⟨-, -, hj⟩, -, he⟩ | ⟨-, he⟩
  · have hq : q ∈ waiting.filter (fun z => z != p) := by simp [hl]
    obtain ⟨hw, hp⟩ := List.mem_filter.1 hq
    refine .inr ⟨q, hw, by simpa using hp, ?_⟩
    rw [he]
    rcases hj with ⟨ha, hb⟩ | ⟨ha, hb⟩ <;> simp [ha, hb]
  · exact .inl (by rw [he])

/-- R23, R24: the new served zones are none, those of a kept or waiting zone, or all the kept ones. -/
theorem newServed_cases (s : State) (made waiting : List Nat) :
    (keptSet s made = [] ∧ waiting = [] ∧ newServed s made waiting = ([], 0)) ∨
      (∃ p, (keptSet s made = [p] ∨ (keptSet s made = [] ∧ p ∈ waiting)) ∧
        newServed s made waiting = serveWith s p waiting) ∨
      newServed s made waiting = (keptSet s made, s.run.scenario) := by
  match hk : keptSet s made, hw : waiting with
  | [], [] => exact .inl ⟨rfl, rfl, newServed_none hk rfl⟩
  | [], c :: rest => exact .inr (.inl ⟨c, .inr ⟨rfl, List.mem_cons_self⟩, newServed_first hk rfl⟩)
  | [p], w => exact .inr (.inl ⟨p, .inl rfl, newServed_one hk⟩)
  | p :: q :: rest, w => exact .inr (.inr (by simp only [newServed, hk]))

theorem keptSet_subset_newServed (h : z ∈ keptSet s made) : z ∈ (newServed s made waiting).1 := by
  rcases newServed_cases s made waiting with ⟨hk, -, -⟩ | ⟨p, hp, he⟩ | he
  · rw [hk] at h
    cases h
  · have hz : z = p := by
      rcases hp with hp | ⟨hp, -⟩
      · simpa [hp] using h
      · simp [hp] at h
    subst hz
    rw [he]
    rcases serveWith_zones (s := s) z waiting with hs | ⟨q, -, -, hs | hs⟩ <;> simp [hs]
  · rwa [he]

theorem kept_or_waits_of_newServed (h : z ∈ (newServed s made waiting).1) : z ∈ keptSet s made ∨ z ∈ waiting := by
  rcases newServed_cases s made waiting with ⟨-, -, he⟩ | ⟨p, hp, he⟩ | he
  · simp [he] at h
  · have hpw : p ∈ keptSet s made ∨ p ∈ waiting := hp.imp (fun hk => by simp [hk]) fun hk => hk.2
    rw [he] at h
    have hz : z = p ∨ z ∈ waiting := by
      rcases serveWith_zones (s := s) p waiting with hs | ⟨q, hq, -, hs | hs⟩ <;>
        simp only [hs, List.mem_cons, List.not_mem_nil, or_false] at h
      · exact .inl h
      · exact h.imp id fun (hzq : z = q) => hzq ▸ hq
      · exact h.symm.imp id fun (hzq : z = q) => hzq ▸ hq
    rcases hz with rfl | hz
    · exact hpw
    · exact .inr hz
  · exact .inl (by rwa [he] at h)

/-- The zones that a decision asks to become ACTIVE. -/
def asksActive (s : State) (made : List Nat) : List Nat :=
  (newServed s made (waitingSet s made)).1.filter (fun z => (zoneRec s z).state != .active)

/-- The zones that a decision asks to become SECONDARY. -/
def asksSecondary (s : State) (made : List Nat) : List Nat :=
  (waitingSet s made).filter
    (fun z => (zoneRec s z).state != .secondary && !(newServed s made (waitingSet s made)).1.contains z)

theorem mem_asksActive :
    z ∈ asksActive s made ↔ z ∈ (newServed s made (waitingSet s made)).1 ∧ ¬ isActive s z := by
  simp [asksActive, isActive]

theorem mem_asksSecondary : z ∈ asksSecondary s made ↔
    z ∈ waitingSet s made ∧ (zoneRec s z).state ≠ .secondary ∧ z ∉ (newServed s made (waitingSet s made)).1 := by
  simp [asksSecondary]

/-- A zone that is asked to become ACTIVE waits: the kept ones are ACTIVE. -/
theorem waits_of_asksActive (h : z ∈ asksActive s made) : z ∈ waitingSet s made := by
  obtain ⟨ht, ha⟩ := mem_asksActive.1 h
  exact (kept_or_waits_of_newServed ht).resolve_left fun hk => ha (mem_keptSet.1 hk).2.1

theorem isConfirmed_of_waits (h : z ∈ waitingSet s made) : isConfirmed (zoneRec s z).state = true := by
  obtain ⟨-, -, h⟩ := mem_waitingSet.1 h
  rcases h with h | h | ⟨-, h⟩ <;> simp [h, isConfirmed]

theorem nodup_waitingSet (s : State) (made : List Nat) : (waitingSet s made).Nodup :=
  (sortBy_perm _).nodup_iff.2 (List.Nodup.filter _ (by decide))

theorem nodup_asksActive (s : State) (made : List Nat) : (asksActive s made).Nodup := by
  rcases newServed_cases s made (waitingSet s made) with ⟨-, -, he⟩ | ⟨p, -, he⟩ | he
  · simp [asksActive, he]
  · unfold asksActive
    rw [he]
    refine List.Nodup.filter _ ?_
    rcases serveWith_zones (s := s) p (waitingSet s made) with hs | ⟨q, -, hq, hs | hs⟩
    · simp [hs]
    · simp [hs, hq.symm]
    · simp [hs, hq]
  · have hnil : asksActive s made = [] := by
      refine List.eq_nil_iff_forall_not_mem.2 fun z hz => ?_
      obtain ⟨ht, ha⟩ := mem_asksActive.1 hz
      rw [he] at ht
      exact ha (mem_keptSet.1 ht).2.1
    rw [hnil]
    exact List.nodup_nil

/-- R24: an ACTIVE zone that the run serves or that this decision has made ACTIVE is a kept or a waiting one. -/
theorem kept_or_waits_of_active (hm : z ∈ made → 1 ≤ z ∧ z ≤ 32) (ha : isActive s z)
    (h : z ∈ s.run.served ∨ z ∈ made) : z ∈ keptSet s made ∨ z ∈ waitingSet s made := by
  by_cases hz : z ∈ made
  · obtain ⟨h1, h2⟩ := hm hz
    exact .inr (mem_waitingSet.2 ⟨h1, h2, .inr (.inr ⟨hz, ha⟩)⟩)
  · exact .inl (mem_keptSet.2 ⟨h.resolve_right hz, ha, hz⟩)

end Sys2Proof.Machine
end

section
/-! The placement decision: what its requests do, and that its repeats come to an end (R10, R20, R24). -/

namespace Sys2Proof.Machine

variable {s t : State} {p : Placing} {z : Nat} {zs : List Nat} {scenario : Nat}

/-! ### Requests (R10) -/

/-- A written value that is not the default is read back, also where the contents are not in canonical form. -/
theorem sget_sput_of_ne {α : Type} [DecidableEq α] {d v : α} {m : Sparse α} {n : Nat} (hv : v ≠ d) :
    sget d (sput d n v m) n = v := by
  induction m with
  | nil => simp [sput, sget, hv]
  | cons q m ih =>
    obtain ⟨k, w⟩ := q
    by_cases hlt : n < k
    · simp [sput, sget, hv, hlt]
    by_cases hk : n = k
    · simp [sput, sget, hv, hk]
    · simp [sput, sget, hlt, hk, ih]

theorem zoneRec_of_owned (h : owned t = owned s) (z : Nat) : zoneRec t z = zoneRec s z :=
  congrArg (fun x : Sparse ZoneRec × Nat × List Nat × Bool => sget coldZone x.1 z) h

theorem zoneRec_setZone_confirmed {r : ZoneRec} (h : isConfirmed r.state = true) (x : Nat) :
    zoneRec (setZone z r s) x = if x = z then r else zoneRec s x := by
  split
  · rename_i hx
    subst hx
    refine sget_sput_of_ne ?_
    rintro rfl
    cases h
  · rename_i hx
    exact zoneRec_setZone_other hx

/-- R10: a request is taken for a confirmed zone, and refused for any other. -/
theorem zoneRequest_taken {want : ZoneState} {ev : Ev} {d : Nat} :
    (zoneRequest z want ev d s).2 = isConfirmed (zoneRec s z).state := by
  unfold zoneRequest
  dsimp only
  by_cases hc : isConfirmed (zoneRec s z).state = true
  · simp only [hc, Bool.not_true, Bool.false_eq_true, if_false]
    split <;> rfl
  · simp [hc]

theorem zoneRequest_refused {want : ZoneState} {ev : Ev} {d : Nat} (h : (zoneRequest z want ev d s).2 = false) :
    (zoneRequest z want ev d s).1 = s := by
  rw [zoneRequest_taken] at h
  simp [zoneRequest, h]

/-- R10: a request that is taken makes its zone what it asks for, and no other zone is touched. -/
theorem zoneRec_zoneRequest {want : ZoneState} {ev : Ev} {d : Nat} (hw : isConfirmed want = true) (x : Nat) :
    zoneRec (zoneRequest z want ev d s).1 x =
      if x = z ∧ isConfirmed (zoneRec s z).state = true then { zoneRec s x with state := want } else zoneRec s x := by
  unfold zoneRequest
  dsimp only
  by_cases hc : isConfirmed (zoneRec s z).state = true
  · by_cases hs : (zoneRec s z).state = want
    · by_cases hx : x = z
      · subst hx
        simp [hc, ← hs]
      · simp [hs, hx, hw]
    · by_cases hx : x = z
      · subst hx
        simp [hc, hs, zoneRec_of_owned (owned_raise _ _ _ _), zoneRec_setZone_confirmed, hw]
      · simp [hc, hs, hx, zoneRec_of_owned (owned_raise _ _ _ _), zoneRec_setZone_confirmed, hw]
  · simp [hc]

theorem isConfirmed_zoneRequest {want : ZoneState} {ev : Ev} {d : Nat} (hw : isConfirmed want = true) (x : Nat) :
    isConfirmed (zoneRec (zoneRequest z want ev d s).1 x).state = isConfirmed (zoneRec s x).state := by
  rw [zoneRec_zoneRequest hw]
  split
  · rename_i h
    obtain ⟨rfl, hc⟩ := h
    exact hw.trans hc.symm
  · rfl

/-- R10: a zone that was asked to become SECONDARY is not ACTIVE. -/
theorem not_active_zoneRequest {d : Nat} : ¬ isActive (zoneRequest z .secondary .zoneSecondary d s).1 z := by
  unfold isActive
  rw [zoneRec_zoneRequest rfl]
  split
  · simp
  · rename_i h
    intro ha
    exact h ⟨rfl, by rw [ha]; rfl⟩

/-- A request makes no zone ACTIVE but its own. -/
theorem activates_zoneRequest {want : ZoneState} {ev : Ev} {d : Nat} (hz : want = .active → z ∈ zs) :
    Activates zs s (zoneRequest z want ev d s).1 := by
  unfold zoneRequest
  dsimp only
  split
  · exact .refl s
  split
  · exact .refl s
  · exact activates_raise (activates_setZone (.refl s) fun h => .inr (hz h))

/-! ### Arrivals during a decision (R20) -/

/-- How many arrivals Zone Intake has still to take. -/
def arrivals (p : Placing) : Nat := p.during.flatten.length

/-- R20: Zone Intake takes some arrivals, or there is nothing to take now. -/
theorem takeGroup_cases (p : Placing) :
    arrivals (takeGroup p) < arrivals p ∨ ((takeGroup p).state = p.state ∧ arrivals (takeGroup p) = arrivals p) := by
  unfold takeGroup arrivals
  split
  · exact .inr ⟨rfl, rfl⟩
  · rename_i g rest hd
    rw [hd]
    cases g with
    | nil => exact .inr ⟨rfl, by simp⟩
    | cons a g => exact .inl (by simp)

theorem arrivals_takeGroup_le (p : Placing) : arrivals (takeGroup p) ≤ arrivals p := by
  rcases takeGroup_cases p with h | ⟨-, h⟩
  · exact h.le
  · exact h.le

theorem takeGroup_made (p : Placing) : (takeGroup p).made = p.made := by
  unfold takeGroup
  split <;> rfl

theorem takeGroup_none (h : p.during = []) : takeGroup p = p := by
  simp [takeGroup, h]

/-! ### The requests for ACTIVE (R24, step 1) -/

/-- A decision after a request for ACTIVE that was taken. -/
def madeActive (scenario z : Nat) (p : Placing) : Placing :=
  { takeGroup p with
    made := (takeGroup p).made ++ [z]
    state := (zoneRequest z .active .zoneActive scenario (takeGroup p).state).1 }

theorem askActive_taken (h : isConfirmed (zoneRec (takeGroup p).state z).state = true) :
    askActive scenario (z :: zs) p = askActive scenario zs (madeActive scenario z p) := by
  rw [askActive]
  split
  · rename_i t heq
    simp only [madeActive, heq]
  · rename_i t heq
    have h' := congrArg Prod.snd heq
    rw [zoneRequest_taken, h] at h'
    cases h'

theorem askActive_refused (h : ¬ isConfirmed (zoneRec (takeGroup p).state z).state = true) :
    askActive scenario (z :: zs) p = (takeGroup p, false) := by
  rw [askActive]
  have h2 := Bool.eq_false_iff.2 h
  rw [← zoneRequest_taken (want := .active) (ev := .zoneActive) (d := scenario)] at h2
  split
  · rename_i t heq
    rw [heq] at h2
    cases h2
  · rename_i t heq
    have h1 := zoneRequest_refused h2
    rw [heq] at h1
    cases h1
    rfl

/-- The requests for ACTIVE make ACTIVE the zones that they add to those made, and no other. -/
theorem askActive_makes (scenario : Nat) (zs : List Nat) (p : Placing) :
    ∃ ys, ys ⊆ zs ∧ (askActive scenario zs p).1.made = p.made ++ ys ∧
      Activates ys p.state (askActive scenario zs p).1.state := by
  induction zs generalizing p with
  | nil => exact ⟨[], List.Subset.refl _, (List.append_nil _).symm, .refl _⟩
  | cons z zs ih =>
    by_cases h : isConfirmed (zoneRec (takeGroup p).state z).state = true
    · obtain ⟨ys, hys, hm, ha⟩ := ih (madeActive scenario z p)
      have hq : Activates (z :: ys) p.state (madeActive scenario z p).state :=
        (activates_takeGroup (.refl p.state)).trans (activates_zoneRequest fun _ => List.mem_cons_self)
      rw [askActive_taken h]
      refine ⟨z :: ys, List.cons_subset_cons z hys, ?_, hq.trans (ha.mono (List.subset_cons_self z ys))⟩
      rw [hm]
      simp [madeActive, takeGroup_made]
    · rw [askActive_refused h]
      exact ⟨[], List.nil_subset _, by simp [takeGroup_made], activates_takeGroup (.refl p.state)⟩

theorem arrivals_askActive_le (scenario : Nat) (zs : List Nat) (p : Placing) :
    arrivals (askActive scenario zs p).1 ≤ arrivals p := by
  induction zs generalizing p with
  | nil => exact le_rfl
  | cons z zs ih =>
    by_cases h : isConfirmed (zoneRec (takeGroup p).state z).state = true
    · rw [askActive_taken h]
      exact (ih _).trans (arrivals_takeGroup_le p)
    · rw [askActive_refused h]
      exact arrivals_takeGroup_le p

/-- R24: where every zone asked was confirmed, a refusal answers an arrival that Zone Intake has taken. -/
theorem arrivals_lt_of_refused (hz : ∀ z ∈ zs, isConfirmed (zoneRec p.state z).state = true)
    (h : (askActive scenario zs p).2 = false) : arrivals (askActive scenario zs p).1 < arrivals p := by
  induction zs generalizing p with
  | nil => cases h
  | cons z zs ih =>
    rcases takeGroup_cases p with hg | ⟨hs, hg⟩
    · by_cases hc : isConfirmed (zoneRec (takeGroup p).state z).state = true
      · rw [askActive_taken hc]
        exact (arrivals_askActive_le _ _ _).trans_lt hg
      · rwa [askActive_refused hc]
    · have hc : isConfirmed (zoneRec (takeGroup p).state z).state = true := by
        rw [hs]
        exact hz z List.mem_cons_self
      rw [askActive_taken hc] at h ⊢
      rw [← hg]
      refine ih (fun x hx => ?_) h
      simp only [madeActive]
      rw [isConfirmed_zoneRequest rfl, hs]
      exact hz x (List.mem_cons_of_mem z hx)

/-! ### The requests for SECONDARY (R24, step 2) -/

/-- A decision after a request for SECONDARY. -/
def madeSecondary (z : Nat) (p : Placing) : Placing :=
  { takeGroup p with state := (zoneRequest z .secondary .zoneSecondary 0 (takeGroup p).state).1 }

theorem activates_madeSecondary : Activates [] p.state (madeSecondary z p).state :=
  (activates_takeGroup (.refl p.state)).trans (activates_zoneRequest nofun)

theorem activates_askSecondary (zs : List Nat) (p : Placing) : Activates [] p.state (askSecondary zs p).state := by
  induction zs generalizing p with
  | nil => exact .refl _
  | cons z zs ih => exact activates_madeSecondary.trans (ih (madeSecondary z p))

theorem not_active_askSecondary (hw : zonesWf p.state) (hz : z ∈ zs) : ¬ isActive (askSecondary zs p).state z := by
  induction zs generalizing p with
  | nil => cases hz
  | cons x zs ih =>
    have hw' := activates_madeSecondary (z := x).wf hw
    rcases List.mem_cons.1 hz with rfl | hz
    · intro ha
      rcases (activates_askSecondary zs (madeSecondary z p)).active hw' z ha with h | h
      · exact not_active_zoneRequest h
      · cases h
    · exact ih hw' hz

/-! ### One taking of the decision, and its repeats (R23 to R25) -/

/-- The new served zones and their scenario. -/
def chosen (p : Placing) : List Nat × Nat := newServed p.state p.made (waitingSet p.state p.made)

/-- The requests for ACTIVE, and whether each was taken. -/
def activeAnswers (p : Placing) : Placing × Bool := askActive (chosen p).2 (asksActive p.state p.made) p

/-- After the requests for SECONDARY and the arrivals that are left: where the Runner is instructed. -/
def asksDone (p : Placing) : Placing := takeLeft (askSecondary (asksSecondary p.state p.made) (activeAnswers p).1)

theorem decisionTimes_succ (n : Nat) (p : Placing) :
    decisionTimes (n + 1) p =
      if (activeAnswers p).2 = true then
        { asksDone p with state := instruct (chosen p).1 (chosen p).2 (asksDone p).state }
      else decisionTimes n (takeGroup (activeAnswers p).1) := by
  rw [decisionTimes]
  split
  · rename_i q heq
    have hq : activeAnswers p = (q, false) := heq
    simp [hq]
  · rename_i q heq
    have hq : activeAnswers p = (q, true) := heq
    simp only [asksDone, hq]
    rfl

/-- A refused decision is repeated with fewer arrivals to come. -/
theorem arrivals_repeat_lt (h : ¬ (activeAnswers p).2 = true) : arrivals (takeGroup (activeAnswers p).1) < arrivals p :=
  (arrivals_takeGroup_le _).trans_lt (arrivals_lt_of_refused
    (fun _ hz => isConfirmed_of_waits (waits_of_asksActive hz)) (Bool.eq_false_iff.2 h))

/-- R24: with more repeats than arrivals allowed the decision is taken to its end. -/
theorem decisionTimes_stable {n m : Nat} (hn : arrivals p < n) (hm : arrivals p < m) :
    decisionTimes n p = decisionTimes m p := by
  induction n generalizing m p with
  | zero => omega
  | succ n ih =>
    obtain ⟨m, rfl⟩ : ∃ k, m = k + 1 := ⟨m - 1, by omega⟩
    rw [decisionTimes_succ, decisionTimes_succ]
    by_cases h : (activeAnswers p).2 = true
    · simp only [h, if_true]
    · have hlt := arrivals_repeat_lt h
      simp only [if_neg h]
      exact ih (by omega) (by omega)

/-- The decision takes itself again after a refusal. -/
theorem decisionTimes_eq {n : Nat} (hn : arrivals p < n) :
    decisionTimes n p =
      if (activeAnswers p).2 = true then
        { asksDone p with state := instruct (chosen p).1 (chosen p).2 (asksDone p).state }
      else decisionTimes n (takeGroup (activeAnswers p).1) := by
  obtain ⟨n, rfl⟩ : ∃ k, n = k + 1 := ⟨n - 1, by omega⟩
  rw [decisionTimes_succ]
  by_cases h : (activeAnswers p).2 = true
  · simp only [h, if_true]
  · have hlt := arrivals_repeat_lt h
    simp only [if_neg h]
    exact decisionTimes_stable (by omega) (by omega)

end Sys2Proof.Machine
end

section
/-! ACTIVE zones are served zones (O13): what a decision leaves, and every command. -/

namespace Sys2Proof.Machine

variable {s t u : State} {p : Placing} {z : Nat}

/-! ### A decision under way (R20, R24) -/

/-- What holds whenever a decision is taken or repeated: an ACTIVE zone is served by the run, or made ACTIVE before. -/
structure Deciding (p : Placing) : Prop where
  wf : zonesWf p.state
  active : ∀ z, isActive p.state z → z ∈ p.state.run.served ∨ z ∈ p.made
  made : ∀ z ∈ p.made, 1 ≤ z ∧ z ≤ 32

theorem isActive_of_zones (h : t.zones = s.zones) (hz : isActive t z) : isActive s z := by
  rwa [isActive, zoneRec, h] at hz

theorem served_of_key (h : runKey t = runKey s) : t.run.served = s.run.served := congrArg (fun k => k.2.1) h

/-- R24: the zones made ACTIVE before a refusal are treated as waiting by the repeat. -/
theorem Deciding.repeat (hd : Deciding p) : Deciding (takeGroup (activeAnswers p).1) := by
  obtain ⟨ys, hys, hm, ha⟩ := askActive_makes (chosen p).2 (asksActive p.state p.made) p
  have hg : Activates ys p.state (takeGroup (activeAnswers p).1).state := activates_takeGroup ha
  have hmade : (takeGroup (activeAnswers p).1).made = p.made ++ ys := (takeGroup_made _).trans hm
  refine ⟨hg.wf hd.wf, fun z hz => ?_, fun z hz => ?_⟩
  · rw [hmade, served_of_key hg.key, List.mem_append]
    rcases hg.active hd.wf z hz with h | h
    · exact (hd.active z h).imp id .inl
    · exact .inr (.inr h)
  · rw [hmade, List.mem_append] at hz
    rcases hz with hz | hz
    · exact hd.made z hz
    · obtain ⟨h1, h2, -⟩ := mem_waitingSet.1 (waits_of_asksActive (hys hz))
      exact ⟨h1, h2⟩

theorem activates_activeAnswers (p : Placing) :
    Activates (asksActive p.state p.made) p.state (activeAnswers p).1.state := by
  obtain ⟨ys, hys, -, ha⟩ := askActive_makes (chosen p).2 (asksActive p.state p.made) p
  exact ha.mono hys

theorem activates_asksDone (p : Placing) : Activates [] (activeAnswers p).1.state (asksDone p).state :=
  activates_takeLeft (activates_askSecondary _ _)

theorem Activates.of_nil {zs : List Nat} (h : Activates [] s t) : Activates zs s t := h.mono (List.nil_subset zs)

/-- R24: when the Runner is instructed, only the new served zones are ACTIVE. -/
theorem Deciding.active_chosen (hd : Deciding p) (hz : isActive (asksDone p).state z) : z ∈ (chosen p).1 := by
  have hq := activates_activeAnswers p
  have hqw := hq.wf hd.wf
  by_contra ht
  have hl : Activates [] (askSecondary (asksSecondary p.state p.made) (activeAnswers p).1).state (asksDone p).state :=
    activates_takeLeft (.refl _)
  have hs := activates_askSecondary (asksSecondary p.state p.made) (activeAnswers p).1
  have hzs := (hl.active (hs.wf hqw) z hz).resolve_right List.not_mem_nil
  have hza := (hs.active hqw z hzs).resolve_right List.not_mem_nil
  have hp : isActive p.state z := (hq.active hd.wf z hza).resolve_right fun h => ht (mem_asksActive.1 h).1
  have hw : z ∈ waitingSet p.state p.made :=
    (kept_or_waits_of_active (hd.made z) hp (hd.active z hp)).resolve_left fun hk => ht (keptSet_subset_newServed hk)
  have hsec : z ∈ asksSecondary p.state p.made := mem_asksSecondary.2 ⟨hw, by simp [show _ = _ from hp], ht⟩
  exact not_active_askSecondary hqw hsec hzs

/-- R23 to R25: a decision ends in one instruction to the Runner, with no zone ACTIVE but those that it names. -/
theorem Deciding.instructs {n : Nat} (hd : Deciding p) (hn : arrivals p < n) :
    ∃ served scenario u, (decisionTimes n p).state = instruct served scenario u ∧ runKey u = runKey p.state ∧
      fireMode u = fireMode p.state ∧ ∀ z, isActive u z → z ∈ served := by
  induction n generalizing p with
  | zero => omega
  | succ n ih =>
    rw [decisionTimes_succ]
    split
    · have hu := (activates_activeAnswers p).trans (activates_asksDone p).of_nil
      exact ⟨_, _, _, rfl, hu.key, hu.fire, fun z hz => hd.active_chosen hz⟩
    · rename_i h
      have hlt := arrivals_repeat_lt h
      obtain ⟨served, scenario, u, he, hk, hf, ha⟩ := ih hd.repeat (by omega)
      have hg : Activates (asksActive p.state p.made) p.state (takeGroup (activeAnswers p).1).state :=
        activates_takeGroup (activates_activeAnswers p)
      exact ⟨served, scenario, u, he, hk.trans hg.key, hf.trans hg.fire, ha⟩

/-! ### The law of R26 -/

theorem testActive_congr (hk : runKey t = runKey s) (hf : fireMode t = fireMode s) : testActive t ↔ testActive s := by
  have ht : t.run.test = s.run.test := congrArg (fun k => k.2.2) hk
  simp only [testActive, hf, ht]

/-- The law stands where the run is left alone and no zone becomes ACTIVE. -/
theorem ServedOk.mono (ok : ServedOk s) (hk : runKey t = runKey s) (hf : fireMode t = fireMode s)
    (ha : ∀ z, isActive t z → isActive s z) : ServedOk t := by
  have hv := served_of_key hk
  have ht : t.run.test = s.run.test := congrArg (fun k => k.2.2) hk
  refine ⟨fun z hz => ?_, fun hx => ?_, fun hi => ?_⟩
  · rw [hf, ht, hv]
    exact ok.active z (ha z hz)
  · rw [hv]
    exact ok.test ((testActive_congr hk hf).1 hx)
  · rw [hv]
    exact ok.idle (hf ▸ hi)

theorem ServedOk.activates (ok : ServedOk s) (hw : zonesWf s) (h : Activates [] s t) : ServedOk t :=
  ok.mono h.key h.fire fun z hz => (h.active hw z hz).resolve_right List.not_mem_nil

theorem ServedOk.of_frame (ok : ServedOk s) (ho : owned t = owned s) (hs : standing t = standing s) : ServedOk t :=
  ok.mono (congrArg Prod.snd ho) (congrArg Prod.fst hs) fun _ hz =>
    isActive_of_zones (congrArg Prod.fst ho) hz

/-- Without ACTIVE and served zones the law holds. -/
theorem servedOk_of_none (ha : ∀ z, ¬ isActive s z) (hv : s.run.served = []) : ServedOk s :=
  ⟨fun z hz => absurd hz (ha z), fun _ => hv, fun _ => hv⟩

/-- R26: a decision leaves only served zones ACTIVE. -/
theorem ServedOk.of_placed {served : List Nat} {scenario : Nat} (h : Placed served scenario s t)
    (ha : ∀ z, isActive s z → z ∈ served) : ServedOk t := by
  have hne : t.run.served ≠ [] → fireMode t = true ∧ t.run.test = false := fun hv =>
    let ⟨hf, ht, _⟩ := h.run (h.serves ▸ hv)
    ⟨hf, ht⟩
  refine ⟨fun z hx => ?_, fun hx => ?_, fun hf => ?_⟩
  · have hm : z ∈ t.run.served := h.serves ▸ ha z (isActive_of_zones h.zones hx)
    obtain ⟨hf, ht⟩ := hne (List.ne_nil_of_mem hm)
    exact ⟨hf, ht, hm⟩
  · by_contra hv
    exact Bool.false_ne_true ((hne hv).2.symm.trans hx.2)
  · by_contra hv
    exact Bool.false_ne_true (hf.symm.trans (hne hv).1)

/-- R23 to R26: a decision outside a test run keeps the law. -/
theorem servedOk_placementDecision (ok : ServedOk s) (hw : zonesWf s) (hn : ¬ testActive s)
    (during : List (List IntakeArrival)) : ServedOk (placementDecision during s) := by
  have hd : Deciding { during := during, made := [], state := s } :=
    ⟨hw, fun z hz => .inl (ok.active z hz).2.2, fun z hz => absurd hz List.not_mem_nil⟩
  obtain ⟨served, scenario, u, he, hk, hf, ha⟩ := hd.instructs (n := during.flatten.length + 1) (Nat.lt_succ_self _)
  refine ServedOk.of_placed (s := u) (served := served) (scenario := scenario) ?_ ha
  unfold placementDecision
  rw [he]
  refine placed_instruct (mt (testActive_congr hk hf).1 hn) fun hi => ?_
  rw [served_of_key hk]
  exact ok.idle (hf ▸ hi)

/-! ### Starts (R3, R37, R176) -/

/-- Every zone NORMAL, and no run. -/
structure Cold (s : State) : Prop where
  owns : owned s = ([], 0, [], false)
  fire : fireMode s = false

theorem Cold.of_frame (h : Cold s) (ho : owned t = owned s) (hs : standing t = standing s) : Cold t :=
  ⟨ho.trans h.owns, (congrArg Prod.fst hs).trans h.fire⟩

theorem Cold.wf (h : Cold s) : zonesWf s := by
  have hz : s.zones = [] := congrArg Prod.fst h.owns
  simp only [zonesWf, hz, sparseWf]

theorem Cold.not_testActive (h : Cold s) : ¬ testActive s := fun hx => Bool.false_ne_true (h.fire.symm.trans hx.1)

theorem Cold.servedOk (h : Cold s) : ServedOk s := by
  refine servedOk_of_none (fun z hz => ?_) (congrArg (fun x => x.2.2.1) h.owns)
  have hx : s.zones = [] := congrArg Prod.fst h.owns
  rw [isActive, zoneRec, hx] at hz
  cases hz

theorem cold_startBlocks (s : State) : Cold (startBlocks s) := ⟨rfl, rfl⟩

theorem Cold.leaves (h : Cold s) (m : Mode) : Cold (startPacer (buildSlowRing (changeMode m s))) :=
  h.of_frame (by simp [buildSlowRing]) (by simp [buildSlowRing])

/-- R176: the read, the validation and the way out of START. -/
theorem Cold.servedOk_leaveStart (h : Cold s) (bad : List EntryRef) : ServedOk (leaveStart bad s) := by
  have hr : ∀ x, Cold { readTables bad s with failing := x } := fun _ => ⟨h.owns, h.fire⟩
  unfold leaveStart
  dsimp only
  split
  · exact (((hr _).of_frame (owned_raise _ _ _ _) (standing_raise _ _ _ _)).leaves .service).servedOk
  · have hc := (hr none).leaves .normal
    exact servedOk_placementDecision hc.servedOk hc.wf hc.not_testActive []

theorem servedOk_coldStart (bad : List EntryRef) (s : State) : ServedOk (coldStart bad s) :=
  Cold.servedOk_leaveStart ⟨rfl, rfl⟩ bad

theorem servedOk_warmStart (cause : RestartCause) (bad : List EntryRef) (s : State) :
    ServedOk (warmStart cause bad s) :=
  ((cold_startBlocks _).of_frame (owned_raise _ _ _ _) (standing_raise _ _ _ _)).servedOk_leaveStart bad

/-! ### Commands of the Selector, of Mode Control and of test runs -/

/-- R19: the Selector takes a notice. -/
theorem servedOk_noticeTaken (ok : ServedOk s) (hw : zonesWf s) (hm : ModesOk s) (during : List (List IntakeArrival)) :
    ServedOk (noticeTaken during s) := by
  unfold noticeTaken
  split
  · exact ok
  · rename_i rest _
    have ok' : ServedOk { s with selector := rest } := ⟨ok.active, ok.test, ok.idle⟩
    dsimp only
    split
    · rename_i hmode
      exact (servedOk_placementDecision ok' hw (hm.normal hmode) during).of_frame (owned_endStep _) (standing_endStep _)
    · exact ok'

/-- R171: the re-evaluation and the decision at the entry to NORMAL. -/
theorem servedOk_enterNormalMode (ok : ServedOk s) (hw : zonesWf s) (hn : ¬ testActive s)
    (during : List (List IntakeArrival)) : ServedOk (enterNormalMode during s) := by
  have h0 : Activates [] s { s with failing := none } := ⟨rfl, rfl, id, fun _ _ h => .inl h⟩
  have hc : Activates [] s (changeMode .normal (buildSlowRing (reevaluateZones { s with failing := none }))) :=
    activates_changeMode ((activates_reevaluateZones h0).of_frame (owned_setPlant _ _)
      (congrArg Prod.fst (standing_setPlant _ _)))
  have hd : ∀ u, Activates [] s u → ServedOk (placementDecision during (drain u)) := fun u hu =>
    have hu := activates_drain hu
    servedOk_placementDecision (ok.activates hw hu) (hu.wf hw) (mt (testActive_congr hu.key hu.fire).1 hn) during
  unfold enterNormalMode
  refine hd _ ?_
  split
  · exact hc.of_frame (owned_revokeHold _) (congrArg Prod.fst (standing_revokeHold _))
  · exact hc

/-- R171: a validation that ends. -/
theorem servedOk_serveValidation (ok : ServedOk s) (hw : zonesWf s) (hn : ¬ testActive s) (req : Requester) :
    ServedOk (serveValidation req s) := by
  unfold serveValidation
  dsimp only
  split
  · refine ok.of_frame ?_ ?_
    · exact (owned_answer _ _ _).trans (owned_raise _ _ _ _)
    · exact (standing_answer _ _ _).trans (standing_raise _ _ _ _)
  · have ok' : ServedOk { s with validating := none, entryIntake := [] } := ⟨ok.active, ok.test, ok.idle⟩
    exact (servedOk_enterNormalMode ok' hw hn s.entryIntake).of_frame (by simp) (by simp)

/-- R31: a test run begins where no run is, and serves no zone. -/
theorem servedOk_serveTestRun (ok : ServedOk s) (req : Requester) (n : Nat) : ServedOk (serveTestRun req n s) := by
  have refused : ∀ r, ServedOk (answer req r s) := fun r => ok.of_frame (owned_answer _ _ _) (standing_answer _ _ _)
  unfold serveTestRun
  split
  · exact refused _
  split
  · exact refused _
  split
  · exact refused _
  rename_i hf
  split
  · exact refused _
  split
  · exact refused _
  · have ho : owned (endStep (answer req .ok (drain (instructTest n s)))) = (s.zones, n, [], true) := by
      simp [instructTest, hf]
    refine servedOk_of_none (fun z hz => hf ?_) (congrArg (fun x => x.2.2.1) ho)
    exact (ok.active z (isActive_of_zones (congrArg Prod.fst ho) hz)).1

/-- R32: the run that a TEST_END ends is a test run, so no zone is ACTIVE. -/
theorem servedOk_serveTestEnd (ok : ServedOk s) (hm : ModesOk s) (req : Requester) :
    ServedOk (serveTestEnd req s) := by
  have plain : ∀ r, ServedOk (answer req r s) := fun r => ok.of_frame (owned_answer _ _ _) (standing_answer _ _ _)
  unfold serveTestEnd
  split
  · exact plain _
  rename_i hmode
  split
  · rename_i hf
    have ho : owned (endStep (answer req .ok (drain (instructEnd s)))) = (s.zones, 0, [], false) := by
      simp [instructEnd, hf]
    refine servedOk_of_none (fun z hz => ?_) (congrArg (fun x => x.2.2.1) ho)
    have ha := isActive_of_zones (congrArg Prod.fst ho) hz
    exact Bool.false_ne_true ((ok.active z ha).2.1.symm.trans (hm.service (not_not.1 hmode) hf))
  · exact plain _

/-! ### Every command -/

/-- A command that acts keeps the law where its work does. -/
theorem servedOk_acting {work : State → State} (ok : ServedOk s) (he : acting work s = .next t)
    (hw : ServedOk (work s)) : ServedOk t := by
  cases he
  split
  · exact hw
  · exact ok

theorem servedOk_serving {row : Instr} {work : State → State} (ok : ServedOk s) (he : serving row work s = .next t)
    (hw : ServedOk (work (enterServing row s))) : ServedOk t := by
  refine servedOk_acting ok he ?_
  split
  · exact hw
  · exact ok

/-- R26: every command keeps the law: Zone Intake makes no zone ACTIVE, a start begins cold, and the Selector and the
test runs leave what their rules say. -/
theorem exec_servedOk {c : Instr} (hw : zonesWf s) (hm : ModesOk s) (ok : ServedOk s) (he : exec c s = .next t) :
    ServedOk t := by
  have serving : ∀ row, ServedOk (enterServing row s) := fun row => ⟨ok.active, ok.test, ok.idle⟩
  have intake : ∀ u, Activates [] s u → ServedOk u := fun u hu => ok.activates hw hu
  cases c with
  | powerUp bad =>
    cases he
    split
    · exact Cold.servedOk ⟨rfl, rfl⟩
    · exact servedOk_coldStart _ _
  | resetLineRelease bad =>
    cases he
    split
    · exact ok
    split
    · exact servedOk_warmStart _ _ _
    · exact ⟨ok.active, ok.test, ok.idle⟩
  | warmStart bad =>
    refine servedOk_acting ok he ?_
    split
    · exact servedOk_warmStart _ _ _
    · exact ok
  | placementDecision during =>
    refine servedOk_acting ok (work := fun s => noticeTaken during (giveForEntry during s)) he ?_
    unfold giveForEntry
    split
    · exact servedOk_noticeTaken (s := { s with entryIntake := during }) ⟨ok.active, ok.test, ok.idle⟩ hw
        ⟨hm.start, hm.normal, hm.service, hm.write, hm.validation⟩ during
    · exact servedOk_noticeTaken ok hw hm during
  | validationComplete =>
    refine servedOk_acting ok (work := fun s => match s.validating with
      | some req => serveValidation req s
      | none => s) he ?_
    split
    · rename_i req hv
      exact servedOk_serveValidation ok hw (hm.validation (by rw [hv]; rfl)).2 req
    · exact ok
  | panelFrameReceived bs => exact servedOk_acting ok he (intake _ (activates_panelBytes (.refl s)))
  | zoneEvent z a k =>
    exact servedOk_acting ok (work := fun s => endStep (zoneEventTaken z a k s)) he
      (intake _ (activates_endStep (activates_zoneEventTaken (.refl s))))
  | zoneReset z => exact servedOk_acting ok he (intake _ (activates_zoneResetTaken (.refl s)))
  | zoneIsolateOn q z =>
    exact servedOk_serving ok he ((serving _).activates hw (activates_serveIsolateOn (.refl _)))
  | zoneIsolateOff q z =>
    exact servedOk_serving ok he ((serving _).activates hw (activates_serveIsolateOff (.refl _)))
  | testRun q n => exact servedOk_serving ok he (servedOk_serveTestRun (serving _) q n)
  | testEnd q =>
    exact servedOk_serving ok he
      (servedOk_serveTestEnd (serving _) ⟨hm.start, hm.normal, hm.service, hm.write, hm.validation⟩ q)
  | _ => exact ok.of_frame (exec_owned rfl he) (exec_standing rfl he)

/-- Settles O13: a step idles or runs a command. -/
theorem activeZonesAreServed : Obligations.ActiveZonesAreServed := by
  intro s t hc hm ok he
  rcases step_cases he with rfl | ⟨c, rest, -, he⟩
  · exact ok
  · exact exec_servedOk (s := { s with pending := rest }) hc.zones
      ⟨hm.start, hm.normal, hm.service, hm.write, hm.validation⟩ ⟨ok.active, ok.test, ok.idle⟩ he

end Sys2Proof.Machine
end

section
/-! The placement decision case by case (O36): the notice taken, the decision without arrivals, and the one with
them. -/

namespace Sys2Proof.Machine

variable {s u v : State} {p : Placing} {z : Nat} {zs : List Nat} {scenario : Nat}

/-! ### The notice taken (R19, R171) -/

theorem exec_placementDecision_awake (hw : awake s = true) (during : List (List IntakeArrival)) :
    exec (.placementDecision during) s = .next (noticeTaken during (giveForEntry during s)) :=
  acting_awake (work := fun s => noticeTaken during (giveForEntry during s)) hw

theorem giveForEntry_none (h : s.validating = none) (during : List (List IntakeArrival)) :
    giveForEntry during s = s := by
  simp [giveForEntry, h]

theorem noticeTaken_none (h : s.selector = []) (during : List (List IntakeArrival)) :
    noticeTaken during (giveForEntry during s) =
      if s.validating.isSome then { s with entryIntake := during } else s := by
  unfold giveForEntry
  split <;> simp [noticeTaken, h]

/-- R19: outside NORMAL mode a notice is taken without a decision. -/
theorem noticeTaken_discarded {notice : SelectorNotice} {rest : List SelectorNotice} (h : s.selector = notice :: rest)
    (hm : s.mode ≠ .normal) (during : List (List IntakeArrival)) :
    noticeTaken during (giveForEntry during s) =
      if s.validating.isSome then { s with selector := rest, entryIntake := during }
      else { s with selector := rest } := by
  unfold giveForEntry
  split <;> simp [noticeTaken, h, hm]

/-- R19: in NORMAL mode a notice leads to a decision. -/
theorem noticeTaken_decided {notice : SelectorNotice} {rest : List SelectorNotice} (h : s.selector = notice :: rest)
    (hm : s.mode = .normal) (hv : s.validating = none) (during : List (List IntakeArrival)) :
    noticeTaken during (giveForEntry during s) = endStep (placementDecision during { s with selector := rest }) := by
  rw [giveForEntry_none hv]
  simp [noticeTaken, h, hm]

/-- R171: no validation is under way in NORMAL mode. -/
theorem ModesOk.validating_eq_none (h : ModesOk s) (hm : s.mode = .normal) : s.validating = none := by
  cases hv : s.validating with
  | none => rfl
  | some req =>
    have hs := (h.validation (by rw [hv]; rfl)).1
    rw [hm] at hs
    cases hs

/-- R25: the instruction, its four outcomes apart. -/
theorem instruct_eq (served : List Nat) (scenario : Nat) (s : State) :
    instruct served scenario s =
      if fireMode s = false then (if served = [] then s else loadRun false scenario served s)
      else if served = [] then endRun s
      else if served = s.run.served ∧ scenario = s.run.scenario then s
      else switchRun scenario served s := by
  unfold instruct instructLoad instructEnd instructSwitch
  cases fireMode s <;> simp

/-! ### A decision without arrivals (R10, R24) -/

/-- A request that is taken and changes the state of its zone. -/
def requestOne (want : ZoneState) (ev : Ev) (detail z : Nat) (s : State) : State :=
  recordEntry ev z detail (setZone z { zoneRec s z with state := want } s)

/-- Zones are asked one after another, each of which takes its request and changes its state. -/
def requestAll (want : ZoneState) (ev : Ev) (detail : Nat) (zs : List Nat) (s : State) : State :=
  zs.foldl (fun v z => requestOne want ev detail z v) s

theorem requestAll_cons (want : ZoneState) (ev : Ev) (detail z : Nat) (zs : List Nat) (s : State) :
    requestAll want ev detail (z :: zs) s = requestAll want ev detail zs (requestOne want ev detail z s) := rfl

/-- The kinds of request that a decision makes, each with its event. -/
def isRequest (want : ZoneState) (ev : Ev) : Prop :=
  (want, ev) ∈ [(ZoneState.active, Ev.zoneActive), (.secondary, .zoneSecondary)]

/-- R10: a request that changes the state of its zone. -/
theorem zoneRequest_changes {want : ZoneState} {ev : Ev} {detail : Nat} (hr : isRequest want ev)
    (hc : isConfirmed (zoneRec s z).state = true) (hs : (zoneRec s z).state ≠ want) :
    zoneRequest z want ev detail s = (requestOne want ev detail z s, true) := by
  refine (zoneRequest_eq hr).trans ((if_neg ?_).trans (if_neg hs))
  rintro (h | h | h) <;> simp [h, isConfirmed] at hc

theorem zoneRec_requestOne {want : ZoneState} {ev : Ev} {detail : Nat} (hw : isConfirmed want = true) (x : Nat) :
    zoneRec (requestOne want ev detail z s) x =
      if x = z then { zoneRec s x with state := want } else zoneRec s x := by
  rw [requestOne, zoneRec_of_owned (owned_recordEntry _ _ _ _), zoneRec_setZone_confirmed hw]
  split
  · rename_i hx
    rw [hx]
  · rfl

/-- The records after a series of requests. -/
theorem zoneRec_requestAll {want : ZoneState} {ev : Ev} {detail : Nat} (hw : isConfirmed want = true) (x : Nat) :
    zoneRec (requestAll want ev detail zs s) x =
      if x ∈ zs then { zoneRec s x with state := want } else zoneRec s x := by
  induction zs generalizing s with
  | nil => simp [requestAll]
  | cons z zs ih =>
    rw [requestAll_cons, ih, zoneRec_requestOne hw]
    by_cases hx : x = z <;> by_cases hm : x ∈ zs <;> simp [hx, hm]

theorem standing_requestAll (want : ZoneState) (ev : Ev) (detail : Nat) (zs : List Nat) (s : State) :
    standing (requestAll want ev detail zs s) = standing s :=
  standing_foldl s (fun v z => standing_recordEntry (setZone z { zoneRec v z with state := want } v) ev z detail) zs

theorem runKey_requestAll (want : ZoneState) (ev : Ev) (detail : Nat) (zs : List Nat) (s : State) :
    runKey (requestAll want ev detail zs s) = runKey s := by
  induction zs generalizing s with
  | nil => rfl
  | cons z zs ih =>
    have h := congrArg Prod.snd (owned_recordEntry (setZone z { zoneRec s z with state := want } s) ev z detail)
    exact (ih (requestOne want ev detail z s)).trans h

/-- What a series of requests needs to be taken in whole: every zone is confirmed, and not yet what is asked. -/
def Requestable (want : ZoneState) (zs : List Nat) (s : State) : Prop :=
  zs.Nodup ∧ ∀ z ∈ zs, isConfirmed (zoneRec s z).state = true ∧ (zoneRec s z).state ≠ want

theorem Requestable.tail {want : ZoneState} {ev : Ev} {detail : Nat} (h : Requestable want (z :: zs) s)
    (hw : isConfirmed want = true) :
    Requestable want zs (requestOne want ev detail z s) := by
  obtain ⟨hn, hz⟩ := h
  obtain ⟨hnz, hn⟩ := List.nodup_cons.1 hn
  refine ⟨hn, fun x hx => ?_⟩
  rw [zoneRec_requestOne hw, if_neg (by rintro rfl; exact hnz hx)]
  exact hz x (List.mem_cons_of_mem z hx)

/-- R24, step 1, without arrivals. -/
theorem askActive_quiet (hd : p.during = []) (h : Requestable .active zs p.state) :
    askActive scenario zs p =
      ({ p with made := p.made ++ zs, state := requestAll .active .zoneActive scenario zs p.state }, true) := by
  induction zs generalizing p with
  | nil => simp [askActive, requestAll]
  | cons z zs ih =>
    obtain ⟨hc, hs⟩ := h.2 z List.mem_cons_self
    have hm : madeActive scenario z p =
        { p with made := p.made ++ [z], state := requestOne .active .zoneActive scenario z p.state } := by
      simp only [madeActive, takeGroup_none hd, zoneRequest_changes (.head _) hc hs]
    have ht : Requestable .active zs (madeActive scenario z p).state := by
      rw [hm]
      exact h.tail rfl
    rw [askActive_taken (by rwa [takeGroup_none hd]), ih (by rwa [hm]) ht, hm]
    simp [requestAll_cons]

/-- R24, step 2, without arrivals. -/
theorem askSecondary_quiet (hd : p.during = []) (h : Requestable .secondary zs p.state) :
    askSecondary zs p = { p with state := requestAll .secondary .zoneSecondary 0 zs p.state } := by
  induction zs generalizing p with
  | nil => rfl
  | cons z zs ih =>
    obtain ⟨hc, hs⟩ := h.2 z List.mem_cons_self
    have hm : madeSecondary z p = { p with state := requestOne .secondary .zoneSecondary 0 z p.state } := by
      simp only [madeSecondary, takeGroup_none hd, zoneRequest_changes (.tail _ (.head _)) hc hs]
    have ht : Requestable .secondary zs (madeSecondary z p).state := by
      rw [hm]
      exact h.tail rfl
    refine (ih (p := madeSecondary z p) (by rwa [hm]) ht).trans ?_
    rw [hm]
    rfl

theorem requestable_asksActive (s : State) (made : List Nat) : Requestable .active (asksActive s made) s :=
  ⟨nodup_asksActive s made, fun _ hz => ⟨isConfirmed_of_waits (waits_of_asksActive hz), (mem_asksActive.1 hz).2⟩⟩

/-- The zones of a decision once its requests are taken. -/
def requested (u : State) : State :=
  requestAll .secondary .zoneSecondary 0 (asksSecondary u [])
    (requestAll .active .zoneActive (newServed u [] (waitingSet u [])).2 (asksActive u []) u)

theorem requestable_asksSecondary (u : State) :
    Requestable .secondary (asksSecondary u [])
      (requestAll .active .zoneActive (newServed u [] (waitingSet u [])).2 (asksActive u []) u) := by
  refine ⟨List.Nodup.filter _ (nodup_waitingSet u []), fun z hz => ?_⟩
  obtain ⟨hw, hs, ht⟩ := mem_asksSecondary.1 hz
  rw [zoneRec_requestAll rfl, if_neg fun h => ht (mem_asksActive.1 h).1]
  exact ⟨isConfirmed_of_waits hw, hs⟩

/-- R23 to R25: a decision without arrivals. -/
theorem placementDecision_quiet (u : State) :
    placementDecision [] u =
      instruct (newServed u [] (waitingSet u [])).1 (newServed u [] (waitingSet u [])).2 (requested u) := by
  have ha : activeAnswers { during := [], made := [], state := u } =
      ({ during := [], made := asksActive u [], state := requestAll .active .zoneActive
          (newServed u [] (waitingSet u [])).2 (asksActive u []) u }, true) :=
    askActive_quiet rfl (requestable_asksActive u [])
  unfold placementDecision
  rw [List.flatten_nil, List.length_nil, decisionTimes_succ, ha, if_pos rfl, asksDone, ha,
    askSecondary_quiet rfl (requestable_asksSecondary u)]
  rfl

theorem standing_requested (u : State) : standing (requested u) = standing u :=
  (standing_requestAll ..).trans (standing_requestAll ..)

theorem zoneRec_requested (u : State) (z : Nat) :
    zoneRec (requested u) z =
      { zoneRec u z with
        state := if z ∈ (newServed u [] (waitingSet u [])).1 then .active
          else if z ∈ waitingSet u [] then .secondary else (zoneRec u z).state } := by
  unfold requested
  rw [zoneRec_requestAll rfl, zoneRec_requestAll rfl]
  by_cases ht : z ∈ (newServed u [] (waitingSet u [])).1
  · rw [if_neg fun h => (mem_asksSecondary.1 h).2.2 ht, if_pos ht]
    by_cases ha : isActive u z
    · rw [if_neg fun h => (mem_asksActive.1 h).2 ha, ← show _ = ZoneState.active from ha]
    · rw [if_pos (mem_asksActive.2 ⟨ht, ha⟩)]
  · have hna : z ∉ asksActive u [] := fun h => ht (mem_asksActive.1 h).1
    rw [if_neg hna, if_neg ht]
    by_cases hw : z ∈ waitingSet u []
    · rw [if_pos hw]
      by_cases hs : (zoneRec u z).state = .secondary
      · rw [if_neg fun h => (mem_asksSecondary.1 h).2.1 hs, ← hs]
      · rw [if_pos (mem_asksSecondary.2 ⟨hw, hs, ht⟩)]
    · rw [if_neg hw, if_neg fun h => hw (mem_asksSecondary.1 h).1]

/-- R24: what the requests leave of each zone record. -/
theorem zoneRec_of_zones {t : State} (h : t.zones = (requested u).zones) (z : Nat) :
    ((zoneRec t z).state =
        if z ∈ (newServed u [] (waitingSet u [])).1 then .active
        else if z ∈ waitingSet u [] then .secondary else (zoneRec u z).state) ∧
      (zoneRec t z).sources = (zoneRec u z).sources ∧ (zoneRec t z).confirmation = (zoneRec u z).confirmation := by
  have hz : zoneRec t z = zoneRec (requested u) z := congrArg (sget coldZone · z) h
  rw [hz, zoneRec_requested]
  exact ⟨rfl, rfl, rfl⟩

/-- R25: what a decision without arrivals leaves. -/
theorem placed_placementDecision (hn : ¬ testActive u) (hi : fireMode u = false → u.run.served = []) :
    Placed (newServed u [] (waitingSet u [])).1 (newServed u [] (waitingSet u [])).2 (requested u)
      (endStep (placementDecision [] u)) := by
  have hk : runKey (requested u) = runKey u := (runKey_requestAll ..).trans (runKey_requestAll ..)
  have hf : fireMode (requested u) = fireMode u :=
    congrArg Prod.fst (standing_requested u)
  rw [placementDecision_quiet]
  refine (placed_instruct (mt (testActive_congr hk hf).1 hn) fun h => ?_).trans_frame (owned_endStep _)
    (standing_endStep _)
  rw [served_of_key hk]
  exact hi (hf ▸ h)

/-! ### A decision with arrivals (R20, R24) -/

theorem askActive_cons (scenario z : Nat) (zs : List Nat) (p : Placing) :
    askActive scenario (z :: zs) p =
      if (zoneRequest z .active .zoneActive scenario (takeGroup p).state).2 = true then
        askActive scenario zs (madeActive scenario z p)
      else
        ({ takeGroup p with state := (zoneRequest z .active .zoneActive scenario (takeGroup p).state).1 }, false) := by
  by_cases h : isConfirmed (zoneRec (takeGroup p).state z).state = true
  · rw [askActive_taken h, zoneRequest_taken, if_pos h]
  · rw [askActive_refused h, zoneRequest_taken, if_neg h, zoneRequest_refused]
    rw [zoneRequest_taken]
    exact Bool.eq_false_iff.2 h

theorem takeGroup_eq (p : Placing) :
    takeGroup p =
      (match p.during with
      | [] => p
      | group :: later => { p with during := later, state := group.foldl (fun v a => takeIntake a v) p.state }) := by
  obtain ⟨during, made, state⟩ := p
  cases during <;> rfl

/-- Settles O36: what a notice leads to, the decision without arrivals request by request and as a whole, the parts of a
decision with arrivals, and its repeats. -/
theorem placementDecisionServesTheNewZones : Obligations.PlacementDecisionServesTheNewZones := by
  refine ⟨fun during s hw hs => ?_, fun notice rest s hw hs => ⟨fun during hm => ?_, fun during hm hv => ?_,
    fun hm hv => ?_, fun hm hmodes hok hcan => ?_⟩, fun z source cls s => ⟨rfl, fun hw => acting_awake hw⟩,
    fun p => ⟨takeGroup_eq p, fun scenario z zs => ⟨rfl, rfl, askActive_cons scenario z zs p, rfl⟩⟩,
    fun during s => rfl, fun n p hn => ?_⟩
  · rw [exec_placementDecision_awake hw, noticeTaken_none hs]
  · rw [exec_placementDecision_awake hw, noticeTaken_discarded hs hm]
  · rw [exec_placementDecision_awake hw, noticeTaken_decided hs hm hv]
  · rw [exec_placementDecision_awake hw, noticeTaken_decided hs hm hv, placementDecision_quiet, instruct_eq]
    rfl
  · have hn := hmodes.normal hm
    have hv := hmodes.validating_eq_none hm
    have hp := placed_placementDecision (u := { s with selector := rest }) hn hok.idle
    have hz := zoneRec_of_zones hp.zones
    have hrest := hp.selector.trans (congrArg Prod.snd (standing_requested { s with selector := rest }))
    exact ⟨_, by rw [exec_placementDecision_awake hw, noticeTaken_decided hs hm hv], hrest, fun z => (hz z).1,
      fun z => (hz z).2, hp.serves, hp.run, hp.idle⟩
  · rw [decisionTimes_eq hn]
    simp only [instruct_eq]
    rfl

end Sys2Proof.Machine
end

section
/-! Every step keeps the lists, counts and the trail in bounds (O8): the work of the blocks keeps them (Base), and a start, a
tick, a cut-off write and a test load are looked at one by one. -/

namespace Sys2Proof.Machine

variable {s t : State}

/-- The bounds of O8 together. -/
structure InBounds (s : State) : Prop where
  bounds : BoundsOk s
  trail : trailOk s.capture

theorem InBounds.base (ok : InBounds s) (h : Base s t) : InBounds t := ⟨h.bounds ok.bounds, h.capture.trail ok.trail⟩

theorem InBounds.work (ok : InBounds s) (h : Work s t) : InBounds t := ok.base h.toBase

/-- A change of parts that the bounds do not speak of. -/
theorem InBounds.of_eq (ok : InBounds s) (hu : t.uptime = s.uptime) (hr : t.run.faults = s.run.faults)
    (hp : t.plant = s.plant) (hl : t.panel = s.panel) (hc : t.capture = s.capture) : InBounds t := by
  obtain ⟨⟨b1, b2, b3, b4, b5, b6, b7, b8, b9, b10, b11⟩, htr⟩ := ok
  constructor
  · constructor
    · rwa [hu]
    · rwa [hc]
    · rwa [hr]
    all_goals first | rwa [hl] | rwa [hp]
  · rwa [hc]

theorem inBounds_ite {c : Prop} [Decidable c] {a b : State} (ha : InBounds a) (hb : InBounds b) :
    InBounds (if c then a else b) := by
  split
  · exact ha
  · exact hb

theorem inBounds_acting {work : State → State} (ok : InBounds s) (he : acting work s = .next t)
    (hw : InBounds (work s)) : InBounds t := by
  cases he
  split
  · exact hw
  · exact ok

theorem inBounds_serving {row : Instr} {work : State → State} (ok : InBounds s) (he : serving row work s = .next t)
    (hw : ∀ {u}, InBounds u → InBounds (work u)) : InBounds t := by
  refine inBounds_acting ok he ?_
  split
  · exact hw (ok.work (work_setPanel (.refl s)))
  · exact ok

/-! ### Starts, modes and writes -/

theorem inBounds_interruptWrite (ok : InBounds s) : InBounds (interruptWrite s) := by
  unfold interruptWrite
  split
  · exact ok
  · exact ok.of_eq rfl rfl rfl rfl rfl

theorem inBounds_changeMode (ok : InBounds s) {m : Mode} : InBounds (changeMode m s) :=
  InBounds.work (s := { s with mode := m }) (ok.of_eq rfl rfl rfl rfl rfl) (work_raise (.refl _))

theorem inBounds_failing (ok : InBounds s) {r : Option EntryRef} : InBounds { s with failing := r } :=
  ok.of_eq rfl rfl rfl rfl rfl

theorem inBounds_configInvalid (ok : InBounds s) {r : EntryRef} : InBounds (configInvalid r s) :=
  (inBounds_failing ok).work (work_raise (.refl _))

theorem inBounds_leaveStart (ok : InBounds s) {bad : List EntryRef} : InBounds (leaveStart bad s) := by
  have hr : InBounds (readTables bad s) := ok.of_eq rfl rfl rfl rfl rfl
  unfold leaveStart
  dsimp only
  split
  · exact (inBounds_changeMode (inBounds_configInvalid hr)).work (work_startPacer (work_buildSlowRing (.refl _)))
  · exact (inBounds_changeMode (inBounds_failing hr)).work
      (work_placementDecision (work_startPacer (work_buildSlowRing (.refl _))))

/-- R148, R129, R37: what a start leaves of the blocks is within every bound. -/
theorem inBounds_startBlocks (ok : InBounds s) : InBounds (startBlocks s) :=
  ⟨⟨ok.bounds.uptime, ok.bounds.later, ⟨Nat.zero_le _, List.nodup_nil⟩, Nat.zero_le _, Nat.zero_le _, Nat.zero_le _,
    Nat.zero_le _, Nat.zero_le _, Nat.zero_le _, Nat.zero_le _, Nat.zero_lt_succ _⟩, ok.trail⟩

/-- R161, R163, R177: and so is what a cold start leaves besides. -/
theorem inBounds_coldBlocks (ok : InBounds s) : InBounds (coldBlocks s) := by
  obtain ⟨⟨-, -, b3, b4, b5, b6, b7, b8, b9, b10, b11⟩, -⟩ := inBounds_startBlocks ok
  exact ⟨⟨Nat.zero_lt_succ _, Nat.zero_le _, b3, b4, b5, b6, b7, b8, b9, b10, b11⟩,
    Nat.zero_le _, Nat.zero_lt_succ _, nofun⟩

theorem inBounds_warmStart (ok : InBounds s) {cause : RestartCause} {bad : List EntryRef} :
    InBounds (warmStart cause bad s) :=
  inBounds_leaveStart ((inBounds_startBlocks (inBounds_interruptWrite ok)).work (work_raise (.refl _)))

/-- R177: the counter wraps below its modulus, and no bound speaks of a timer. -/
theorem inBounds_tickUptime (ok : InBounds s) : InBounds (tickUptime s) := by
  obtain ⟨⟨-, b2, b3, b4, b5, b6, b7, b8, b9, b10, b11⟩, htr⟩ := ok
  exact ⟨⟨Nat.mod_lt _ (by decide), b2, b3, b4, b5, b6, b7, b8, b9, b10, b11⟩, htr⟩

theorem inBounds_tickTimers (ok : InBounds s) : InBounds (tickTimers s) := by
  obtain ⟨⟨b1, b2, b3, b4, b5, b6, b7, b8, b9, b10, b11⟩, htr⟩ := ok
  exact ⟨⟨b1, b2, b3, b4, b5, b6, b7, b8, b9, b10, b11⟩, htr⟩

/-- R174: an entry comes into force. -/
theorem inBounds_bringIntoForce (ok : InBounds s) {w : NvWrite} : InBounds (bringIntoForce w s) := by
  have hn : InBounds { s with nv := putEntry w.ref w.fields s.nv } := ok.of_eq rfl rfl rfl rfl rfl
  unfold bringIntoForce
  dsimp only
  split
  · exact (hn.base (base_outputWritten (.refl _))).work (work_ffEntryWritten (.refl _))
  · exact (InBounds.of_eq (t := { s with
      nv := putEntry w.ref w.fields s.nv, tables := putEntry w.ref w.fields s.tables }) ok rfl rfl rfl rfl rfl).work
      (work_boardWritten (.refl _))
  · exact ok.of_eq rfl rfl rfl rfl rfl

/-- R171: the steps at the entry to NORMAL. -/
theorem inBounds_enterNormalMode (ok : InBounds s) {during : List (List IntakeArrival)} :
    InBounds (enterNormalMode during s) := by
  have hz : InBounds (buildSlowRing (reevaluateZones { s with failing := none })) :=
    InBounds.work (s := { s with failing := none }) (ok.of_eq rfl rfl rfl rfl rfl)
      (work_buildSlowRing (work_reevaluateZones (.refl _)))
  exact (inBounds_changeMode hz).work
    (work_placementDecision (work_drain (work_ite (work_revokeHold (.refl _)) (.refl _))))

/-- R39: a load of a test run, with an empty run fault list. -/
theorem inBounds_loadRun (ok : InBounds s) {test : Bool} {n : Nat} {served : List Nat} :
    InBounds (loadRun test n served s) := by
  obtain ⟨⟨b1, b2, -, b4, b5, b6, b7, b8, b9, b10, b11⟩, htr⟩ := ok
  have h0 : ∀ r : Run, r.faults = [] → InBounds (setRun (fun _ => r) s) := fun r hr =>
    ⟨⟨b1, b2, by rw [setRun_run, hr]; exact ⟨Nat.zero_le _, List.nodup_nil⟩, b4, b5, b6, b7, b8, b9, b10, b11⟩, htr⟩
  refine InBounds.work (h0 { s.run with
      state := .staging, test := test, late := false, degraded := false, scenario := n, served := served,
      cursor := 0, inFlight := [], lastIssued := [], delay := none,
      deadline := some (scenarioOf s.tables n).establish, faults := [], overflow := false,
      startStamp := some s.uptime, stageStamp := some s.uptime } rfl) ?_
  have hw : ∀ u : State, Work u (takeReports (beginFire (raise .runStart n (served.getD 0 0 * 256 + served.getD 1 0) u))) :=
    fun u => work_takeReports (work_beginFire (work_raise (.refl u)))
  unfold loadRun
  exact work_advance (work_ite (hw _) (work_setWatches (hw _)))

/-! ### Requests and the panel link -/

theorem inBounds_answer (ok : InBounds s) {req : Requester} {r : Result} : InBounds (answer req r s) :=
  ok.work (work_answer (.refl s))

theorem inBounds_endStep (ok : InBounds s) : InBounds (endStep s) := ok.work (work_endStep (.refl s))

/-- R155: a STATUS_ASK only answers. -/
theorem inBounds_statusAsk {row : Instr} {req : Requester} {selector index part : Nat} {inRange : Bool}
    {bs : State → List Byte} (ok : InBounds s)
    (he : serving row (fun u => answerStatus req selector index part inRange (bs u) u) s = .next t) : InBounds t := by
  refine inBounds_serving ok he fun {u} ok => ?_
  have hm : Work u (markClearing selector u) := work_ite (work_setPanel (.refl u)) (.refl u)
  exact ok.work (work_ite (work_answer (.refl u)) (work_ite (work_answer (.refl u)) (work_answerFrame hm)))

theorem inBounds_serveOutputReset {req : Requester} {o : Nat} (ok : InBounds s) :
    InBounds (serveOutputReset req o s) := by
  have hn : Work s (onOutput o (newAttempt o .reset) s) := work_onOutput (.refl s) fun _ h => work_newAttempt h
  exact ok.work (work_ite (work_answer (.refl s)) (work_ite (work_answer (.refl s))
    (work_ite (work_endStep (work_answer (work_drain hn))) (work_answer (.refl s)))))

theorem inBounds_serveFaultAck {req : Requester} {n l : Nat} (ok : InBounds s) :
    InBounds (serveFaultAck req n l s) := by
  unfold serveFaultAck
  split
  · exact inBounds_answer ok
  split
  · refine inBounds_answer ?_
    obtain ⟨⟨b1, -, b3, b4, b5, b6, b7, b8, b9, b10, b11⟩, htr⟩ := ok
    exact ⟨⟨b1, Nat.zero_le _, b3, b4, b5, b6, b7, b8, b9, b10, b11⟩, htr⟩
  · exact inBounds_answer ok

theorem inBounds_serveTrailRead {req : Requester} {n k : Nat} (ok : InBounds s) :
    InBounds (serveTrailRead req n k s) :=
  ok.work (work_ite (work_answer (.refl s)) (work_answerFrame (.refl s)))

theorem inBounds_serveEnterService {req : Requester} (ok : InBounds s) : InBounds (serveEnterService req s) := by
  unfold serveEnterService
  split
  · exact inBounds_answer ok
  · split
    · exact inBounds_answer (inBounds_changeMode ok)
    · exact inBounds_answer ok

theorem inBounds_serveEnterNormal {req : Requester} (ok : InBounds s) : InBounds (serveEnterNormal req s) := by
  unfold serveEnterNormal
  split
  · exact inBounds_answer ok
  · split
    · exact inBounds_answer ok
    · exact ok.of_eq rfl rfl rfl rfl rfl

theorem inBounds_serveValidation {req : Requester} (ok : InBounds s) : InBounds (serveValidation req s) := by
  have ht : InBounds { s with validating := none, entryIntake := [] } := ok.of_eq rfl rfl rfl rfl rfl
  unfold serveValidation
  dsimp only
  split
  · exact inBounds_answer (inBounds_configInvalid ht)
  · exact (inBounds_enterNormalMode ht).work (work_endStep (work_answer (work_drain (.refl _))))

theorem inBounds_serveRestart {req : Requester} (ok : InBounds s) : InBounds (serveRestart req s) := by
  unfold serveRestart
  split
  · exact inBounds_answer ok
  · exact ok.work (work_answerFrame (.refl s))

theorem inBounds_window (ok : InBounds s) {x : TableWindow} : InBounds { s with window := x } :=
  ok.of_eq rfl rfl rfl rfl rfl

theorem inBounds_serveTsel {req : Requester} {x i : Nat} (ok : InBounds s) : InBounds (serveTsel req x i s) := by
  unfold serveTsel
  split
  · exact inBounds_answer ok
  · split
    · exact inBounds_answer ok
    · split
      · exact inBounds_answer (inBounds_window ok)
      · exact inBounds_answer ok

theorem inBounds_stepCursor (ok : InBounds s) : InBounds (stepCursor s) := ok.of_eq rfl rfl rfl rfl rfl

theorem inBounds_serveTrd {req : Requester} (ok : InBounds s) : InBounds (serveTrd req s) := by
  unfold serveTrd
  split
  · exact inBounds_answer ok
  · split
    · exact inBounds_answer ok
    · split
      · exact inBounds_answer ok
      · exact inBounds_stepCursor (ok.work (work_answerFrame (.refl s)))

theorem inBounds_serveTwr {req : Requester} {i : Nat} {e : List Byte} (ok : InBounds s) :
    InBounds (serveTwr req i e s) := by
  unfold serveTwr
  split
  · exact ok.work (work_answerWrite (.refl s))
  · exact ok.of_eq rfl rfl rfl rfl rfl

theorem inBounds_serveNvWrite {w : NvWrite} {equal : Bool} (ok : InBounds s) :
    InBounds (serveNvWrite w equal s) := by
  have ht : InBounds { s with nvWrite := none } := ok.of_eq rfl rfl rfl rfl rfl
  unfold serveNvWrite
  dsimp only
  split
  · exact (inBounds_stepCursor ((inBounds_bringIntoForce ht).work (work_drain (.refl _)))).work
      (work_endStep (work_answerWrite (.refl _)))
  · exact (InBounds.of_eq (t := { s with nvWrite := none, nv := _ }) ok rfl rfl rfl rfl rfl).work
      (work_answerWrite (work_useFree (.refl _)))

theorem inBounds_serveTestRun {req : Requester} {n : Nat} (ok : InBounds s) : InBounds (serveTestRun req n s) := by
  have hl : InBounds (instructTest n s) := by
    unfold instructTest
    split
    · exact ok
    · exact inBounds_loadRun ok
  unfold serveTestRun
  iterate 5
    split
    · exact inBounds_answer ok
  exact hl.work (work_endStep (work_answer (work_drain (.refl _))))

theorem inBounds_serveTestEnd {req : Requester} (ok : InBounds s) : InBounds (serveTestEnd req s) :=
  ok.work (work_ite (work_answer (.refl s))
    (work_ite (work_endStep (work_answer (work_drain (work_instructEnd (.refl s))))) (work_answer (.refl s))))

theorem inBounds_serveHoldAsk {req : Requester} (ok : InBounds s) : InBounds (serveHoldAsk req s) := by
  unfold serveHoldAsk
  split
  · exact inBounds_answer ok
  · exact ok.work (work_endStep (work_leaveService (work_setHold (.refl s))))

theorem inBounds_serveHoldEnd {req : Requester} (ok : InBounds s) : InBounds (serveHoldEnd req s) := by
  have he : Work s (holdEnded s) := by
    unfold holdEnded
    split
    · exact work_refuseHold (.refl s)
    · exact work_drain (work_holdProgress (work_releaseHold (.refl s)))
    · exact .refl s
  exact ok.work (work_ite (work_answer (.refl s)) (work_endStep (work_answer he)))

/-- R153: the head request leaves the buffer and is refused or put in service. -/
theorem inBounds_takeHead (ok : InBounds s) : InBounds (takeHead s) := by
  unfold takeHead
  split
  · exact ok
  rename_i f rest hi
  have hp : Work s (setPanel (fun p => { p with inbound := rest }) s) :=
    work_setPanel (.refl s) (hi := by rw [hi]; exact Nat.le_succ _)
  have hr : ∀ {r u}, Work s u → Work s (refuseRequest f r u) := fun h =>
    work_ite (work_answerWrite h) (work_answer h)
  refine ok.work (work_ite ?_ (.refl s))
  unfold takeRequest
  refine work_ite (hr hp) ?_
  split
  · exact hr hp
  · exact work_setPanel hp

/-- R154: the head frame leaves the queue. -/
theorem inBounds_headSent (ok : InBounds s) : InBounds (headSent s) := by
  unfold headSent
  split
  · exact ok
  rename_i q rest ho
  have hp : InBounds (setPanel (fun p => { p with outbound := rest }) s) :=
    ok.work (work_setPanel (.refl s) (ho := fun h => by rw [ho] at h; exact Nat.le_of_succ_le h))
  unfold afterSent
  split
  · exact hp
  · exact hp.work (work_ite (work_setPanel (.refl _)) (.refl _))
  · exact hp.of_eq rfl rfl rfl rfl rfl

/-! ### The plant link -/

theorem inBounds_sendComplete (ok : InBounds s) : InBounds (sendComplete s) := by
  unfold sendComplete
  split
  · exact ok.work (work_ite (work_setPlant (.refl s)) (.refl s))
  · exact ok

theorem inBounds_ackTaken (ok : InBounds s) {r : Nat} : InBounds (ackTaken r s) := by
  unfold ackTaken
  split
  · split
    · exact ok.work (work_endStep (work_commandAnswered (.refl s)))
    · exact ok.work (work_countError (.refl s))
  · exact ok.work (work_countStray (.refl s))

theorem inBounds_stateTaken (ok : InBounds s) {bs : List Byte} : InBounds (stateTaken bs s) := by
  unfold stateTaken
  split
  · exact ok.work (work_ite (work_endStep (work_pollAnswered (.refl s))) (work_countError (.refl s)))
  · exact ok.work (work_countStray (.refl s))

theorem inBounds_forwardTaken (ok : InBounds s) {k : Nat} {p : List Byte} : InBounds (forwardTaken k p s) := by
  unfold forwardTaken
  split
  · split
    · exact ok.work (work_ite (work_countError (.refl s)) (work_endStep (work_forwardAnswered (.refl s))))
    · exact ok.work (work_countStray (.refl s))
  · exact ok.work (work_countStray (.refl s))

/-- R140: the entry whose wait has ended leaves the forward queue. -/
theorem inBounds_forwardWaited (ok : InBounds s) {place : Nat} : InBounds (forwardWaited place s) := by
  unfold forwardWaited
  split
  · exact ok.work (work_endStep (work_sendFail (work_setPlant (.refl s) (hf := List.length_eraseIdx_le ..))))
  · exact ok

/-! ### Every command -/

theorem inBounds_noticeTaken (ok : InBounds s) {during : List (List IntakeArrival)} :
    InBounds (noticeTaken during s) := by
  unfold noticeTaken
  split
  · exact ok
  · exact ok.work (work_ite (work_endStep (work_placementDecision (work_selector (.refl s))))
      (work_selector (.refl s)))

theorem exec_inBounds {c : Instr} (ok : InBounds s) (he : exec c s = .next t) : InBounds t := by
  cases c with
  | powerUp bad =>
    cases he
    split
    · exact InBounds.of_eq (inBounds_coldBlocks (inBounds_interruptWrite ok)) rfl rfl rfl rfl rfl
    · exact inBounds_leaveStart (inBounds_coldBlocks (inBounds_interruptWrite
        (InBounds.of_eq (t := { s with powered := true }) ok rfl rfl rfl rfl rfl)))
  | resetLineAssert => cases he; exact (inBounds_interruptWrite ok).of_eq rfl rfl rfl rfl rfl
  | powerFailure => cases he; exact (inBounds_interruptWrite ok).of_eq rfl rfl rfl rfl rfl
  | resetLineRelease bad =>
    cases he
    split
    · exact ok
    · split
      · exact inBounds_warmStart (InBounds.of_eq (t := { s with resetHeld := false }) ok rfl rfl rfl rfl rfl)
      · exact ok.of_eq rfl rfl rfl rfl rfl
  | warmStart bad =>
    refine inBounds_acting ok he ?_
    split
    · exact inBounds_warmStart ok
    · exact ok
  | uptimeTick =>
    cases he
    split
    · exact ok
    · split
      · exact inBounds_tickUptime ok
      · exact inBounds_tickTimers (inBounds_tickUptime ok)
  | panelFrameReceived bs =>
    refine inBounds_acting ok he ?_
    exact ok.work (work_panelBytes (.refl s))
  | requestArrival f => exact inBounds_acting ok he (ok.work (work_joinInbound (.refl s)))
  | requestTaken => exact inBounds_acting ok he (inBounds_takeHead ok)
  | outboundFrameSent => exact inBounds_acting ok he (inBounds_headSent ok)
  | zoneEvent z a k =>
    cases he
    exact inBounds_ite (inBounds_endStep (ok.work (work_zoneEventTaken (.refl s)))) ok
  | zoneReset z => exact inBounds_acting ok he (ok.work (work_zoneResetTaken (.refl s)))
  | supplyState b x =>
    cases he
    exact inBounds_ite (inBounds_endStep (ok.work (work_supplyStateTaken (.refl s)))) ok
  | ffState x p =>
    cases he
    exact inBounds_ite (inBounds_endStep (ok.work (work_ffStateTaken (.refl s)))) ok
  | bldCmd x p =>
    cases he
    exact inBounds_ite (inBounds_endStep (ok.work (work_bldCmdTaken (.refl s)))) ok
  | zoneIsolateOn q z => exact inBounds_serving ok he fun ok => ok.work work_serveIsolateOn
  | zoneIsolateOff q z => exact inBounds_serving ok he fun ok => ok.work work_serveIsolateOff
  | outputReset q o => exact inBounds_serving ok he inBounds_serveOutputReset
  | faultAck q n l => exact inBounds_serving ok he inBounds_serveFaultAck
  | trailRead q n k => exact inBounds_serving ok he inBounds_serveTrailRead
  | statusAskSummary q i p => exact inBounds_statusAsk (bs := summaryReport) ok he
  | statusAskZone q i p => exact inBounds_statusAsk (bs := fun u => zoneReport u i) ok he
  | statusAskOutput q i p => exact inBounds_statusAsk (bs := fun u => outputReport u i) ok he
  | statusAskRun q i p => exact inBounds_statusAsk (bs := runReport) ok he
  | statusAskBoard q i p => exact inBounds_statusAsk (bs := fun u => boardReport u i) ok he
  | statusAskFirstFault q i p => exact inBounds_statusAsk (bs := firstFaultReport) ok he
  | enterService q => exact inBounds_serving ok he inBounds_serveEnterService
  | enterNormal q => exact inBounds_serving ok he inBounds_serveEnterNormal
  | modeRestart q => exact inBounds_serving ok he inBounds_serveRestart
  | tsel q x i => exact inBounds_serving ok he inBounds_serveTsel
  | trd q => exact inBounds_serving ok he inBounds_serveTrd
  | twr q i e => exact inBounds_serving ok he inBounds_serveTwr
  | testRun q n => exact inBounds_serving ok he inBounds_serveTestRun
  | testEnd q => exact inBounds_serving ok he inBounds_serveTestEnd
  | holdAsk q => exact inBounds_serving ok he inBounds_serveHoldAsk
  | holdEnd q => exact inBounds_serving ok he inBounds_serveHoldEnd
  | validationComplete =>
    cases he
    refine inBounds_ite ?_ ok
    dsimp only
    split
    · exact inBounds_serveValidation ok
    · exact ok
  | nvWriteComplete b =>
    cases he
    refine inBounds_ite ?_ ok
    dsimp only
    split
    · exact inBounds_serveNvWrite ok
    · exact ok
  | forwardCandidate f =>
    refine inBounds_acting ok he ?_
    exact ok.work (work_candidateTaken (.refl s))
  | placementDecision during =>
    cases he
    refine inBounds_ite (inBounds_noticeTaken ?_) ok
    unfold giveForEntry
    split
    · exact ok.of_eq rfl rfl rfl rfl rfl
    · exact ok
  | delayTimerExpiry =>
    refine inBounds_acting ok he ?_
    exact ok.work (work_ite (work_endStep (work_delayExpired (.refl s))) (.refl s))
  | establishDeadlineExpiry =>
    refine inBounds_acting ok he ?_
    exact ok.work (work_ite (work_endStep (work_deadlineExpired (.refl s))) (.refl s))
  | plantSendComplete => exact inBounds_acting ok he (inBounds_sendComplete ok)
  | plantFrameReceived bs =>
    refine inBounds_acting ok he ?_
    exact ok.work (work_plantBytes (.refl s))
  | cmdAck ch r => exact inBounds_acting ok he (inBounds_ackTaken ok)
  | stateReply bs => exact inBounds_acting ok he (inBounds_stateTaken ok)
  | forwardReply k p => exact inBounds_acting ok he (inBounds_forwardTaken ok)
  | proofTimerExpiry o =>
    refine inBounds_acting ok he ?_
    exact ok.work (work_ite (work_endStep (work_proofExpired (.refl s))) (.refl s))
  | replyWindowExpiry =>
    cases he
    refine inBounds_ite ?_ ok
    dsimp only
    split
    · exact ok.work (work_ite (work_endStep (work_windowExpired (.refl s))) (.refl s))
    · exact ok
  | pacerTimerExpiry =>
    refine inBounds_acting ok he ?_
    exact ok.work (work_ite (work_endStep (work_setPlant (.refl s))) (.refl s))
  | forwardWaitExpiry n => exact inBounds_acting ok he (inBounds_forwardWaited ok)
  | holdTimerExpiry =>
    refine inBounds_acting ok he ?_
    exact ok.work (work_ite (work_endStep (work_releaseHold (.refl s))) (.refl s))
  | startHeld f =>
    refine inBounds_acting ok he ?_
    exact ok.work (work_warnHeld (.refl s))
  | supervisionTimerExpiry =>
    refine inBounds_acting ok he ?_
    exact ok.work (work_ite (work_panelLost (.refl s)) (.refl s))

/-- Settles O8: a step idles or runs a command. -/
theorem listsCountsAndTrailStayInBounds : Obligations.ListsCountsAndTrailStayInBounds := by
  intro s t hb ht he
  have ok : InBounds t := by
    rcases step_cases he with rfl | ⟨c, rest, -, he⟩
    · exact ⟨hb, ht⟩
    · exact exec_inBounds (s := { s with pending := rest }) (InBounds.of_eq ⟨hb, ht⟩ rfl rfl rfl rfl rfl) he
  exact ⟨ok.bounds, ok.trail⟩

end Sys2Proof.Machine
end

section
/-! A tick of a running sequencer (O19). -/

namespace Sys2Proof.Machine

theorem countDown_eq (x : Option Nat) : countDown x = x.map (fun n => n - 1) := by
  rcases x with _ | _ | n <;> rfl

/-- A change of every listed value that keeps the default is a change of every value. -/
theorem sget_map {α : Type} {d : α} {f : α → α} (hd : f d = d) (m : Sparse α) (n : Nat) :
    sget d (m.map fun p => (p.1, f p.2)) n = f (sget d m n) := by
  induction m with
  | nil => exact hd.symm
  | cons q m ih =>
    simp only [List.map_cons, sget, ih]
    split <;> rfl

/-- Settles O19: each timer goes down by 1, the proof timers in every record. -/
theorem tickCountsUptimeAndTimers : Obligations.TickCountsUptimeAndTimers := by
  intro s hp hr
  refine ⟨s.outs.map fun p => (p.1, { p.2 with timer := countDown p.2.timer }), ?_, fun o => ?_⟩
  · simp only [exec, execUptimeTick, hp, hr, tickTimers, tickUptime, countDown_eq, Config.uptimeModulus,
      Bool.not_true, Bool.false_eq_true, if_false]
  · rw [sget_map (f := fun r : OutRec => { r with timer := countDown r.timer }) rfl, countDown_eq]
    rfl

end Sys2Proof.Machine
end

section
/-! What the work of the Output Resolver and the Start Scheduler leaves: the run, the watches, the tables, and of the output
records the layers and the engaged-as record (SameLayers), the resolved commands, and the state of every output that neither
waits nor is worked on (Kept). -/

namespace Sys2Proof.Machine

/-! ### Output records -/

/-- The output records are in canonical form. -/
def outsWf (s : State) : Prop := sparseWf coldOut s.outs = true

/-- R57: the four layer entries and the engaged-as record. -/
def layersOf (r : OutRec) : Option Cmd × Option Cmd × Option Cmd × Option Cmd × Engaged :=
  (r.ff, r.fire, r.safe, r.bld, r.engaged)

variable {s t u : State} {ps : List Nat} {o x : Nat} {f : OutRec → OutRec}

theorem outRec_congr (h : t.outs = s.outs) (o : Nat) : outRec t o = outRec s o := by simp only [outRec, h]

theorem outEntry_congr (h : t.tables = s.tables) (o : Nat) : outEntry t o = outEntry s o := by simp only [outEntry, h]

theorem outRec_modOut_same (hw : outsWf s) : outRec (modOut o f s) o = f (outRec s o) := sget_sput_same hw

theorem outRec_modOut_other (h : x ≠ o) : outRec (modOut o f s) x = outRec s x := sget_sput_other h

theorem outRec_modOut (hw : outsWf s) (x : Nat) :
    outRec (modOut o f s) x = if x = o then f (outRec s o) else outRec s x := by
  split
  · rename_i h
    rw [h, outRec_modOut_same hw]
  · exact outRec_modOut_other ‹_›

theorem outsWf_modOut (hw : outsWf s) : outsWf (modOut o f s) := sparseWf_sput hw

/-! ### The relations -/

/-- The run, the watches and the tables stand, and the output records stay in canonical form. -/
structure Still (s t : State) : Prop where
  run : t.run = s.run
  watches : t.watches = s.watches
  tables : t.tables = s.tables
  wf : outsWf s → outsWf t

/-- Still, and every output keeps its layers and its engaged-as record. -/
structure SameLayers (s t : State) : Prop extends Still s t where
  layers : outsWf s → ∀ o, layersOf (outRec t o) = layersOf (outRec s o)

/-- SameLayers, and every output keeps its resolved command, and its state too where it is not waiting and not one of `ps`. -/
structure Kept (ps : List Nat) (s t : State) : Prop extends SameLayers s t where
  resolved : outsWf s → ∀ o, (outRec t o).resolved = (outRec s o).resolved
  acts : outsWf s → ∀ o, o ∉ ps → inWait (outRec s o).act = false → (outRec t o).act = (outRec s o).act

/-- Work from `s` on may move this output's state: it is one of `ps`, or it waits. -/
def Free (ps : List Nat) (s t : State) (o : Nat) : Prop := outsWf s → o ∈ ps ∨ inWait (outRec t o).act = true

theorem Still.refl (s : State) : Still s s := ⟨rfl, rfl, rfl, id⟩

theorem Still.trans (h : Still s t) (h' : Still t u) : Still s u :=
  ⟨h'.run.trans h.run, h'.watches.trans h.watches, h'.tables.trans h.tables, h'.wf ∘ h.wf⟩

theorem SameLayers.refl (s : State) : SameLayers s s := ⟨.refl s, fun _ _ => rfl⟩

theorem SameLayers.trans (h : SameLayers s t) (h' : SameLayers t u) : SameLayers s u :=
  ⟨h.toStill.trans h'.toStill, fun hw o => (h'.layers (h.wf hw) o).trans (h.layers hw o)⟩

theorem Kept.refl (ps : List Nat) (s : State) : Kept ps s s := ⟨.refl s, fun _ _ => rfl, fun _ _ _ _ => rfl⟩

theorem Kept.trans (h : Kept ps s t) (h' : Kept ps t u) : Kept ps s u where
  toSameLayers := h.toSameLayers.trans h'.toSameLayers
  resolved hw o := (h'.resolved (h.wf hw) o).trans (h.resolved hw o)
  acts hw o ho hi := by
    have ht := h.acts hw o ho hi
    exact (h'.acts (h.wf hw) o ho (ht ▸ hi)).trans ht

theorem Kept.mono {qs : List Nat} (h : Kept ps s t) (hs : ps ⊆ qs) : Kept qs s t :=
  ⟨h.toSameLayers, h.resolved, fun hw o ho => h.acts hw o fun hp => ho (hs hp)⟩

theorem Free.mem (h : o ∈ ps) : Free ps s t o := fun _ => .inl h

theorem Free.waits (h : inWait (outRec t o).act = true) : Free ps s t o := fun _ => .inr h

theorem Free.of_outs (h : Free ps s t o) (e : u.outs = t.outs) : Free ps s u o := by
  unfold Free
  rwa [outRec_congr e]

theorem Free.modOut (h : Free ps s t o) (k : Kept ps s t) (hf : ∀ r, (f r).act = r.act := by exact fun _ => rfl) :
    Free ps s (modOut x f t) o := by
  intro hw
  rw [outRec_modOut (k.wf hw)]
  split
  · rename_i hx
    rw [hf, ← hx]
    exact h hw
  · exact h hw

/-! ### The named writes -/

/-- A change of parts that Kept does not speak of. -/
theorem Kept.of_eq (h : Kept ps s t) (hr : u.run = t.run) (hw : u.watches = t.watches) (ht : u.tables = t.tables)
    (ho : u.outs = t.outs) : Kept ps s u := by
  have hrec := outRec_congr ho
  refine ⟨⟨⟨hr.trans h.run, hw.trans h.watches, ht.trans h.tables, fun a => ?_⟩, fun a o => ?_⟩, fun a o => ?_,
    fun a o => ?_⟩
  · unfold outsWf
    rw [ho]
    exact h.wf a
  · rw [hrec]
    exact h.layers a o
  · rw [hrec]
    exact h.resolved a o
  · rw [hrec]
    exact h.acts a o

theorem kept_setQueue (h : Kept ps s t) {f : List QueueEntry → List QueueEntry} : Kept ps s (setQueue f t) :=
  h.of_eq rfl rfl rfl rfl
theorem kept_setPlant (h : Kept ps s t) {f : Plant → Plant} : Kept ps s (setPlant f t) := h.of_eq rfl rfl rfl rfl
theorem kept_tellRunner (h : Kept ps s t) {n : RunnerNotice} : Kept ps s (tellRunner n t) := h.of_eq rfl rfl rfl rfl
theorem kept_tellMonitor (h : Kept ps s t) {n : MonitorNotice} : Kept ps s (tellMonitor n t) := h.of_eq rfl rfl rfl rfl

/-- A change of a record that keeps its layers and its resolved command, and its state unless the output is free. -/
theorem kept_record (h : Kept ps s t) (hl : ∀ r, layersOf (f r) = layersOf r := by exact fun _ => rfl)
    (hr : ∀ r, (f r).resolved = r.resolved := by exact fun _ => rfl)
    (ha : Free ps s t o ∨ ∀ r, (f r).act = r.act) : Kept ps s (modOut o f t) := by
  refine ⟨⟨⟨h.run, h.watches, h.tables, fun hw => outsWf_modOut (h.wf hw)⟩, fun hw x => ?_⟩, fun hw x => ?_,
    fun hw x hx hi => ?_⟩
  all_goals rw [outRec_modOut (h.wf hw)]; split
  case refine_1.isTrue e => exact (hl _).trans (e ▸ h.layers hw o)
  case refine_1.isFalse => exact h.layers hw x
  case refine_2.isTrue e => exact (hr _).trans (e ▸ h.resolved hw o)
  case refine_2.isFalse => exact h.resolved hw x
  case refine_3.isFalse => exact h.acts hw x hx hi
  case refine_3.isTrue e =>
    subst e
    have hs := h.acts hw x hx hi
    rcases ha with ha | ha
    · have hi' : inWait (outRec t x).act = false := hs ▸ hi
      exact absurd (ha hw) (by simp [hx, hi'])
    · exact (ha _).trans hs

theorem kept_modOut (h : Kept ps s t) (hl : ∀ r, layersOf (f r) = layersOf r := by exact fun _ => rfl)
    (hr : ∀ r, (f r).resolved = r.resolved := by exact fun _ => rfl)
    (ha : ∀ r, (f r).act = r.act := by exact fun _ => rfl) : Kept ps s (modOut o f t) :=
  kept_record h hl hr (.inr ha)

theorem kept_foldl {α : Type} {f : State → α → State} (hf : ∀ {u : State} (x : α), Kept ps s u → Kept ps s (f u x))
    {xs : List α} (h : Kept ps s t) : Kept ps s (xs.foldl f t) := by
  induction xs generalizing t with
  | nil => exact h
  | cons x xs ih => exact ih (hf x h)

theorem kept_ite {c : Prop} [Decidable c] {a b : State} (ha : Kept ps s a) (hb : Kept ps s b) :
    Kept ps s (if c then a else b) := by
  split
  · exact ha
  · exact hb

/-! ### The Fault Capture Unit -/

/-- Recording and capturing write the Panel Link Interface and the Fault Capture Unit alone. -/
structure Captures (s t : State) : Prop where
  run : t.run = s.run
  watches : t.watches = s.watches
  tables : t.tables = s.tables
  outs : t.outs = s.outs
  queue : t.queue = s.queue
  plant : t.plant = s.plant
  uptime : t.uptime = s.uptime
  runnerIn : t.runnerIn = s.runnerIn
  monitorIn : t.monitorIn = s.monitorIn

theorem Captures.trans (h : Captures s t) (h' : Captures t u) : Captures s u :=
  ⟨h'.run.trans h.run, h'.watches.trans h.watches, h'.tables.trans h.tables, h'.outs.trans h.outs,
    h'.queue.trans h.queue, h'.plant.trans h.plant, h'.uptime.trans h.uptime, h'.runnerIn.trans h.runnerIn,
    h'.monitorIn.trans h.monitorIn⟩

theorem captures_recordEntry (ev : Ev) (a b : Nat) (s : State) : Captures s (recordEntry ev a b s) := by
  constructor <;> simp [recordEntry]

theorem captures_setCapture (f : Capture → Capture) (s : State) : Captures s (setCapture f s) := by
  constructor <;> simp

theorem captures_report (r : Report) (s : State) : Captures s (report r s) := by
  have ht := captures_recordEntry r.event r.subject r.detail s
  unfold report takeCritical
  dsimp only
  split
  · split
    · exact (ht.trans (captures_setCapture _ _)).trans (captures_recordEntry _ _ _ _)
    · exact ht.trans (captures_setCapture _ _)
  · exact ht

theorem captures_raise (ev : Ev) (a b : Nat) (s : State) : Captures s (raise ev a b s) := captures_report _ s

theorem Captures.kept (c : Captures t u) (h : Kept ps s t) : Kept ps s u := h.of_eq c.run c.watches c.tables c.outs

theorem kept_report (h : Kept ps s t) {r : Report} : Kept ps s (report r t) := (captures_report r t).kept h
theorem kept_raise (h : Kept ps s t) {ev : Ev} {a b : Nat} : Kept ps s (raise ev a b t) := kept_report h

/-! ### The Output Resolver and the Start Scheduler -/

theorem kept_setAct (h : Kept ps s t) {a : Act} (ho : Free ps s t o) : Kept ps s (setAct o a t) := by
  have hm : Kept ps s (modOut o (fun r => { r with act := a }) t) := kept_record h (ha := .inl ho)
  exact kept_ite hm (kept_ite (kept_setPlant hm) (kept_setPlant hm))

theorem kept_dequeue (h : Kept ps s t) : Kept ps s (dequeue o t) := kept_setQueue h

theorem kept_enqueue (h : Kept ps s t) {c : Cmd} (ho : Free ps s t o) : Kept ps s (enqueue o c t) :=
  kept_setAct (kept_setQueue h) ho

theorem kept_tellReserve (h : Kept ps s t) : Kept ps s (tellReserve o t) := by
  unfold tellReserve
  split
  · exact kept_tellMonitor h
  · exact h

theorem kept_settleRecord (h : Kept ps s t) (ho : Free ps s t o) : Kept ps s (settleRecord o t) := by
  have hs := kept_setAct (a := .settled) (kept_modOut h (o := o) (f := fun r =>
    { r with fault := none, origin := none, timer := none, clean := false, slot := none })) (ho.modOut h)
  exact kept_ite hs (kept_tellReserve (kept_tellRunner hs))

theorem kept_admitFan (h : Kept ps s t) (ho : Free ps s t o) : Kept ps s (admitFan o t) := by
  unfold admitFan
  split
  · exact h
  · dsimp only
    split
    · exact kept_settleRecord (kept_modOut h) (ho.modOut h)
    · exact kept_enqueue (kept_modOut h) (ho.modOut h)

/-- R89: the fans of a wait list wait. -/
theorem act_of_mem_waitList {b : Nat} (h : o ∈ waitList t b) : (outRec t o).act = .waitStart := by
  have := List.mem_filter.1 (mem_sortBy.1 h)
  simpa using this.2

theorem kept_examineTimes (h : Kept ps s t) {n b : Nat} : Kept ps s (examineTimes n b t) := by
  induction n generalizing t with
  | zero => exact h
  | succ n ih =>
    unfold examineTimes
    split
    · exact h
    · rename_i f _ hl
      refine kept_ite (ih (kept_admitFan h (.waits ?_))) h
      rw [act_of_mem_waitList (hl ▸ List.mem_cons_self)]
      rfl

theorem kept_examine (h : Kept ps s t) {b : Nat} : Kept ps s (examine b t) := kept_examineTimes h

theorem kept_examineFor (h : Kept ps s t) : Kept ps s (examineFor o t) := kept_ite (kept_examine h) h

theorem kept_forgetWait (h : Kept ps s t) : Kept ps s (forgetWait o t) := kept_modOut h

theorem kept_resumeWait (h : Kept ps s t) : Kept ps s (resumeWait o t) := kept_ite h (kept_forgetWait h)

theorem kept_warnHeld (h : Kept ps s t) : Kept ps s (warnHeld o t) := kept_ite (kept_raise (kept_modOut h)) h

theorem endWait_layers (r : OutRec) : layersOf (endWait r) = layersOf r := by
  unfold endWait
  split <;> rfl

theorem endWait_resolved (r : OutRec) : (endWait r).resolved = r.resolved := by
  unfold endWait
  split <;> rfl

theorem endWait_act (r : OutRec) : (endWait r).act = r.act := by
  unfold endWait
  split <;> rfl

theorem kept_faultRecord (h : Kept ps s t) {code : FaultCode} {cause : Cause} (ho : Free ps s t o) :
    Kept ps s (faultRecord o code cause t) := by
  have he : Kept ps s (modOut o endWait t) := kept_modOut h endWait_layers endWait_resolved endWait_act
  have hf := (ho.modOut (x := o) h endWait_act).modOut (x := o) he (f := fun r =>
    { r with fault := some { code := code, cause := cause }, origin := none, timer := none, clean := false })
  exact kept_setAct (kept_dequeue (kept_modOut he)) (hf.of_outs rfl)

theorem kept_toFault (h : Kept ps s t) {code : FaultCode} {cause : Cause} (ho : Free ps s t o) :
    Kept ps s (toFault o code cause t) :=
  kept_tellReserve (kept_tellRunner (kept_examineFor (kept_modOut (kept_report (kept_faultRecord h ho)))))

theorem kept_joinWait (h : Kept ps s t) (ho : Free ps s t o) : Kept ps s (joinWait o t) :=
  kept_warnHeld (kept_examineFor (kept_setAct (kept_modOut h) (ho.modOut h)))

theorem kept_judgePath (h : Kept ps s t) : Kept ps s (judgePath o t) := by
  unfold judgePath
  split
  · exact h
  · rename_i ha
    have ho : Free ps s t o := .waits (by rw [not_not.1 ha]; rfl)
    exact kept_ite (kept_joinWait h ho) (kept_ite (kept_toFault h ho) h)

theorem kept_rejudge (h : Kept ps s t) : Kept ps s (rejudge o t) := kept_foldl (fun _ hu => kept_judgePath hu) h

theorem kept_settle (h : Kept ps s t) (ho : Free ps s t o) : Kept ps s (settle o t) :=
  kept_ite (kept_examineFor (kept_settleRecord h ho)) (kept_settleRecord h ho)

theorem kept_placeStart (h : Kept ps s t) {c : Cmd} (ho : Free ps s t o) : Kept ps s (placeStart o c t) :=
  kept_ite (kept_judgePath (kept_setAct h ho)) (kept_joinWait h ho)

variable (ho : o ∈ ps)
include ho

theorem kept_place (h : Kept ps s t) : Kept ps s (place o t) := by
  unfold place
  dsimp only
  split
  · exact h
  have hf : ∀ {u}, Free ps s u o := .mem ho
  repeat' with_reducible first
    | exact kept_toFault h hf | exact kept_setAct h hf | exact kept_settle h hf | exact kept_enqueue h hf
    | exact kept_placeStart (kept_resumeWait h) hf | split

theorem kept_newAttempt (h : Kept ps s t) {way : Way} : Kept ps s (newAttempt o way t) :=
  kept_place ho (kept_raise (kept_modOut h))

theorem kept_requeueStart (h : Kept ps s t) : Kept ps s (requeueStart o t) := by
  unfold requeueStart
  dsimp only
  split
  · exact kept_ite (kept_place ho (kept_dequeue h)) h
  · exact h

theorem kept_onOutput (h : Kept ps s t) {work : State → State} (hw : ∀ {u : State}, Kept ps s u → Kept ps s (work u)) :
    Kept ps s (onOutput o work t) :=
  kept_ite (kept_rejudge (kept_requeueStart ho (hw h))) (kept_requeueStart ho (hw h))

theorem kept_supersede (h : Kept ps s t) {c : Cmd} : Kept ps s (supersede o c t) := by
  have hf : ∀ {u}, Free ps s u o := .mem ho
  have hx : ∀ {sl : Option Slot} {b : Prop} [Decidable b], Kept ps s
      (let t := modOut o (fun r => { r with
          superseded := min 255 (r.superseded + 1), retried := false, origin := none, timer := none, clean := false,
          slot := sl }) t
       if b then examineFor o t else t) := kept_ite (kept_examineFor (kept_modOut h)) (kept_modOut h)
  exact kept_ite (kept_placeStart (kept_forgetWait (kept_dequeue hx)) hf)
    (kept_ite (kept_setQueue hx) (kept_enqueue hx hf))

theorem kept_toNone (h : Kept ps s t) {was : Act} : Kept ps s (toNone was o t) := by
  have hf : ∀ {u}, Free ps s u o := .mem ho
  have hm := kept_modOut (kept_dequeue h (o := o)) (o := o) (f := fun r =>
    { r with
      fault := none, origin := none, timer := none, clean := false, retried := false, busy := 0, slot := none })
  have hr : Kept ps s (if (outRec t o).act = .fault then raise .outputRecovered o (wayCode .command) _ else _) :=
    kept_ite (kept_raise hm) hm
  have hs := kept_ite (c := (outRec t o).valid = true) (kept_settleRecord hr hf) (kept_setAct (a := .unknown) hr hf)
  exact kept_ite (kept_examineFor hs) hs

theorem kept_actOnCommand (h : Kept ps s t) {was : Act} : Kept ps s (actOnCommand was o t) := by
  unfold actOnCommand
  split
  · exact kept_toNone ho h
  split
  · exact kept_newAttempt ho h
  all_goals first
    | exact kept_supersede ho h | exact kept_examineFor (kept_place ho h) | exact kept_place ho h

end Sys2Proof.Machine
end

section
/-! What a change of layers and the Scenario Runner's parts leave: the layers that a change writes and no other (R61), and of the
run context what a report, an issued step and an advance do not move. -/

namespace Sys2Proof.Machine

variable {s t u : State} {ps : List Nat} {o x : Nat}

/-! ### Recomputation and changes of layers (R60, R61) -/

theorem sameLayers_foldl {α : Type} {f : State → α → State} (hf : ∀ (u : State) (x : α), SameLayers u (f u x)) (xs : List α)
    (s : State) : SameLayers s (xs.foldl f s) := by
  induction xs generalizing s with
  | nil => exact .refl s
  | cons x xs ih => exact (hf s x).trans (ih _)

theorem SameLayers.record {f : OutRec → OutRec} (hl : ∀ r, layersOf (f r) = layersOf r) (s : State) :
    SameLayers s (modOut o f s) := by
  refine ⟨⟨rfl, rfl, rfl, outsWf_modOut⟩, fun hw x => ?_⟩
  rw [outRec_modOut hw]
  split
  · rename_i e
    exact (hl _).trans (e ▸ rfl)
  · rfl

theorem sameLayers_takeCommand (o : Nat) (s : State) : SameLayers s (takeCommand o s) :=
  (SameLayers.record endWait_layers s).trans (SameLayers.record (f := fun r =>
    { r with
      resolved := resolve (outEntry s o) r, retried := false, act := if inWait r.act then .unknown else r.act })
    (fun _ => rfl) _)

theorem sameLayers_recomputeAll (os : List Nat) (s : State) : SameLayers s (recomputeAll os s) := by
  refine (sameLayers_foldl (fun u o => sameLayers_takeCommand o u) _ s).trans (sameLayers_foldl (fun u o => ?_) _ _)
  have hk := Kept.refl [o] u
  have ho : o ∈ [o] := List.mem_singleton_self o
  exact (kept_ite (kept_onOutput ho hk fun hk => kept_actOnCommand ho hk) (kept_ite (kept_examineFor hk) hk)).toSameLayers

theorem still_modOut (o : Nat) (f : OutRec → OutRec) (s : State) : Still s (modOut o f s) :=
  ⟨rfl, rfl, rfl, outsWf_modOut⟩

theorem still_foldl {α : Type} {f : State → α → State} (hf : ∀ (u : State) (x : α), Still u (f u x)) (xs : List α)
    (s : State) : Still s (xs.foldl f s) := by
  induction xs generalizing s with
  | nil => exact .refl s
  | cons x xs ih => exact (hf s x).trans (ih _)

theorem still_ite {c : Prop} [Decidable c] {a b : State} (ha : Still s a) (hb : Still s b) :
    Still s (if c then a else b) := by
  split
  · exact ha
  · exact hb

theorem still_changeLayers (w : Nat → OutRec → OutRec) (os : List Nat) (s : State) : Still s (changeLayers w os s) :=
  (still_foldl (fun u o => still_modOut o (w o) u) os s).trans (sameLayers_recomputeAll os _).toStill

theorem still_writeFire (o : Nat) (c : Option Cmd) (s : State) : Still s (writeFire o c s) :=
  still_ite (still_changeLayers _ _ s) (.refl s)

/-- Writes to the records of different outputs, one after another. -/
theorem outRec_foldl_modOut {w : Nat → OutRec → OutRec} {os : List Nat} (hn : os.Nodup) (hw : outsWf s) (x : Nat) :
    outRec (os.foldl (fun t o => modOut o (w o) t) s) x = if x ∈ os then w x (outRec s x) else outRec s x := by
  induction os generalizing s with
  | nil => simp
  | cons o os ih =>
    obtain ⟨ho, hn⟩ := List.nodup_cons.1 hn
    rw [List.foldl_cons, ih hn (outsWf_modOut hw), outRec_modOut hw]
    by_cases hx : x = o
    · subst hx
      simp [ho]
    · simp [hx]

/-- R61: a change writes the layers of its outputs and no other. -/
theorem layers_changeLayers {w : Nat → OutRec → OutRec} {os : List Nat} (hn : os.Nodup) (hw : outsWf s) (x : Nat) :
    layersOf (outRec (changeLayers w os s) x) = layersOf (if x ∈ os then w x (outRec s x) else outRec s x) := by
  rw [← outRec_foldl_modOut hn hw]
  exact (sameLayers_recomputeAll os _).layers ((still_foldl (fun u o => still_modOut o (w o) u) os s).wf hw) x

/-! ### The configured outputs -/

/-- In canonical form the keys rise. -/
theorem sparseWf_pairwise {α : Type} [DecidableEq α] {d : α} {m : Sparse α} (h : sparseWf d m = true) :
    m.Pairwise fun p q => p.1 < q.1 := by
  induction m with
  | nil => exact .nil
  | cons p m ih =>
    obtain ⟨-, hm, hp⟩ := sparseWf_cons (k := p.1) (w := p.2) h
    exact List.pairwise_cons.2 ⟨hp, ih hm⟩

/-- The output table is in canonical form. -/
def outputsWf (s : State) : Prop := sparseWf blankOutput s.tables.outputs = true

theorem configured_pairwise (h : outputsWf s) : (configured s).Pairwise (· < ·) := by
  refine List.Pairwise.filterMap _ (fun p q hpq a ha b hb => ?_) (sparseWf_pairwise h)
  simp only [Option.ite_none_right_eq_some, Option.some.injEq] at ha hb
  omega

theorem configured_nodup (h : outputsWf s) : (configured s).Nodup :=
  (configured_pairwise h).imp fun h => h.ne

theorem mem_configured (h : isConfigured (outEntry s o) = true) : o ∈ configured s := by
  rcases sget_mem blankOutput s.tables.outputs o with hd | ⟨p, hp, rfl, hv⟩
  · rw [outEntry, outputOf, hd] at h
    cases h
  · exact List.mem_filterMap.2 ⟨p, hp, by rw [hv]; exact if_pos h⟩

/-! ### Reports (R42, R46, R50, R51) -/

/-- What taking reports moves: of the run its fault list and flags, and steps that leave the in-flight set. -/
structure Reports (s t : State) : Prop where
  run : t.run = { s.run with
    inFlight := t.run.inFlight, faults := t.run.faults, overflow := t.run.overflow, degraded := t.run.degraded }
  flight : t.run.inFlight.Sublist s.run.inFlight
  faults : s.run.faults <+: t.run.faults
  watches : t.watches = s.watches
  tables : t.tables = s.tables
  wf : outsWf s → outsWf t

theorem Reports.refl (s : State) : Reports s s := ⟨rfl, .refl _, List.prefix_refl _, rfl, rfl, id⟩

theorem Reports.trans (h : Reports s t) (h' : Reports t u) : Reports s u :=
  ⟨by rw [h'.run, h.run], h'.flight.trans h.flight, h.faults.trans h'.faults, h'.watches.trans h.watches,
    h'.tables.trans h.tables, h'.wf ∘ h.wf⟩

theorem Still.reports (h : Still s t) : Reports s t :=
  ⟨by rw [h.run], by rw [h.run], by rw [h.run], h.watches, h.tables, h.wf⟩

theorem Captures.still (h : Captures s t) : Still s t :=
  ⟨h.run, h.watches, h.tables, fun hw => by unfold outsWf; rwa [h.outs]⟩

theorem reports_ite {c : Prop} [Decidable c] {a b : State} (ha : Reports s a) (hb : Reports s b) :
    Reports s (if c then a else b) := by
  split
  · exact ha
  · exact hb

theorem reports_recordRunFault (o : Nat) (s : State) : Reports s (recordRunFault o s) := by
  unfold recordRunFault
  refine reports_ite (.refl s) (reports_ite ?_ ?_)
  · exact ⟨rfl, .refl _, List.prefix_append _ _, rfl, rfl, id⟩
  · exact ⟨rfl, .refl _, List.prefix_refl _, rfl, rfl, id⟩

theorem still_extractLost (duty : Nat) (s : State) : Still s (extractLost duty s) := (captures_report _ s).still

theorem still_tellMonitor (n : MonitorNotice) (s : State) : Still s (tellMonitor n s) := ⟨rfl, rfl, rfl, id⟩

theorem still_tellStandby (duty : Nat) (s : State) : Still s (tellStandby duty s) :=
  still_foldl (fun u _ => still_tellMonitor _ u) _ s

theorem still_engageStandby (standby duty : Nat) (c : Cmd) (s : State) : Still s (engageStandby standby duty c s) :=
  (((still_writeFire _ _ s).trans (still_modOut _ _ _)).trans (captures_raise _ _ _ _).still).trans (still_tellStandby _ _)

theorem still_substitute (duty : Nat) (code : FaultCode) (s : State) : Still s (substitute duty code s) := by
  unfold substitute
  dsimp only
  split
  · exact still_ite (still_ite (still_extractLost _ s) (still_engageStandby _ _ _ s)) (.refl s)
  · exact .refl s

theorem still_standbyFaulted (o : Nat) (s : State) : Still s (standbyFaulted o s) := by
  unfold standbyFaulted
  split
  · exact still_extractLost _ s
  · exact .refl s

theorem reports_takeFault (o : Nat) (code : FaultCode) (s : State) : Reports s (takeFault o code s) :=
  reports_ite ((reports_recordRunFault o s).trans
    ((still_standbyFaulted o _).trans (still_substitute o code _)).reports) (.refl s)

theorem reports_leaveFlight (o : Nat) (s : State) : Reports s (leaveFlight o s) :=
  ⟨rfl, List.filter_sublist, List.prefix_refl _, rfl, rfl, id⟩

theorem reports_takeReport (n : RunnerNotice) (s : State) : Reports s (takeReport n s) := by
  unfold takeReport
  dsimp only
  split
  · exact reports_leaveFlight _ s
  · exact (reports_leaveFlight _ s).trans (reports_takeFault _ _ _)

theorem still_runnerIn (s : State) (x : List RunnerNotice) : Still s { s with runnerIn := x } := ⟨rfl, rfl, rfl, id⟩

theorem reports_takeReportsTimes (n : Nat) (s : State) : Reports s (takeReportsTimes n s) := by
  induction n generalizing s with
  | zero => exact .refl s
  | succ n ih =>
    unfold takeReportsTimes
    split
    · exact ((still_runnerIn s _).reports.trans (reports_takeReport _ _)).trans (ih _)
    · exact .refl s

theorem reports_takeReports (s : State) : Reports s (takeReports s) := reports_takeReportsTimes _ s

/-! ### Issue (R41, R52) -/

/-- What issuing a step moves of the run: besides what reports do, the steps in flight and those last issued. -/
structure Issues (s t : State) : Prop where
  run : t.run = { s.run with
    inFlight := t.run.inFlight, lastIssued := t.run.lastIssued, faults := t.run.faults, overflow := t.run.overflow,
    degraded := t.run.degraded }
  watches : t.watches = s.watches
  tables : t.tables = s.tables
  wf : outsWf s → outsWf t

theorem Issues.refl (s : State) : Issues s s := ⟨rfl, rfl, rfl, id⟩

theorem Issues.trans (h : Issues s t) (h' : Issues t u) : Issues s u :=
  ⟨by rw [h'.run, h.run], h'.watches.trans h.watches, h'.tables.trans h.tables, h'.wf ∘ h.wf⟩

theorem Reports.issues (h : Reports s t) : Issues s t := ⟨by rw [h.run], h.watches, h.tables, h.wf⟩

theorem Still.issues (h : Still s t) : Issues s t := h.reports.issues

theorem issues_joinFlight (i : Nat) (s : State) : Issues s (joinFlight i s) := ⟨rfl, rfl, rfl, id⟩

theorem issues_placeStep (i n : Nat) (r : OutRec) (s : State) : Issues s (placeStep i n r s) := by
  unfold placeStep
  dsimp only
  split
  · exact .refl s
  · exact (reports_ite (reports_takeReports s) (reports_takeFault _ _ s)).issues
  · exact issues_joinFlight i s

theorem still_followStep (duty : Nat) (c : Cmd) (s : State) : Still s (followStep duty c s) := by
  refine still_foldl (fun u f => ?_) _ s
  have hf := still_writeFire f (some (standbyEntry (outEntry s f) c)) u
  exact still_ite ((hf.trans (still_modOut _ _ _)).trans (still_tellStandby _ _)) hf

/-- R41: the step is noted as last issued for its output. -/
def noted (i : Nat) (s : State) : State :=
  setRun (fun r => { r with lastIssued := sput none (stepOf s.tables i).output (some i) r.lastIssued }) s

/-- R41: the step's target is written as its output's FIRE entry. -/
def stepWritten (i : Nat) (s : State) : State :=
  writeFire (stepOf s.tables i).output (cmdOf (stepOf s.tables i).target) (noted i s)

/-- R41: the step is placed by the Resolver's answer. -/
def stepPlaced (i : Nat) (s : State) : State :=
  placeStep i s.runnerIn.length (outRec (stepWritten i s) (stepOf s.tables i).output) (stepWritten i s)

/-- R41, R52: to issue a step is to write it, to place it, and to let an engaged standby follow it. -/
theorem issueStep_eq (i : Nat) (s : State) :
    issueStep i s =
      match cmdOf (stepOf s.tables i).target with
      | some c => followStep (stepOf s.tables i).output c (stepPlaced i s)
      | none => stepPlaced i s := rfl

theorem issues_noted (i : Nat) (s : State) : Issues s (noted i s) := ⟨rfl, rfl, rfl, id⟩

theorem issues_stepPlaced (i : Nat) (s : State) : Issues s (stepPlaced i s) :=
  ((issues_noted i s).trans (still_writeFire _ _ _).issues).trans (issues_placeStep _ _ _ _)

theorem issues_issueStep (i : Nat) (s : State) : Issues s (issueStep i s) := by
  rw [issueStep_eq]
  split
  · exact (issues_stepPlaced i s).trans (still_followStep _ _ _).issues
  · exact issues_stepPlaced i s

end Sys2Proof.Machine
end

section
/-! Reports to the Runner (O40): settled steps, run faults, standby substitution and the engagement of a reserve. -/

namespace Sys2Proof.Machine

variable {s : State}

/-! ### Events of the run -/

/-- R160: the events of the run, but for RUN_LATE and EXTRACT_LOST, are never CRITICAL. -/
def isRunEvent : Ev → Bool
  | .runStart | .runSwitch | .runEstablished | .runEnd | .standbyEngaged | .reserveEngaged => true
  | _ => false

theorem raise_runEvent {ev : Ev} (h : isRunEvent ev = true) (a b : Nat) (s : State) :
    raise ev a b s = recordEntry ev a b s := by
  have hc : isCritical s { event := ev, subject := a, detail := b, clean := .none, facts := none } = false := by
    cases ev with
    | runStart | runSwitch | runEstablished | runEnd | standbyEngaged | reserveEngaged => rfl
    | _ => cases h
  simp [raise, report, hc]

/-! ### Faults (R46, R50, R51) -/

/-- R107: the Monitor is told once for each served zone that lists the duty fan. -/
theorem tellStandby_eq (duty : Nat) (s : State) :
    tellStandby duty s =
      { s with monitorIn := s.monitorIn ++ (s.run.served.filter
        (fun z => duty != 0 && (zoneEntry s z).extract.contains duty)).map MonitorNotice.testZone } := by
  have hf : ∀ (zs : List Nat) (u : State), zs.foldl (fun t z => tellMonitor (.testZone z) t) u =
      { u with monitorIn := u.monitorIn ++ zs.map MonitorNotice.testZone } := by
    intro zs
    induction zs with
    | nil => intro u; simp
    | cons z zs ih => intro u; rw [List.foldl_cons, ih]; simp [tellMonitor]
  have hl : ∀ xs : List Nat, (listed xs).contains duty = (duty != 0 && xs.contains duty) := by
    intro xs
    rw [Bool.eq_iff_iff]
    simp [listed, and_comm]
  simp only [tellStandby, hf, hl]

theorem runFacts_of_run (h : fireMode s = true) :
    runFacts s = { scenario := s.run.scenario, stepIndex := cursorStep s, seconds := runSeconds s } := if_pos h

/-- R46: what a fault of a run output makes of the run fault list. -/
theorem recordRunFault_eq (o : Nat) (s : State) :
    recordRunFault o s =
      if isRunOutput s o = false ∨ o ∈ s.run.faults then s
      else if s.run.faults.length < 16 then
        { s with run := { s.run with faults := s.run.faults ++ [o], degraded := true } }
      else { s with run := { s.run with overflow := true, degraded := true } } := by
  unfold recordRunFault
  refine if_congr ?_ rfl rfl
  simp

theorem recordRunFault_frame (o : Nat) (s : State) :
    (recordRunFault o s).outs = s.outs ∧ (recordRunFault o s).tables = s.tables ∧
      fireMode (recordRunFault o s) = fireMode s := by
  refine ⟨?_, (reports_recordRunFault o s).tables, congrArg Prod.fst (standing_recordRunFault s o)⟩
  unfold recordRunFault
  split
  · rfl
  · split <;> rfl

/-- R51: a fault of an engaged standby touches the Fault Capture Unit alone. -/
theorem captures_standbyFaulted (o : Nat) (s : State) : Captures s (standbyFaulted o s) := by
  unfold standbyFaulted
  split
  · exact captures_report _ s
  · exact ⟨rfl, rfl, rfl, rfl, rfl, rfl, rfl, rfl, rfl⟩

theorem substitutes_iff (code : FaultCode) : substitutes code = true ↔
    code ∈ [FaultCode.noRun, .tripped, .localControl, .noResponse, .lostProof, .path, .busy] := by
  cases code <;> decide

/-- R46, R50, R51: the parts of taking a fault in fire mode. -/
theorem takeFault_of_run (h : fireMode s = true) (o : Nat) (code : FaultCode) :
    takeFault o code s = substitute o code (standbyFaulted o (recordRunFault o s)) := if_pos h

theorem extractLost_eq (h : fireMode s = true) (duty : Nat) :
    extractLost duty s = report
      { event := .extractLost, subject := engagementZone s duty, detail := duty, clean := .none,
        facts := some { scenario := s.run.scenario, stepIndex := cursorStep s, seconds := runSeconds s } } s := by
  rw [extractLost, runFacts_of_run h]

/-- R50: the standby is engaged. -/
theorem engageStandby_eq (standby duty : Nat) (c : Cmd) (s : State) :
    engageStandby standby duty c s =
      let entry := if c = .low ∧ isFanSingle (outEntry s standby) = true then Cmd.high else c
      let v := recordEntry .standbyEngaged standby duty
        (modOut standby (fun r => { r with engaged := .standbyFor duty }) (writeFire standby (some entry) s))
      { v with monitorIn := v.monitorIn ++ ((v.run.served.filter
        (fun z => duty != 0 && (zoneEntry v z).extract.contains duty)).map MonitorNotice.testZone) } := by
  have he : standbyEntry (outEntry s standby) c =
      if c = .low ∧ isFanSingle (outEntry s standby) = true then Cmd.high else c := by
    simp [standbyEntry]
  rw [engageStandby, tellStandby_eq, raise_runEvent rfl, he]

/-- R50, R51: when a duty fan's fault calls for its standby. -/
abbrev callsStandby (s : State) (o : Nat) (code : FaultCode) : Prop :=
  isFan (outEntry s o) = true ∧
    code ∈ [FaultCode.noRun, .tripped, .localControl, .noResponse, .lostProof, .path, .busy] ∧
    (outEntry s o).standby ≠ 0 ∧ isFan (outEntry s (outEntry s o).standby) = true ∧
    ((outRec s (outEntry s o).standby).fire = none ∨ (outRec s (outEntry s o).standby).fire = some .stop)

/-- R50, R51: what a duty fan's fault leads to, in a state `u` with the records and tables of `s`. -/
theorem substitute_cases {u : State} (ho : u.outs = s.outs) (ht : u.tables = s.tables) (o : Nat) (code : FaultCode) :
    substitute o code u =
      match (outRec s o).fire with
      | some c =>
        if callsStandby s o code ∧ (c = .low ∨ c = .high) then
          if (outRec s (outEntry s o).standby).act = .fault then extractLost o u
          else engageStandby (outEntry s o).standby o c u
        else u
      | none => u := by
  have hr := outRec_congr (s := s) ho
  have he := outEntry_congr (s := s) ht
  unfold substitute
  simp only [hr, he]
  cases (outRec s o).fire with
  | none => rfl
  | some c =>
    refine if_congr ?_ rfl rfl
    simp only [callsStandby, Bool.and_eq_true, Bool.or_eq_true, beq_iff_eq, bne_iff_ne, substitutes_iff]
    tauto

/-! ### Run outputs (R46) -/

/-- R46: an extract fan of a served zone, its standby, an engaged standby, or a reserve engaged for a served zone. -/
theorem isRunFan_iff (s : State) (f : Nat) :
    isRunFan s f = true ↔ isFan (outEntry s f) = true ∧
      ((∃ z ∈ s.run.served, f ≠ 0 ∧ f ∈ (zoneEntry s z).extract) ∨
        (f ≠ 0 ∧ ∃ z ∈ s.run.served, ∃ d ∈ (zoneEntry s z).extract, d ≠ 0 ∧ (outEntry s d).standby = f) ∨
        (∃ z ∈ s.run.served, (outRec s f).engaged = .reserveFor z) ∨ ∃ d, (outRec s f).engaged = .standbyFor d) := by
  unfold isRunFan
  cases (outRec s f).engaged <;> simp [listed, and_assoc, and_comm, or_assoc]

theorem scenarioNames_iff (t : Tables) (n o : Nat) : scenarioNames t n o = true ↔
    ∃ k < (scenarioOf t n).stepCount, (stepOf t ((scenarioOf t n).firstStep + k)).output = o := by
  simp [scenarioNames, scenarioSteps]

/-! ### Reserves (R53) -/

theorem reserveAllowed_iff (s : State) (f z : Nat) : reserveAllowed s f z = true ↔
    fireMode s = true ∧ s.run.test = false ∧ z ∈ s.run.served ∧ (outRec s f).engaged = .none ∧
      (outRec s f).act ≠ .fault := by
  simp [reserveAllowed, and_assoc]

/-- Settles O40: the two kinds of report, a fault in fire mode by the duty fan's FIRE entry, the run outputs, and reserves. -/
theorem runFaultsEngageStandbysAndReserves : Obligations.RunFaultsEngageStandbysAndReserves := by
  refine ⟨fun o code s => ⟨rfl, rfl⟩, fun o code s => ⟨fun h => if_neg (by simp [h]), fun h => ?_⟩, fun s o => ?_,
    fun f z s => ⟨reserveAllowed_iff s f z, ?_⟩⟩
  · intro listed lost u sb calls
    obtain ⟨hro, hrt, hrf⟩ := recordRunFault_frame o s
    have hl : recordRunFault o s = listed := recordRunFault_eq o s
    have hu : standbyFaulted o (recordRunFault o s) = u := by
      unfold standbyFaulted
      rw [outRec_congr hro]
      cases he : (outRec s o).engaged <;> simp only [u, he, ← hl]
      exact extractLost_eq (hrf.trans h) _
    have hc := captures_standbyFaulted o (recordRunFault o s)
    rw [hu] at hc
    have hf : fireMode u = true := (fireMode_congr hc.run).trans (hrf.trans h)
    rw [takeFault_of_run h, hu, substitute_cases (hc.outs.trans hro) (hc.tables.trans hrt)]
    cases (outRec s o).fire with
    | none => rfl
    | some c =>
      refine if_congr Iff.rfl (if_congr Iff.rfl (extractLost_eq hf o) ?_) rfl
      rw [engageStandby_eq, outEntry_congr (hc.tables.trans hrt)]
  · intro named runFan
    have hf : ∀ f, isRunFan s f = true ↔ runFan f := isRunFan_iff s
    simp only [isRunOutput, Bool.and_eq_true, Bool.or_eq_true, scenarioNames_iff, hf, List.any_eq_true,
      List.contains_iff_mem, or_assoc]
    rfl
  · rw [engageReserve, raise_runEvent rfl]

end Sys2Proof.Machine
end

section
/-! Issue, advance and the expiries of the run's timers (O39). -/

namespace Sys2Proof.Machine

variable {s t : State}

/-! ### Issue (R41, R52) -/

/-- R41: a step that is neither settled nor in FAULT replaces an earlier step of its output in flight. -/
theorem joinFlight_eq (i : Nat) (s : State) :
    joinFlight i s = { s with run := { s.run with
      inFlight := s.run.inFlight.filter (fun k => (stepOf s.tables k).output != (stepOf s.tables i).output) ++ [i] } } :=
  rfl

/-- R41: the step of output `o` is placed by the Resolver's answer, in the state that its write has left. -/
theorem placeStep_eq {i o : Nat} (ho : (stepOf s.tables i).output = o) (n : Nat) (r : OutRec) :
    placeStep i n r s =
      match r.act, r.fault with
      | .settled, _ => s
      | .fault, some f => if faultReported s n o then takeReports s else takeFault o f.code s
      | _, _ => { s with run := { s.run with
          inFlight := s.run.inFlight.filter (fun k => (stepOf s.tables k).output != o) ++ [i] } } := by
  subst ho
  cases ha : r.act with
  | fault => cases hf : r.fault <;> simp only [placeStep, ha, hf, joinFlight_eq]
  | _ => simp only [placeStep, ha, joinFlight_eq]

theorem tables_stepWritten (i : Nat) (s : State) : (stepWritten i s).tables = s.tables :=
  (still_writeFire _ _ (noted i s)).tables

/-- R41, R52: the engaged standby follows the step where it was placed. -/
theorem issueStep_of_placed {i : Nat} (h : stepPlaced i s = t) :
    issueStep i s =
      match cmdOf (stepOf s.tables i).target with
      | some c => followStep (stepOf s.tables i).output c t
      | none => t := h ▸ issueStep_eq i s

/-- R52: one engaged standby follows its duty fan's step; the standby's table entry is that of `s`. -/
def standbyFollows (duty : Nat) (c : Cmd) (s t : State) (f : Nat) : State :=
  let u := writeFire f (some (standbyEntry (outEntry s f) c)) t
  if c = .stop then tellStandby duty (modOut f (fun r => { r with engaged := .none }) u) else u

theorem still_standbyFollows (duty : Nat) (c : Cmd) (s t : State) (f : Nat) : Still t (standbyFollows duty c s t f) := by
  have hu := still_writeFire f (some (standbyEntry (outEntry s f) c)) t
  exact still_ite ((hu.trans (still_modOut f _ _)).trans (still_tellStandby _ _)) hu

/-- R52: no follower changes the tables, so each entry may be read where its turn comes. -/
theorem foldl_standbyFollows (duty : Nat) (c : Cmd) (fs : List Nat) (ht : t.tables = s.tables) :
    fs.foldl (standbyFollows duty c s) t = fs.foldl (fun t f => standbyFollows duty c t t f) t := by
  induction fs generalizing t with
  | nil => rfl
  | cons f fs ih =>
    have hone : standbyFollows duty c s t f = standbyFollows duty c t t f := by
      simp only [standbyFollows, outEntry_congr ht]
    rw [List.foldl_cons, List.foldl_cons, ih ((still_standbyFollows duty c s t f).tables.trans ht), hone]

/-- R52: the standbys engaged for the step's fan follow it. -/
theorem followStep_eq (duty : Nat) (c : Cmd) (s : State) :
    followStep duty c s = ((fans s).filter (fun f => (outRec s f).engaged == .standbyFor duty)).foldl (fun t f =>
      let u := writeFire f (some (if c = .low ∧ isFanSingle (outEntry t f) = true then .high else c)) t
      if c = .stop then
        let v := modOut f (fun r => { r with engaged := .none }) u
        { v with monitorIn := v.monitorIn ++ ((v.run.served.filter
          (fun z => duty != 0 && (zoneEntry v z).extract.contains duty)).map MonitorNotice.testZone) }
      else u) s := by
  refine (foldl_standbyFollows duty c _ rfl).trans
    (congrArg (fun g => List.foldl g s _) (funext fun t => funext fun f => ?_))
  have he : standbyEntry (outEntry t f) c = if c = .low ∧ isFanSingle (outEntry t f) = true then .high else c := by
    simp [standbyEntry]
  simp only [standbyFollows, he, tellStandby_eq]

/-! ### Advancing (R40, R43, R44) -/

/-- In fire mode advancing tries each step from the cursor on. -/
theorem advance_of_run (h : fireMode s = true) :
    advance s = advanceTimes ((scenarioEntry s).stepCount + 1 - s.run.cursor) s := if_pos h

theorem Issues.scenarioEntry (h : Issues s t) : scenarioEntry t = scenarioEntry s := by
  unfold Machine.scenarioEntry
  rw [h.tables, h.run]

theorem Issues.fireMode (h : Issues s t) : fireMode t = fireMode s := by
  unfold Machine.fireMode
  rw [h.run]

/-- R44: the run becomes ESTABLISHED. -/
theorem establish_eq (s : State) :
    establish s =
      let v := recordEntry .runEstablished s.run.scenario
        (min ((s.uptime + 4294967296 - s.run.stageStamp.getD 0) % 4294967296) 65535)
        { s with run := { s.run with state := .established, deadline := none } }
      if s.run.late = false ∧ s.run.test = false then { v with monitorIn := v.monitorIn ++ [.startWatching] } else v := by
  unfold establish
  rw [raise_runEvent rfl]
  refine if_congr ?_ rfl rfl
  simp

/-- R40: the step is issued and the cursor has passed it. -/
def pastStep (s u : State) : State :=
  let v := issueStep ((scenarioEntry s).firstStep + s.run.cursor) u
  { v with run := { v.run with cursor := s.run.cursor + 1 } }

theorem issueAtCursor_eq (s : State) : issueAtCursor s = pastStep s s := by
  have hc : (issueStep ((scenarioEntry s).firstStep + s.run.cursor) s).run.cursor = s.run.cursor := by
    rw [(issues_issueStep _ s).run]
  rw [issueAtCursor, setRun, hc]
  rfl

/-- R40: after issuing the step under the cursor, advancing goes on. -/
theorem advanceTimes_issueAtCursor (h : fireMode s = true) :
    advanceTimes ((scenarioEntry s).stepCount - s.run.cursor) (issueAtCursor s) = advance (pastStep s s) := by
  have hi := issues_issueStep ((scenarioEntry s).firstStep + s.run.cursor) s
  have hf : fireMode (pastStep s s) = true := hi.fireMode.trans h
  have he : scenarioEntry (pastStep s s) = scenarioEntry s := hi.scenarioEntry
  have hc : (pastStep s s).run.cursor = s.run.cursor + 1 := rfl
  have hn : (scenarioEntry s).stepCount - s.run.cursor = (scenarioEntry s).stepCount + 1 - (s.run.cursor + 1) := by omega
  rw [issueAtCursor_eq, advance_of_run hf, he, hc, hn]

/-- R40, R43, R44: one look at the step under the cursor, once the waiting reports are taken. -/
theorem advance_eq (h : fireMode s = true) (hc : s.run.cursor ≤ (scenarioEntry s).stepCount) :
    advance s =
      let u := takeReports s
      let st := stepOf s.tables ((scenarioEntry s).firstStep + s.run.cursor)
      if s.run.cursor = (scenarioEntry s).stepCount then
        if u.run.inFlight = [] ∧ u.run.state = .staging then establish u else u
      else if st.gate = 2 then
        if s.run.delay.isSome then u else setRun (fun r => { r with delay := some st.delay }) u
      else if st.gate = 1 ∧ u.run.inFlight ≠ [] then u
      else advance (pastStep s u) := by
  have hu := (reports_takeReports s).issues
  have hcu : (takeReports s).run.cursor = s.run.cursor := by rw [hu.run]
  have hdu : (takeReports s).run.delay = s.run.delay := by rw [hu.run]
  have hnext := advanceTimes_issueAtCursor (hu.fireMode.trans h)
  have hpast : pastStep (takeReports s) (takeReports s) = pastStep s (takeReports s) := by
    simp only [pastStep, hu.scenarioEntry, hcu]
  rw [hu.scenarioEntry, hcu, hpast] at hnext
  have hn : (scenarioEntry s).stepCount + 1 - s.run.cursor = ((scenarioEntry s).stepCount - s.run.cursor) + 1 := by omega
  rw [advance_of_run h, hn]
  simp only [advanceTimes, hu.scenarioEntry, hcu, hdu, hu.tables, hnext]
  refine if_congr ⟨fun h => le_antisymm hc h, fun h => h.ge⟩ (if_congr (by simp) rfl rfl)
    (if_congr Iff.rfl rfl (if_congr (by simp) rfl rfl))

/-- Settles O39: issue, the standby that follows, the advance, and the two expiries. -/
theorem stepsAreIssuedAndRunTimersExpire : Obligations.StepsAreIssuedAndRunTimersExpire := by
  refine ⟨fun i s => ?_, followStep_eq, fun s => ⟨fun h => if_neg (by simp [h]), fun h hc => ?_⟩,
    fun s hs => ⟨?_, ?_⟩⟩
  · intro st o t r placed
    have ho : (stepOf t.tables i).output = o := congrArg (fun e => (stepOf e i).output) (tables_stepWritten i s)
    have hp : stepPlaced i s = placed := placeStep_eq ho s.runnerIn.length r
    exact issueStep_of_placed hp
  · have hw := work_takeReports (.refl s)
    have hu := (reports_takeReports s).issues
    refine (advance_eq h hc).trans (if_congr Iff.rfl (if_congr Iff.rfl ?_ rfl) rfl)
    rw [establish_eq, hw.uptime, hu.run]
  · exact acting_awake (work := fun s => if s.run.delay = some 0 then endStep (delayExpired s) else s) hs
  · refine (acting_awake (work := fun s =>
      if s.run.state = .staging ∧ s.run.deadline = some 0 then endStep (deadlineExpired s) else s) hs).trans
      (congrArg _ ?_)
    by_cases h : s.run.state = .staging ∧ s.run.deadline = some 0
    · have hf : fireMode s = true := fireMode_iff.2 (by rw [h.1]; decide)
      rw [if_pos h, if_pos h, deadlineExpired, runFacts_of_run hf]
      rfl
    · rw [if_neg h, if_neg h]

end Sys2Proof.Machine
end

section
/-! A load, a switch and an end of a run (O38). -/

namespace Sys2Proof.Machine

variable {s t u : State} {o : Nat}

/-! ### What advancing leaves of the run context -/

/-- What advancing moves of the run: besides what issuing does, its state, its cursor and its timers. -/
structure Advances (s t : State) : Prop where
  run : t.run = { s.run with
    state := t.run.state, cursor := t.run.cursor, inFlight := t.run.inFlight, lastIssued := t.run.lastIssued,
    delay := t.run.delay, deadline := t.run.deadline, faults := t.run.faults, overflow := t.run.overflow,
    degraded := t.run.degraded }
  state : t.run.state = s.run.state ∨ t.run.state = .established
  watches : t.watches = s.watches

theorem Advances.refl (s : State) : Advances s s := ⟨rfl, .inl rfl, rfl⟩

theorem Advances.trans (h : Advances s t) (h' : Advances t u) : Advances s u := by
  refine ⟨by rw [h'.run, h.run], ?_, h'.watches.trans h.watches⟩
  rcases h'.state with e | e
  · rw [e]
    exact h.state
  · exact .inr e

theorem Issues.advances (h : Issues s t) : Advances s t := ⟨by rw [h.run], .inl (by rw [h.run]), h.watches⟩

theorem advances_ite {c : Prop} [Decidable c] {a b : State} (ha : Advances s a) (hb : Advances s b) :
    Advances s (if c then a else b) := by
  split
  · exact ha
  · exact hb

theorem advances_establish (s : State) : Advances s (establish s) := by
  have hset : Advances s (setRun (fun r => { r with state := .established, deadline := none }) s) := ⟨rfl, .inr rfl, rfl⟩
  have h := hset.trans (captures_raise .runEstablished s.run.scenario
    (capWord (secondsSince s (s.run.stageStamp.getD 0))) _).still.issues.advances
  exact advances_ite (h.trans (still_tellMonitor _ _).issues.advances) h

theorem advances_issueAtCursor (s : State) : Advances s (issueAtCursor s) :=
  (issues_issueStep _ s).advances.trans ⟨rfl, .inl rfl, rfl⟩

theorem advances_advanceTimes (n : Nat) (s : State) : Advances s (advanceTimes n s) := by
  induction n generalizing s with
  | zero => exact .refl s
  | succ n ih =>
    have hr := (reports_takeReports s).issues.advances
    exact advances_ite (advances_ite (hr.trans (advances_establish _)) hr)
      (advances_ite (advances_ite hr (hr.trans ⟨rfl, .inl rfl, rfl⟩))
        (advances_ite hr ((hr.trans (advances_issueAtCursor _)).trans (ih _))))

theorem advances_advance (s : State) : Advances s (advance s) :=
  advances_ite (advances_advanceTimes _ s) (.refl s)

/-- R39, R48: what a load or a switch to scenario `n` makes of the run, while its steps are issued. -/
structure Begun (n : Nat) (served : List Nat) (stamp : Nat) (t : State) : Prop where
  fire : fireMode t = true
  late : t.run.late = false
  scenario : t.run.scenario = n
  served : t.run.served = served
  stage : t.run.stageStamp = some stamp

theorem Begun.advances {n stamp : Nat} {served : List Nat} (h : Begun n served stamp s) (a : Advances s t) :
    Begun n served stamp t := by
  have hf := fireMode_iff.1 h.fire
  refine ⟨fireMode_iff.2 ?_, ?_, ?_, ?_, ?_⟩
  · rcases a.state with e | e
    · rwa [e]
    · rw [e]
      decide
  all_goals rw [a.run]
  · exact h.late
  · exact h.scenario
  · exact h.served
  · exact h.stage

theorem Begun.of_run {n stamp : Nat} {served : List Nat} (h : Begun n served stamp s) (e : t.run = s.run) :
    Begun n served stamp t := by
  refine ⟨(fireMode_congr e).trans h.fire, ?_, ?_, ?_, ?_⟩ <;> rw [e]
  exacts [h.late, h.scenario, h.served, h.stage]

/-- R103: a test run leaves the watches; another run has its own. -/
theorem run_watches_ite (c : Prop) [Decidable c] (ws : List Watch) (s : State) :
    (if c then s else { s with watches := ws }).run = s.run ∧
      (if c then s else { s with watches := ws }).watches = if c then s.watches else ws := by
  split <;> exact ⟨rfl, rfl⟩

/-! ### A load and a switch (R39, R48) -/

/-- R39: the run context of a load. -/
def loadSet (test : Bool) (n : Nat) (served : List Nat) (s : State) : State :=
  setRun (fun r =>
    { r with
      state := .staging, test := test, late := false, degraded := false, scenario := n, served := served,
      cursor := 0, inFlight := [], lastIssued := [], delay := none, deadline := some (scenarioOf s.tables n).establish,
      faults := [], overflow := false, startStamp := some s.uptime, stageStamp := some s.uptime }) s

/-- R39: RUN_START is raised, fire mode begins, and what that makes the Resolver report is taken. -/
def loadBegun (test : Bool) (n : Nat) (served : List Nat) (s : State) : State :=
  takeReports (beginFire (recordEntry .runStart n (served.getD 0 0 * 256 + served.getD 1 0) (loadSet test n served s)))

theorem loadRun_eq (test : Bool) (n : Nat) (served : List Nat) (s : State) :
    loadRun test n served s = advance (
      if test then loadBegun test n served s
      else { loadBegun test n served s with watches := watchesFor served (scenarioOf s.tables n) [] }) := by
  rw [loadRun, raise_runEvent rfl]
  rfl

theorem still_recordEntry (ev : Ev) (a b : Nat) (s : State) : Still s (recordEntry ev a b s) :=
  (captures_recordEntry ev a b s).still

theorem still_beginFire (s : State) : Still s (beginFire s) := still_changeLayers _ _ s

theorem reports_loadBegun (test : Bool) (n : Nat) (served : List Nat) (s : State) :
    Reports (loadSet test n served s) (loadBegun test n served s) :=
  ((still_recordEntry _ _ _ _).trans (still_beginFire _)).reports.trans (reports_takeReports _)

/-- What a load leaves of its context, and the watches it creates. -/
theorem loadRun_context (test : Bool) (n : Nat) (served : List Nat) (s : State) :
    Begun n served s.uptime (loadRun test n served s) ∧ (loadRun test n served s).run.test = test ∧
      (loadRun test n served s).run.startStamp = some s.uptime ∧
      (loadRun test n served s).watches = if test then s.watches else watchesFor served (scenarioOf s.tables n) [] := by
  have hr := reports_loadBegun test n served s
  have hrun := hr.run
  rw [loadRun_eq]
  generalize loadBegun test n served s = u at hr hrun
  have hb : Begun n served s.uptime u := by
    refine ⟨fireMode_iff.2 ?_, ?_, ?_, ?_, ?_⟩ <;> rw [hrun]
    · exact fun h => nomatch h
    all_goals rfl
  have ht : u.run.test = test := by rw [hrun]; rfl
  have hs : u.run.startStamp = some s.uptime := by rw [hrun]; rfl
  obtain ⟨hvr, hvw⟩ := run_watches_ite (test = true) (watchesFor served (scenarioOf s.tables n) []) u
  generalize (if test = true then u else _) = v at hvr hvw
  have ha := advances_advance v
  refine ⟨(hb.of_run hvr).advances ha, ?_, ?_, ?_⟩
  · rw [ha.run, hvr, ht]
  · rw [ha.run, hvr, hs]
  · rw [ha.watches, hvw, hr.watches]
    rfl

/-- R48, steps 1 and 2: the engagements released and the FIRE entries cleared. -/
def switchCleared (n : Nat) (served : List Nat) (s : State) : State :=
  let t := releaseFans ((fans s).filter (releasedAtSwitch s n served)) s
  changeLayers (fun _ r => { r with fire := none }) ((configured s).filter (clearedAtSwitch t n)) t

theorem still_releaseFans (fs : List Nat) (s : State) : Still s (releaseFans fs s) :=
  still_foldl (fun _ _ => still_modOut _ _ _) fs s

theorem still_switchCleared (n : Nat) (served : List Nat) (s : State) : Still s (switchCleared n served s) :=
  (still_releaseFans _ s).trans (still_changeLayers _ _ _)

/-- R48, step 3: the context replaced and RUN_SWITCH raised. -/
def switchSet (n : Nat) (served : List Nat) (s : State) : State :=
  let u := takeReports (switchCleared n served s)
  recordEntry .runSwitch n s.run.scenario
    { u with run := { u.run with
      state := .staging, scenario := n, served := served, cursor := 0, inFlight := [], lastIssued := [], delay := none,
      late := false, deadline := some (scenarioOf s.tables n).establish, stageStamp := some s.uptime } }

theorem switchRun_eq (n : Nat) (served : List Nat) (s : State) :
    switchRun n served s = advance (
      if s.run.test then switchSet n served s
      else { switchSet n served s with watches := watchesFor served (scenarioOf s.tables n) s.watches }) := by
  have hc : configured (releaseFans ((fans s).filter (releasedAtSwitch s n served)) s) = configured s := by
    rw [configured, (still_releaseFans _ s).tables, configured]
  rw [switchRun, raise_runEvent rfl, hc]
  have hw : (switchSet n served s).watches = s.watches :=
    (captures_recordEntry _ _ _ _).watches.trans
      ((reports_takeReports _).watches.trans (still_switchCleared n served s).watches)
  refine congrArg advance (if_congr Iff.rfl rfl ?_)
  rw [← hw]
  rfl

/-- What a switch leaves of its context, and the watches it creates. -/
theorem switchRun_context (n : Nat) (served : List Nat) (s : State) :
    Begun n served s.uptime (switchRun n served s) ∧ (switchRun n served s).run.test = s.run.test ∧
      (switchRun n served s).run.startStamp = s.run.startStamp ∧
      (s.run.test = false → (switchRun n served s).watches = watchesFor served (scenarioOf s.tables n) s.watches) := by
  have hr := (still_switchCleared n served s).reports.trans (reports_takeReports _)
  have hrun : (switchSet n served s).run = _ := (captures_recordEntry _ _ _ _).run
  rw [hr.run] at hrun
  rw [switchRun_eq]
  generalize switchSet n served s = u at hrun
  have hb : Begun n served s.uptime u := by
    refine ⟨fireMode_iff.2 ?_, ?_, ?_, ?_, ?_⟩ <;> rw [hrun]
    exact fun h => nomatch h
  have ht : u.run.test = s.run.test := by rw [hrun]
  have hs : u.run.startStamp = s.run.startStamp := by rw [hrun]
  obtain ⟨hvr, hvw⟩ := run_watches_ite (s.run.test = true) (watchesFor served (scenarioOf s.tables n) s.watches) u
  generalize (if s.run.test = true then u else _) = v at hvr hvw
  have ha := advances_advance v
  refine ⟨(hb.of_run hvr).advances ha, ?_, ?_, fun h => ?_⟩
  · rw [ha.run, hvr, ht]
  · rw [ha.run, hvr, hs]
  · rw [ha.watches, hvw, if_neg (by simp [h])]

/-- R102, R103, R112: a zone watched before keeps its pending reserve alone. -/
theorem watchesFor_eq (zones : List Nat) (e : ScenarioEntry) (old : List Watch) :
    watchesFor zones e old = zones.mapIdx (fun k z =>
      { zone := z, requirement := if k = 0 then e.requirement1 else e.requirement2, watching := false, deficit := false,
        exhausted := false, cursor := 1, pending := (old.find? (fun w => w.zone == z)).bind (fun w => w.pending) }) := by
  refine congrArg (fun f => zones.mapIdx f) (funext fun k => funext fun z => ?_)
  dsimp only
  cases old.find? (fun w => w.zone == z) <;> rfl

theorem zone_watchesFor (zones : List Nat) (e : ScenarioEntry) (old : List Watch) :
    (watchesFor zones e old).map (fun w => w.zone) = zones := by
  rw [watchesFor_eq]
  exact List.ext_getElem (by simp) (by simp)

/-! ### The layers of a switch (R48) -/

theorem mem_fans {o : Nat} : o ∈ fans s ↔ o ∈ configured s ∧ isFan (outEntry s o) = true := List.mem_filter

theorem outRec_releaseFans {fs : List Nat} (hn : fs.Nodup) (hw : outsWf s) (o : Nat) :
    outRec (releaseFans fs s) o = if o ∈ fs then { outRec s o with engaged := .none } else outRec s o :=
  outRec_foldl_modOut (w := fun _ r => { r with engaged := .none }) hn hw o

theorem layersOf_inj {r r' : OutRec} : layersOf r = layersOf r' ↔
    r.ff = r'.ff ∧ r.fire = r'.fire ∧ r.safe = r'.safe ∧ r.bld = r'.bld ∧ r.engaged = r'.engaged := by
  simp [layersOf]

theorem mem_released (n : Nat) (served : List Nat) (ho : o ∈ configured s) :
    o ∈ (fans s).filter (releasedAtSwitch s n served) ↔ isFan (outEntry s o) = true ∧
      match (outRec s o).engaged with
      | .none => False
      | .reserveFor z => z ∉ served
      | .standbyFor d => engagementZone s d ∉ served ∧
        ¬ ∃ k < (scenarioOf s.tables n).stepCount,
          (stepOf s.tables ((scenarioOf s.tables n).firstStep + k)).output = d := by
  rw [List.mem_filter, mem_fans, and_iff_right ho]
  refine and_congr_right fun _ => ?_
  unfold releasedAtSwitch
  cases (outRec s o).engaged with
  | none => simp
  | reserveFor z => simp
  | standbyFor d => simp [← scenarioNames_iff]

theorem layersOf_clearFire (r : OutRec) (c : Prop) [Decidable c] :
    layersOf (if r.fire.isSome = true ∧ c then { r with fire := none } else r) =
      layersOf { r with fire := if c then none else r.fire } := by
  cases hf : r.fire <;> by_cases h : c <;> simp [h, layersOf, hf]

/-- R48, steps 1 and 2: what a switch leaves of an output's layers. -/
theorem layers_switchCleared (n : Nat) (served : List Nat) (ht : outputsWf s) (hw : outsWf s) (ho : o ∈ configured s) :
    layersOf (outRec (switchCleared n served s) o) =
      let r := outRec s o
      let engaged := if o ∈ (fans s).filter (releasedAtSwitch s n served) then Engaged.none else r.engaged
      layersOf { r with
        engaged := engaged,
        fire := if scenarioNames s.tables n o = false ∧ engaged = .none then none else r.fire } := by
  have hfans : ((fans s).filter (releasedAtSwitch s n served)).Nodup := ((configured_nodup ht).filter _).filter _
  have hs := still_releaseFans ((fans s).filter (releasedAtSwitch s n served)) s
  have hr : outRec (releaseFans ((fans s).filter (releasedAtSwitch s n served)) s) o = { outRec s o with
      engaged := if o ∈ (fans s).filter (releasedAtSwitch s n served) then .none else (outRec s o).engaged } := by
    rw [outRec_releaseFans hfans hw]
    split <;> rfl
  have hl := layers_changeLayers (w := fun _ r => { r with fire := none })
    ((configured_nodup ht).filter (clearedAtSwitch (releaseFans ((fans s).filter (releasedAtSwitch s n served)) s) n))
    (hs.wf hw) o
  have hcleared := layersOf_clearFire (outRec (releaseFans ((fans s).filter (releasedAtSwitch s n served)) s) o)
    (scenarioNames s.tables n o = false ∧
      (outRec (releaseFans ((fans s).filter (releasedAtSwitch s n served)) s) o).engaged = .none)
  refine (hl.trans ((congrArg layersOf (if_congr ?_ rfl rfl)).trans hcleared)).trans ?_
  · simp [ho, clearedAtSwitch, hs.tables, and_assoc]
  · rw [hr]

/-- The layers that the beginning of fire mode, step 2 of a switch, and an end leave, output by output. -/
theorem layers_beginFire (ht : outputsWf s) (hw : outsWf s) (ho : o ∈ configured s) :
    layersOf (outRec (beginFire s) o) =
      layersOf { outRec s o with safe := cmdOf (outEntry s o).safeDefault } := by
  have h := layers_changeLayers (w := fun o r => { r with safe := cmdOf (outEntry s o).safeDefault })
    (configured_nodup ht) hw o
  rwa [if_pos ho] at h

/-! ### An end (R49) -/

/-- No fan has a FIRE entry, so no fault calls for a standby. -/
def fansIdle (s : State) : Prop := ∀ o, isFan (outEntry s o) = true → (outRec s o).fire = none

theorem fansIdle_congr (ho : t.outs = s.outs) (ht : t.tables = s.tables) : fansIdle t ↔ fansIdle s := by
  simp only [fansIdle, outRec_congr ho, outEntry_congr ht]

theorem substitute_of_fansIdle (h : fansIdle s) (o : Nat) (code : FaultCode) : substitute o code s = s := by
  rw [substitute_cases (s := s) rfl rfl]
  cases hf : (outRec s o).fire with
  | none => rfl
  | some c =>
    refine if_neg fun hc => ?_
    rw [h o hc.1.1] at hf
    cases hf

theorem outs_takeFault (h : fansIdle s) (o : Nat) (code : FaultCode) : (takeFault o code s).outs = s.outs := by
  by_cases hf : fireMode s = true
  · obtain ⟨hro, hrt, -⟩ := recordRunFault_frame o s
    have hc := captures_standbyFaulted o (recordRunFault o s)
    have ho := hc.outs.trans hro
    rw [takeFault_of_run hf, substitute_of_fansIdle ((fansIdle_congr ho (hc.tables.trans hrt)).2 h), ho]
  · exact congrArg State.outs (if_neg hf)

theorem outs_takeReport (h : fansIdle s) (x : RunnerNotice) : (takeReport x s).outs = s.outs := by
  cases x with
  | settled o => rfl
  | fault o code => exact outs_takeFault (s := leaveFlight o s) h o code

theorem outs_takeReportsTimes (n : Nat) (h : fansIdle s) : (takeReportsTimes n s).outs = s.outs := by
  induction n generalizing s with
  | zero => rfl
  | succ n ih =>
    unfold takeReportsTimes
    split
    · rename_i x xs _
      have hone := outs_takeReport (s := { s with runnerIn := xs }) h x
      have ht := (reports_takeReport x { s with runnerIn := xs }).tables
      exact (ih ((fansIdle_congr hone ht).2 h)).trans hone
    · rfl

theorem outs_takeReports (h : fansIdle s) : (takeReports s).outs = s.outs := outs_takeReportsTimes _ h

/-- R49, step 1: the timers and the in-flight set are cleared. -/
def stopping (s : State) : State := setRun (fun r => { r with delay := none, deadline := none, inFlight := [] }) s

/-- R49, steps 2 and 3: the fans are released and the FIRE and SAFE entries cleared. -/
def endCleared (s : State) : State := endFire (releaseFans (fans s) (stopping s))

theorem still_endCleared (s : State) : Still (stopping s) (endCleared s) :=
  (still_releaseFans _ _).trans (still_changeLayers _ _ _)

/-- R49: the layers that an end leaves. -/
theorem layers_endCleared (ht : outputsWf s) (hw : outsWf s) (ho : o ∈ configured s) :
    layersOf (outRec (endCleared s) o) =
      layersOf { outRec s o with
        fire := none, safe := none, engaged := if isFan (outEntry s o) = true then .none else (outRec s o).engaged } := by
  have hs := still_releaseFans (fans s) (stopping s)
  have hc : configured (releaseFans (fans s) (stopping s)) = configured s := by
    rw [configured, hs.tables]
    rfl
  have hl := layers_changeLayers (s := releaseFans (fans s) (stopping s)) (w := fun _ r => { r with fire := none, safe := none })
    (configured_nodup ht) (hs.wf hw) o
  have hr := outRec_releaseFans (s := stopping s) (fs := fans s) ((configured_nodup ht).filter _) hw o
  rw [if_pos ho, hr] at hl
  rw [endCleared, endFire, hc]
  refine hl.trans ?_
  have hf : o ∈ fans s ↔ isFan (outEntry s o) = true := mem_fans.trans (and_iff_right ho)
  have hrec : outRec (stopping s) o = outRec s o := rfl
  by_cases h : isFan (outEntry s o) = true
  · rw [if_pos (hf.2 h), if_pos h, hrec]
  · rw [if_neg (mt hf.1 h), if_neg h, hrec]

theorem isConfigured_of_isFan {e : OutputEntry} (h : isFan e = true) : isConfigured e = true := by simp [isConfigured, h]

theorem fansIdle_endCleared (ht : outputsWf s) (hw : outsWf s) : fansIdle (endCleared s) := by
  intro o hf
  rw [outEntry_congr (s := s) (still_endCleared s).tables] at hf
  exact (layersOf_inj.1 (layers_endCleared ht hw (mem_configured (isConfigured_of_isFan hf)))).2.1

/-- R49, step 4: RUN_END is raised, and the watches of a run that is not a test run go. -/
def endReported (s : State) : State :=
  let t := takeReports (endCleared s)
  let u := recordEntry .runEnd s.run.scenario (t.run.faults.length + if t.run.overflow then 256 else 0) t
  if s.run.test then u else { u with watches := [] }

theorem run_endReported (s : State) : (endReported s).run = (takeReports (endCleared s)).run :=
  (run_watches_ite _ [] _).1.trans (captures_recordEntry _ _ _ _).run

theorem outs_endReported (s : State) : (endReported s).outs = (takeReports (endCleared s)).outs := by
  have h : ∀ u : State, (if s.run.test then u else { u with watches := [] }).outs = u.outs := fun u => by
    split <;> rfl
  exact (h _).trans (captures_recordEntry _ _ _ _).outs

theorem reports_endCleared (s : State) : Reports (stopping s) (takeReports (endCleared s)) :=
  (still_endCleared s).reports.trans (reports_takeReports _)

/-- R49: an end, with the run context that it leaves. -/
theorem endRun_eq (s : State) :
    endRun s = { endReported s with run := { s.run with
      state := .idle, test := false, late := false, scenario := 0, served := [], cursor := 0, inFlight := [],
      delay := none, deadline := none, faults := (takeReports (endCleared s)).run.faults,
      overflow := (takeReports (endCleared s)).run.overflow, degraded := (takeReports (endCleared s)).run.degraded } } := by
  have hr := reports_endCleared s
  have hrun := hr.run
  have hflight : (takeReports (endCleared s)).run.inFlight = [] := List.sublist_nil.1 hr.flight
  rw [hflight] at hrun
  have hend : endRun s = setRun (fun r =>
      { r with state := .idle, scenario := 0, served := [], cursor := 0, test := false, late := false })
      (endReported s) := by
    rw [endRun, raise_runEvent rfl]
    rfl
  rw [hend, setRun, run_endReported]
  refine congrArg (fun r => { endReported s with run := r }) ?_
  rw [hrun]
  rfl

theorem outs_endRun (ht : outputsWf s) (hw : outsWf s) : (endRun s).outs = (endCleared s).outs := by
  rw [endRun_eq]
  exact (outs_endReported s).trans (outs_takeReports (fansIdle_endCleared ht hw))

theorem watches_endRun (h : s.run.test = false) : (endRun s).watches = [] := by
  rw [endRun_eq]
  exact (run_watches_ite _ [] _).2.trans (if_neg (by simp [h]))

/-- Settles O38: the context, the watches, the three transitions part by part, and the layers that they leave. -/
theorem loadSwitchAndEndSetTheRun : Obligations.LoadSwitchAndEndSetTheRun := by
  intro n served s
  obtain ⟨hl, hlt, hls, hlw⟩ := loadRun_context false n served s
  obtain ⟨hx, hxt, hxs, hxw⟩ := loadRun_context true n served s
  obtain ⟨hs, hst, hss, hsw⟩ := switchRun_context n served s
  refine ⟨?_, hlt, hxt, hst, hls, hxs, hss, ?_, hxw, ?_, ?_, ?_, ?_, ?_, ?_, ?_, ?_⟩
  · simp only [List.forall_mem_cons, List.not_mem_nil, false_implies, implies_true, and_true]
    exact ⟨⟨hl.fire, hl.late, hl.scenario, hl.served, hl.stage⟩, ⟨hx.fire, hx.late, hx.scenario, hx.served, hx.stage⟩,
      ⟨hs.fire, hs.late, hs.scenario, hs.served, hs.stage⟩⟩
  · rw [hlw, if_neg (by simp), zone_watchesFor]
  · exact fun h => ⟨by rw [hsw h, zone_watchesFor], watches_endRun h⟩
  · exact fun zones old => watchesFor_eq zones _ old
  · exact fun test => loadRun_eq test n served s
  · exact switchRun_eq n served s
  · intro hc o ho r b c releases
    obtain ⟨hbff, hbfire, hbsafe, hbbld, hbeng⟩ := layersOf_inj.1 (layers_beginFire hc.tables.outputs hc.outs ho)
    have hrel : o ∈ (fans s).filter (releasedAtSwitch s n served) ↔ releases := by
      exact mem_released n served ho
    refine ⟨⟨hbsafe, hbfire, hbff, hbbld, hbeng⟩, ?_⟩
    obtain ⟨hff, hfire, hsafe, hbld, heng⟩ := layersOf_inj.1 (layers_switchCleared n served hc.tables.outputs hc.outs ho)
    have hnames := scenarioNames_iff s.tables n o
    dsimp only at heng hfire
    rw [← heng] at hfire
    refine ⟨⟨hsafe, hff, hbld⟩, fun h => heng.trans (if_pos (hrel.2 h)), fun h => heng.trans (if_neg (mt hrel.1 h)),
      fun h => hfire.trans (if_neg fun hn => ?_), fun ho he => hfire.trans (if_pos ⟨?_, he⟩)⟩
    · rcases h with h | h
      · exact absurd (hnames.2 h) (by simp [hn.1])
      · exact h hn.2
    · exact Bool.eq_false_iff.2 fun h => ho (hnames.1 h)
  · exact endRun_eq s
  · exact (reports_endCleared s).faults
  · intro hc o ho
    obtain ⟨hff, hfire, hsafe, hbld, heng⟩ := layersOf_inj.1 (layers_endCleared hc.tables.outputs hc.outs ho)
    rw [outRec_congr (outs_endRun hc.tables.outputs hc.outs)]
    exact ⟨hfire, hsafe, hff, hbld, fun hf => heng.trans (if_pos hf)⟩

end Sys2Proof.Machine
end

section
/-! What every step keeps of the output records, the command queue, the rings and the miss, fast and burst counts (O9), through
the Output Resolver and the Start Scheduler. -/

namespace Sys2Proof.Machine

/-- R57, R66: the record of an output that is `q` in the command queue. Those of `ps` may still stand at a command that has
become NONE; one that waits has a command. -/
structure OutOk (ps : List Nat) (o : Nat) (q : Prop) (r : OutRec) : Prop where
  queued : q ↔ r.act = .queued
  timer : r.timer.isSome = true → proving r.act = true
  atNone : r.resolved = none → inWait r.act = false ∧ (o ∈ ps ∨ r.act = .settled ∨ r.act = .unknown)

/-- R57, R66: the output has an entry in the command queue. -/
def inQueue (s : State) (o : Nat) : Prop := o ∈ s.queue.map (fun x => x.output)

/-- R127: the rings and the counts of the Plant Link Controller. -/
structure PlantOk (p : Plant) : Prop where
  wf : sparseWf coldModule p.modules = true
  fastRing : p.fastRing.Nodup
  slowRing : p.slowRing.Nodup
  misses : ∀ m, (sget coldModule p.modules m).misses ≤ 4 ∧
    ((sget coldModule p.modules m).state ≠ .missing → (sget coldModule p.modules m).misses ≤ 3)
  fastCount : p.fastCount ≤ 8
  burst : p.burst ≤ 16

/-- The tables, the records, the queue and the Controller's counts, with the run and the tables as `R` says. The outputs of
`ws` are in mid-work; those of `ps` have still to be acted on. -/
structure Res (ws ps : List Nat) (R : Run → Tables → Prop) (s : State) : Prop where
  run : R s.run s.tables
  entries : outputsWf s
  tables : TablesInRange s.tables
  stored : TablesInRange s.nv
  storedEntries : sparseWf blankOutput s.nv.outputs = true
  writing : ∀ w, s.nvWrite = some w → fieldsInRange w.ref.table w.fields = true
  wf : outsWf s
  queueOnce : (s.queue.map (fun x => x.output)).Nodup
  plant : PlantOk s.plant
  superseded : ∀ o, (outRec s o).superseded ≤ 255
  out : ∀ o, o ∉ ws → OutOk ps o (inQueue s o) (outRec s o)

variable {ws ps qs : List Nat} {R : Run → Tables → Prop} {s t : State} {o x : Nat} {f : OutRec → OutRec}

/-! ### One record -/

theorem OutOk.mono {q : Prop} {r : OutRec} (h : OutOk ps o q r) (hs : o ∈ ps → o ∈ qs) : OutOk qs o q r :=
  ⟨h.queued, h.timer, fun e => ⟨(h.atNone e).1, (h.atNone e).2.imp_left hs⟩⟩

/-- A record outside the queue, at rest, placed or waiting under a command. -/
theorem OutOk.rest {q : Prop} {r : OutRec} (hq : ¬ q) (ha : r.act ≠ .queued) (ht : r.timer = none)
    (hr : r.resolved ≠ none ∨ r.act = .settled ∨ r.act = .unknown) : OutOk ps o q r := by
  refine ⟨iff_of_false hq ha, fun h => absurd h (by simp [ht]), fun e => ?_⟩
  rcases hr with hr | hr
  · exact absurd e hr
  · refine ⟨?_, .inr hr⟩
    rcases hr with h | h <;> rw [h] <;> rfl

/-- Only a proven output's timer runs. -/
theorem OutOk.timer_eq_none {q : Prop} {r : OutRec} (h : OutOk ps o q r) (hp : proving r.act = false) : r.timer = none := by
  cases ht : r.timer with
  | none => rfl
  | some n =>
    rw [h.timer (by simp [ht])] at hp
    cases hp

theorem not_queued_of_inWait {a : Act} (h : inWait a = true) : a ≠ .queued ∧ proving a = false := by
  revert h
  cases a <;> decide

/-- A waiting output has no queue entry, no timer and a command. -/
theorem OutOk.of_wait {q : Prop} {r : OutRec} (h : OutOk ps o q r) (hw : inWait r.act = true) :
    ¬ q ∧ r.timer = none ∧ r.resolved ≠ none := by
  obtain ⟨ha, hp⟩ := not_queued_of_inWait hw
  refine ⟨fun hq => ha (h.queued.1 hq), h.timer_eq_none hp, fun e => ?_⟩
  rw [(h.atNone e).1] at hw
  cases hw

/-- A change of a record that the invariant does not speak of, but for a timer that is ended. -/
def Tidy (f : OutRec → OutRec) : Prop :=
  ∀ r, (f r).act = r.act ∧ (f r).resolved = r.resolved ∧ ((f r).timer = r.timer ∨ (f r).timer = none) ∧
    (f r).superseded = r.superseded

theorem OutOk.tidy {q : Prop} {r : OutRec} (h : OutOk ps o q r) (hf : Tidy f) : OutOk ps o q (f r) := by
  obtain ⟨ha, hr, ht, -⟩ := hf r
  refine ⟨ha ▸ h.queued, fun e => ?_, fun e => ?_⟩
  · rw [ha]
    rcases ht with ht | ht
    · exact h.timer (ht ▸ e)
    · rw [ht] at e
      cases e
  · rw [ha]
    exact h.atNone (hr ▸ e)

theorem tidy_endWait : Tidy endWait := by
  intro r
  unfold endWait
  split <;> exact ⟨rfl, rfl, .inl rfl, rfl⟩

/-! ### The named writes -/

theorem Res.mono (h : Res ws ps R s) {us : List Nat} (hw : ∀ x ∈ ws, x ∈ us) (hp : ∀ x ∈ ps, x ∈ qs) : Res us qs R s :=
  { h with out := fun o ho => (h.out o fun hm => ho (hw o hm)).mono (hp o) }

theorem Res.imp {R' : Run → Tables → Prop} (h : Res ws ps R s) (hr : R s.run s.tables → R' s.run s.tables) :
    Res ws ps R' s := { h with run := hr h.run }

/-- The output in mid-work is done with. -/
theorem Res.done (h : Res [o] ps R s) (ho : OutOk ps o (inQueue s o) (outRec s o)) : Res [] ps R s :=
  { h with out := fun x _ => if e : x = o then e ▸ ho else h.out x (by simpa using e) }

/-- An output that has a command, or is at rest, has been acted on. -/
theorem Res.acted (h : Res [] (o :: ps) R s)
    (ho : (outRec s o).resolved ≠ none ∨ (outRec s o).act = .settled ∨ (outRec s o).act = .unknown) : Res [] ps R s := by
  refine { h with out := fun x hx => ?_ }
  have hO := h.out x hx
  refine ⟨hO.queued, hO.timer, fun e => ⟨(hO.atNone e).1, ?_⟩⟩
  by_cases hxo : x = o
  · subst hxo
    exact .inr (ho.resolve_left (not_not.2 e))
  · exact (hO.atNone e).2.imp_left fun hm => (List.mem_cons.1 hm).resolve_left hxo

/-- A change of parts that the invariant does not speak of, and of the Controller. -/
theorem Res.of_plant (h : Res ws ps R s) (hr : t.run = s.run) (ht : t.tables = s.tables) (hn : t.nv = s.nv)
    (hw : t.nvWrite = s.nvWrite) (ho : t.outs = s.outs) (hq : t.queue = s.queue) (hp : PlantOk t.plant) :
    Res ws ps R t := by
  have hrec := outRec_congr ho
  refine ⟨by rw [hr, ht]; exact h.run, by unfold outputsWf; rw [ht]; exact h.entries, ht ▸ h.tables, hn ▸ h.stored,
    hn ▸ h.storedEntries, hw ▸ h.writing, by unfold outsWf; rw [ho]; exact h.wf, hq ▸ h.queueOnce, hp,
    fun o => hrec o ▸ h.superseded o, fun o hx => ?_⟩
  rw [hrec, inQueue, hq]
  exact h.out o hx

/-- A change of parts that the invariant does not speak of. -/
theorem Res.of_eq (h : Res ws ps R s) (hr : t.run = s.run) (ht : t.tables = s.tables) (hn : t.nv = s.nv)
    (hw : t.nvWrite = s.nvWrite) (ho : t.outs = s.outs) (hq : t.queue = s.queue) (hp : t.plant = s.plant) :
    Res ws ps R t := h.of_plant hr ht hn hw ho hq (hp ▸ h.plant)

theorem Res.captures (h : Res ws ps R s) (c : Captures s t) (w : Work s t) : Res ws ps R t :=
  h.of_eq c.run c.tables w.nv w.nvWrite c.outs c.queue c.plant

theorem Res.setPlant (h : Res ws ps R s) {g : Plant → Plant} (hg : PlantOk (g s.plant)) : Res ws ps R (setPlant g s) :=
  { h with plant := hg }

theorem res_tellRunner (h : Res ws ps R s) {n : RunnerNotice} : Res ws ps R (tellRunner n s) :=
  h.of_eq rfl rfl rfl rfl rfl rfl rfl
theorem res_tellMonitor (h : Res ws ps R s) {n : MonitorNotice} : Res ws ps R (tellMonitor n s) :=
  h.of_eq rfl rfl rfl rfl rfl rfl rfl
theorem res_report (h : Res ws ps R s) {r : Report} : Res ws ps R (report r s) :=
  h.captures (captures_report r s) (work_report (.refl s))
theorem res_raise (h : Res ws ps R s) {ev : Ev} {a b : Nat} : Res ws ps R (raise ev a b s) := res_report h

theorem res_ite {c : Prop} [Decidable c] {a b : State} (ha : Res ws ps R a) (hb : Res ws ps R b) :
    Res ws ps R (if c then a else b) := by
  split
  · exact ha
  · exact hb

theorem res_foldl {α : Type} {g : State → α → State} (hg : ∀ {u : State} (x : α), Res ws ps R u → Res ws ps R (g u x))
    {xs : List α} (h : Res ws ps R s) : Res ws ps R (xs.foldl g s) := by
  induction xs generalizing s with
  | nil => exact h
  | cons x xs ih => exact ih (hg x h)

/-- A record is written, and is as it should be thereafter or in mid-work. -/
theorem Res.modOut (h : Res (o :: ws) ps R s) (hs : (f (outRec s o)).superseded ≤ 255)
    (ho : o ∈ ws ∨ OutOk ps o (inQueue s o) (f (outRec s o))) : Res ws ps R (modOut o f s) := by
  refine { h with wf := outsWf_modOut h.wf, superseded := fun x => ?_, out := fun x hx => ?_ } <;>
    rw [outRec_modOut h.wf] <;> split
  · exact hs
  · exact h.superseded x
  · rename_i e
    subst e
    exact ho.resolve_left hx
  · rename_i e
    exact h.out x (by simp [e, hx])

theorem res_tidy (h : Res ws ps R s) (hf : Tidy f := by exact fun _ => ⟨rfl, rfl, by simp, rfl⟩) :
    Res ws ps R (modOut o f s) := by
  refine (h.mono (fun x hx => List.mem_cons_of_mem _ hx) fun _ => id).modOut ?_ ?_
  · rw [(hf _).2.2.2]
    exact h.superseded o
  · by_cases ho : o ∈ ws
    · exact .inl ho
    · exact .inr ((h.out o ho).tidy hf)

/-! ### The fast ring and the actuation state -/

theorem plantOk_ringJoin {p : Plant} (h : PlantOk p) (m : Nat) : PlantOk (ringJoin m p) := by
  unfold ringJoin
  split
  · exact h
  · rename_i hm
    have hm : m ∉ p.fastRing := by simpa using hm
    exact { h with fastRing := List.nodup_append.2 ⟨h.fastRing, List.nodup_singleton m,
      fun a ha b hb => fun e => hm (List.mem_singleton.1 hb ▸ e ▸ ha)⟩ }

theorem plantOk_ringLeave {p : Plant} (h : PlantOk p) (m : Nat) : PlantOk (ringLeave m p) :=
  { h with fastRing := h.fastRing.filter _ }

theorem Res.setAct {a : Act} (h : Res (o :: ws) ps R s)
    (ho : o ∈ ws ∨ OutOk ps o (inQueue s o) { outRec s o with act := a }) : Res ws ps R (setAct o a s) := by
  have hm : Res ws ps R (Machine.modOut o (fun r => { r with act := a }) s) := h.modOut (h.superseded o) ho
  exact res_ite hm (res_ite (hm.setPlant (plantOk_ringJoin hm.plant _)) (hm.setPlant (plantOk_ringLeave hm.plant _)))

/-! ### The command queue -/

theorem inQueue_dequeue : inQueue (dequeue o s) x ↔ inQueue s x ∧ x ≠ o := by
  simp only [inQueue, dequeue, setQueue, List.mem_map, List.mem_filter, bne_iff_ne]
  constructor
  · rintro ⟨y, ⟨hy, hne⟩, rfl⟩
    exact ⟨⟨y, hy, rfl⟩, hne⟩
  · rintro ⟨⟨y, hy, rfl⟩, hne⟩
    exact ⟨y, ⟨hy, hne⟩, rfl⟩

theorem res_dequeue (h : Res ws ps R s) (ho : o ∈ ws) : Res ws ps R (dequeue o s) := by
  refine { h with queueOnce := (List.filter_sublist.map _).nodup h.queueOnce, out := fun x hx => ?_ }
  have hxo : x ≠ o := fun e => hx (e ▸ ho)
  have hO := h.out x hx
  exact ⟨inQueue_dequeue.trans ((and_iff_left hxo).trans hO.queued), hO.timer, hO.atNone⟩

theorem res_requeueInPlace {c : Cmd} (h : Res ws ps R s) : Res ws ps R (requeueInPlace o c s) := by
  have hq : (requeueInPlace o c s).queue.map (fun x => x.output) = s.queue.map (fun x => x.output) := by
    simp only [requeueInPlace, setQueue, List.map_map]
    refine List.map_congr_left fun x _ => ?_
    by_cases e : x.output = o <;> simp [e]
  refine { h with queueOnce := hq ▸ h.queueOnce, out := fun x hx => ?_ }
  have hi : inQueue (requeueInPlace o c s) x ↔ inQueue s x := by rw [inQueue, hq, inQueue]
  have hO := h.out x hx
  exact ⟨hi.trans hO.queued, hO.timer, hO.atNone⟩

/-- R66: an output that is in mid-work, outside the queue and without a timer, and that has a command, joins the queue. -/
theorem res_enqueue {c : Cmd} (h : Res [o] ps R s) (hq : ¬ inQueue s o) (ht : (outRec s o).timer = none)
    (hr : (outRec s o).resolved ≠ none) : Res [] ps R (enqueue o c s) := by
  have hi : ∀ x, inQueue (setQueue (fun q => q ++ [{ output := o, cmd := c }]) s) x ↔ inQueue s x ∨ x = o := by
    simp [inQueue, setQueue, eq_comm]
  have hs : Res [o] ps R (setQueue (fun q => q ++ [{ output := o, cmd := c }]) s) := by
    refine { h with queueOnce := ?_, out := fun x hx => ?_ }
    · refine (List.map_append ▸ List.nodup_append.2 ⟨h.queueOnce, List.nodup_singleton o, fun a ha b hb e => hq ?_⟩)
      have hbo : b = o := List.mem_singleton.1 hb
      exact hbo ▸ e ▸ ha
    · have hO := h.out x hx
      have hxo : ¬ x = o := by simpa using hx
      exact ⟨(hi x).trans ((or_iff_left hxo).trans hO.queued), hO.timer, hO.atNone⟩
  refine hs.setAct (.inr ⟨iff_of_true ((hi o).2 (.inr rfl)) rfl, fun e => ?_, fun e => absurd e hr⟩)
  exact absurd e (by rw [show (outRec (setQueue _ s) o).timer = none from ht]; simp)

end Sys2Proof.Machine
end

section
/-! The command queue, the fast ring and the proof timers through the Output Resolver and the Start Scheduler (O9). -/

namespace Sys2Proof.Machine

variable {ps : List Nat} {R : Run → Tables → Prop} {s t : State} {o x : Nat} {f : OutRec → OutRec}

/-! ### Rest, admission and examination -/

theorem res_tellReserve (h : Res [] ps R s) : Res [] ps R (tellReserve o s) := by
  unfold tellReserve
  split
  · exact res_tellMonitor h
  · exact h

/-- Any output comes to SETTLED, whatever its command; it has left the queue. -/
theorem res_settleRecord (h : Res [o] ps R s) (hq : ¬ inQueue s o) : Res [] ps R (settleRecord o s) := by
  have ht : Res [o] ps R (modOut o (fun r =>
      { r with fault := none, origin := none, timer := none, clean := false, slot := none }) s) := res_tidy h
  have hs : Res [] ps R (setAct o .settled _) := ht.setAct (.inr (.rest hq (by simp)
    (by rw [outRec_modOut_same h.wf]) (.inr (.inl rfl))))
  exact res_ite hs (res_tellReserve (res_tellRunner hs))

/-- R92: the head of a wait list is admitted. -/
theorem res_admitFan (h : Res [] ps R s) (ha : (outRec s o).act = .waitStart) : Res [] ps R (admitFan o s) := by
  obtain ⟨hq, ht, hr⟩ := (h.out o (by simp)).of_wait (by rw [ha]; rfl)
  unfold admitFan
  split
  · exact h
  · rename_i c hc
    dsimp only
    have hw := h.mono (us := [o]) (by simp) fun _ => id
    have hm := res_tidy hw (o := o) (f := fun r => { r with
      slot := some { demand := startDemand (outEntry s o) (outRec s o).view c, hold := .needed },
      heldWarned := false, waitOpen := false })
    have hrec := outRec_modOut_same (o := o) (f := fun r => { r with
      slot := some { demand := startDemand (outEntry s o) (outRec s o).view c, hold := .needed },
      heldWarned := false, waitOpen := false }) h.wf
    exact res_ite (res_settleRecord hm hq) (res_enqueue hm hq (by rw [hrec, ht]) (by rw [hrec]; exact hr))

theorem res_examineTimes (h : Res [] ps R s) {n b : Nat} : Res [] ps R (examineTimes n b s) := by
  induction n generalizing s with
  | zero => exact h
  | succ n ih =>
    unfold examineTimes
    split
    · exact h
    · rename_i f _ hl
      exact res_ite (ih (res_admitFan h (act_of_mem_waitList (hl ▸ List.mem_cons_self)))) h

theorem res_examine (h : Res [] ps R s) {b : Nat} : Res [] ps R (examine b s) := res_examineTimes h

theorem res_examineFor (h : Res [] ps R s) : Res [] ps R (examineFor o s) := res_ite (res_examine h) h

theorem res_releaseSlot (h : Res [] ps R s) : Res [] ps R (releaseSlot o s) := res_ite (res_examineFor (res_tidy h)) h

theorem res_warnHeld (h : Res [] ps R s) : Res [] ps R (warnHeld o s) := res_ite (res_raise (res_tidy h)) h

/-! ### An output to be placed -/

/-- The output is in mid-work: out of the queue, without a timer, and under a command. -/
structure Ready (ps : List Nat) (R : Run → Tables → Prop) (o : Nat) (s : State) : Prop where
  res : Res [o] ps R s
  out : ¬ inQueue s o
  timer : (outRec s o).timer = none
  command : (outRec s o).resolved ≠ none

/-- An output that is neither QUEUED nor proven may be placed. -/
theorem Res.ready (h : Res [] ps R s) (ha : (outRec s o).act ≠ .queued) (hp : proving (outRec s o).act = false)
    (hr : (outRec s o).resolved ≠ none) : Ready ps R o s := by
  have hO := h.out o (by simp)
  exact ⟨h.mono (by simp) fun _ => id, fun hq => ha (hO.queued.1 hq), hO.timer_eq_none hp, hr⟩

theorem Ready.tidy (h : Ready ps R o s) (hf : Tidy f := by exact fun _ => ⟨rfl, rfl, by simp, rfl⟩) :
    Ready ps R o (modOut o f s) := by
  obtain ⟨-, hr, ht, -⟩ := hf (outRec s o)
  refine ⟨res_tidy h.res hf, h.out, ?_, ?_⟩ <;> rw [outRec_modOut_same h.res.wf]
  · exact ht.elim (fun e => e.trans h.timer) id
  · rw [hr]
    exact h.command

theorem Ready.raise (h : Ready ps R o s) {ev : Ev} {a b : Nat} : Ready ps R o (raise ev a b s) := by
  have c := captures_raise ev a b s
  have hrec := outRec_congr (s := s) c.outs o
  refine ⟨res_raise h.res, ?_, hrec ▸ h.timer, hrec ▸ h.command⟩
  rw [inQueue, c.queue]
  exact h.out

/-- It comes to a state other than QUEUED. -/
theorem Ready.setAct (h : Ready ps R o s) {a : Act} (ha : a ≠ .queued) : Res [] ps R (setAct o a s) :=
  h.res.setAct (.inr (.rest h.out ha h.timer (.inl h.command)))

theorem Ready.resumeWait (h : Ready ps R o s) : Ready ps R o (resumeWait o s) := by
  unfold Machine.resumeWait
  split
  · exact h
  · exact h.tidy (f := noWait) fun _ => ⟨rfl, rfl, .inl rfl, rfl⟩

theorem Ready.enqueue (h : Ready ps R o s) {c : Cmd} : Res [] ps R (enqueue o c s) :=
  res_enqueue h.res h.out h.timer h.command

/-! ### FAULT, the path interlock and placement -/

/-- R77: whatever the output was at, it goes to FAULT; it must have a command. -/
theorem res_toFault (h : Res [o] ps R s) (hr : (outRec s o).resolved ≠ none) {code : FaultCode} {cause : Cause} :
    Res [] ps R (toFault o code cause s) := by
  have he : Res [o] ps R (modOut o endWait s) := res_tidy h tidy_endWait
  have hm := res_tidy he (o := o) (f := fun r =>
    { r with fault := some { code := code, cause := cause }, origin := none, timer := none, clean := false })
  have hrec := outRec_modOut_same (o := o) (f := fun r =>
    { r with fault := some { code := code, cause := cause }, origin := none, timer := none, clean := false }) he.wf
  have hfault : Res [] ps R (faultRecord o code cause s) := by
    refine (res_dequeue hm (List.mem_singleton_self o)).setAct (.inr (.rest ?_ (by simp) ?_ (.inl ?_)))
    · exact fun hq => (inQueue_dequeue.1 hq).2 rfl
    · exact congrArg OutRec.timer hrec
    · refine fun e => hr ?_
      have hres := congrArg OutRec.resolved hrec
      rw [outRec_modOut_same h.wf] at hres
      exact (endWait_resolved _).symm.trans (hres.symm.trans e)
  exact res_tellReserve (res_tellRunner (res_examineFor (res_tidy (res_report hfault))))

theorem Ready.joinWait (h : Ready ps R o s) : Res [] ps R (joinWait o s) :=
  res_warnHeld (res_examineFor ((h.tidy (f := fun r =>
    { r with joinTime := some (r.joinTime.getD s.uptime), waitOpen := true })).setAct (by simp)))

theorem res_judgePath (h : Res [] ps R s) : Res [] ps R (judgePath o s) := by
  unfold judgePath
  split
  · exact h
  · rename_i ha
    have ha : (outRec s o).act = .waitPath := not_not.1 ha
    have hr := ((h.out o (by simp)).of_wait (by rw [ha]; rfl)).2.2
    have hy := h.ready (o := o) (by simp [ha]) (by rw [ha]; rfl) hr
    exact res_ite hy.joinWait (res_ite (res_toFault hy.res hr) h)

theorem res_rejudge (h : Res [] ps R s) : Res [] ps R (rejudge o s) := res_foldl (fun _ hu => res_judgePath hu) h

theorem Ready.settle (h : Ready ps R o s) : Res [] ps R (settle o s) :=
  res_ite (res_examineFor (res_settleRecord h.res h.out)) (res_settleRecord h.res h.out)

theorem Ready.placeStart (h : Ready ps R o s) {c : Cmd} : Res [] ps R (placeStart o c s) :=
  res_ite (res_judgePath (h.setAct (by simp))) h.joinWait

theorem Ready.place (h : Ready ps R o s) : Res [] ps R (place o s) := by
  have hfault : ∀ {code cause}, Res [] ps R (toFault o code cause s) := res_toFault h.res h.command
  unfold Machine.place
  dsimp only
  split
  · exact absurd ‹_› h.command
  · exact res_ite (res_ite hfault (h.setAct (by simp))) (res_ite hfault (res_ite hfault (res_ite hfault
      (res_ite h.settle (res_ite h.resumeWait.placeStart h.enqueue)))))

/-- A waiting output is placed. -/
theorem res_placeFromWait (h : Res [] ps R s) (ha : inWait (outRec s o).act = true) :
    Res [] ps R (placeFromWait o s) := by
  obtain ⟨hq, hp⟩ := not_queued_of_inWait ha
  have hp : Res [] ps R (place o s) := (h.ready hq hp ((h.out o (by simp)).of_wait ha).2.2).place
  exact res_ite (res_examineFor hp) hp

theorem res_newAttempt (h : Res [] ps R s) (ha : (outRec s o).act = .fault) (hr : (outRec s o).resolved ≠ none)
    {way : Way} : Res [] ps R (newAttempt o way s) :=
  ((h.ready (o := o) (by simp [ha]) (by rw [ha]; rfl) hr).tidy.raise).place

/-! ### What follows the work done for one output -/

/-- A QUEUED output that has left the queue is to be placed. -/
theorem Res.ready_dequeue (h : Res [] ps R s) (ha : (outRec s o).act = .queued) (hr : (outRec s o).resolved ≠ none) :
    Ready ps R o (dequeue o s) :=
  ⟨res_dequeue (h.mono (by simp) fun _ => id) (List.mem_singleton_self o), fun hq => (inQueue_dequeue.1 hq).2 rfl,
    (h.out o (by simp)).timer_eq_none (by rw [ha]; rfl), hr⟩

theorem res_requeueStart (h : Res [] ps R s) : Res [] ps R (requeueStart o s) := by
  unfold requeueStart
  dsimp only
  split
  · rename_i c hc
    split
    · rename_i ha
      simp only [Bool.and_eq_true, decide_eq_true_eq] at ha
      exact (h.ready_dequeue ha.1.1.1 (by simp [hc])).place
    · exact h
  · exact h

theorem res_onOutput {work : State → State} (h : Res [] ps R (work s)) : Res [] ps R (onOutput o work s) :=
  res_ite (res_rejudge (res_requeueStart h)) (res_requeueStart h)

/-! ### A new resolved command -/

theorem outRec_setAct_other {a : Act} (hx : x ≠ o) : outRec (setAct o a s) x = outRec s x := by
  have hm : outRec (modOut o (fun r => { r with act := a }) s) x = outRec s x := outRec_modOut_other hx
  unfold setAct
  dsimp only
  split
  · exact hm
  · split <;> exact hm

theorem outs_tellReserve : (tellReserve o s).outs = s.outs := by
  unfold tellReserve
  split <;> rfl

theorem outRec_settleRecord_other (hx : x ≠ o) : outRec (settleRecord o s) x = outRec s x := by
  have hs := (outRec_setAct_other (a := .settled) hx).trans (outRec_modOut_other (s := s) (f := fun r =>
    { r with fault := none, origin := none, timer := none, clean := false, slot := none }) hx)
  unfold settleRecord
  dsimp only
  split
  · exact hs
  · exact (outRec_congr outs_tellReserve x).trans hs

theorem outRec_admitFan_other (hx : x ≠ o) : outRec (admitFan o s) x = outRec s x := by
  unfold admitFan
  split
  · rfl
  · rename_i c _
    have hm := outRec_modOut_other (s := s) (f := fun r => { r with
      slot := some { demand := startDemand (outEntry s o) (outRec s o).view c, hold := .needed },
      heldWarned := false, waitOpen := false }) hx
    dsimp only
    split
    · exact (outRec_settleRecord_other hx).trans hm
    · exact (outRec_setAct_other hx).trans hm

/-- R90: an examination touches waiting fans alone. -/
theorem outRec_examineFor (ha : (outRec s x).act ≠ .waitStart) : outRec (examineFor o s) x = outRec s x := by
  have ht : ∀ (n b : Nat) (u : State), (outRec u x).act ≠ .waitStart → outRec (examineTimes n b u) x = outRec u x := by
    intro n b
    induction n with
    | zero => exact fun _ _ => rfl
    | succ n ih =>
      intro u hu
      unfold examineTimes
      split
      · rfl
      · rename_i f _ hl
        have hf := act_of_mem_waitList (hl ▸ List.mem_cons_self : f ∈ waitList u b)
        have hxf : x ≠ f := fun e => hu (e ▸ hf)
        have hone := outRec_admitFan_other (s := u) hxf
        split
        · exact (ih _ (hone ▸ hu)).trans hone
        · rfl
  unfold examineFor
  split
  · exact ht _ _ _ ha
  · rfl

/-- R63: the record of a superseded output, with the slot that R65 leaves it. -/
def supersedeRecord (sl : Option Slot) (r : OutRec) : OutRec :=
  { r with
    superseded := min 255 (r.superseded + 1), retried := false, origin := none, timer := none, clean := false,
    slot := sl }

/-- R63: a QUEUED or outstanding output takes its new command. -/
theorem res_supersede (h : Res [] ps R s) (hr : (outRec s o).resolved ≠ none) (ha : (outRec s o).act ≠ .waitStart) {c : Cmd} :
    Res [] ps R (supersede o c s) := by
  have hO := h.out o (by simp)
  have hrec := outRec_modOut_same (o := o) (f := supersedeRecord (slotAfter (outEntry s o) (outRec s o) c)) h.wf
  have hm : Res [] ps R (modOut o (supersedeRecord (slotAfter (outEntry s o) (outRec s o) c)) s) :=
    (h.mono (by simp) fun _ => id).modOut (Nat.min_le_left _ _)
      (.inr ⟨hO.queued, fun e => (by cases e), fun e => absurd e hr⟩)
  obtain ⟨u, hu, hres, hou⟩ : ∃ u, u = (if (outRec s o).slot.isSome &&
      (slotAfter (outEntry s o) (outRec s o) c).isNone then examineFor o _ else _) ∧ Res [] ps R u ∧
      outRec u o = supersedeRecord (slotAfter (outEntry s o) (outRec s o) c) (outRec s o) :=
    ⟨_, rfl, res_ite (res_examineFor hm) hm, by
      split
      · rw [outRec_examineFor (by rw [hrec]; exact ha), hrec]
      · exact hrec⟩
  have hw : Res [o] ps R u := hres.mono (by simp) fun _ => id
  have hy : Ready ps R o (dequeue o u) := ⟨res_dequeue hw (List.mem_singleton_self o),
    fun hq => (inQueue_dequeue.1 hq).2 rfl, congrArg OutRec.timer hou,
    fun e => hr ((congrArg OutRec.resolved hou).symm.trans e)⟩
  have hsup : supersede o c s =
      if needsSlot (outEntry s o) (outRec s o).view c && !slotFits (outEntry s o) (outRec s o) c then
        placeStart o c (forgetWait o (dequeue o u))
      else if (outRec s o).act = .queued then requeueInPlace o c u
      else enqueue o c u := by
    rw [hu]
    rfl
  rw [hsup]
  refine res_ite (hy.tidy (f := noWait) fun _ => ⟨rfl, rfl, .inl rfl, rfl⟩).placeStart ?_
  split
  · exact res_requeueInPlace hres
  · rename_i hq
    refine res_enqueue hw (fun hi => hq ?_) hy.timer hy.command
    exact (congrArg OutRec.act hou).symm.trans ((hres.out o (by simp)).queued.1 hi)

/-- R64: the record of an output that has no command any more. -/
def noneRecord (r : OutRec) : OutRec :=
  { r with fault := none, origin := none, timer := none, clean := false, retried := false, busy := 0, slot := none }

/-- R64: whatever the output was at, it has no command any more. -/
theorem res_toNone (h : Res [] (o :: ps) R s) {was : Act} : Res [] ps R (toNone was o s) := by
  have hw : Res [o] ps R s :=
    { h with out := fun x hx => (h.out x (by simp)).mono fun hm => (List.mem_cons.1 hm).resolve_left (by simpa using hx) }
  have hm : Res [o] ps R (modOut o noneRecord (dequeue o s)) :=
    res_tidy (res_dequeue hw (List.mem_singleton_self o)) fun _ => ⟨rfl, rfl, .inr rfl, rfl⟩
  obtain ⟨u, hu, hc, hres⟩ : ∃ u, u = (if (outRec s o).act = .fault then raise .outputRecovered o (wayCode .command)
      (modOut o noneRecord (dequeue o s)) else modOut o noneRecord (dequeue o s)) ∧
      Captures (modOut o noneRecord (dequeue o s)) u ∧ Res [o] ps R u :=
    ⟨_, rfl, by split; exacts [captures_raise _ _ _ _, ⟨rfl, rfl, rfl, rfl, rfl, rfl, rfl, rfl, rfl⟩],
      res_ite (res_raise hm) hm⟩
  have hq : ¬ inQueue u o := by
    rw [inQueue, hc.queue]
    exact fun hi => (inQueue_dequeue (s := s).1 hi).2 rfl
  have ht : (outRec u o).timer = none := by
    rw [outRec_congr hc.outs, outRec_modOut_same (s := dequeue o s) h.wf]
    rfl
  have hnone : toNone was o s =
      let v := if (outRec s o).valid then settleRecord o u else setAct o .unknown u
      if (outRec s o).slot.isSome || was == .waitStart then examineFor o v else v := by
    rw [hu]
    rfl
  have hv : Res [] ps R (if (outRec s o).valid then settleRecord o u else setAct o .unknown u) :=
    res_ite (res_settleRecord hres hq) (hres.setAct (.inr (.rest hq (by simp) ht (.inr (.inr rfl)))))
  rw [hnone]
  exact res_ite (res_examineFor hv) hv

/-- What taking a new command makes of an output's state. -/
def unwaited (a : Act) : Act := if inWait a then .unknown else a

theorem unwaited_unwaited (a : Act) : unwaited (unwaited a) = unwaited a := by cases a <;> rfl

theorem act_takeCommand (hw : outsWf s) : (outRec (takeCommand o s) x).act =
    if x = o then unwaited (outRec s x).act else (outRec s x).act := by
  rw [takeCommand, outRec_modOut (outsWf_modOut hw), outRec_modOut_same hw, outRec_modOut hw]
  split
  · rename_i e
    rw [endWait_act, e]
    rfl
  · rfl

theorem res_takeCommand (h : Res [] ps R s) : Res [] (o :: ps) R (takeCommand o s) := by
  have he : Res [] (o :: ps) R (modOut o endWait s) :=
    res_tidy (h.mono (by simp) fun _ => List.mem_cons_of_mem o) tidy_endWait
  have hO := he.out o (by simp)
  refine (he.mono (us := [o]) (by simp) fun _ => id).modOut (he.superseded o) (.inr ?_)
  by_cases hw : inWait (outRec (modOut o endWait s) o).act = true
  · obtain ⟨hq, ht, -⟩ := hO.of_wait hw
    exact .rest hq (by simp [hw]) ht (.inr (.inr (if_pos hw)))
  · have hact : (if inWait (outRec (modOut o endWait s) o).act = true then Act.unknown
        else (outRec (modOut o endWait s) o).act) = (outRec (modOut o endWait s) o).act := if_neg hw
    refine ⟨?_, fun e => ?_, fun _ => ⟨?_, .inl List.mem_cons_self⟩⟩ <;> dsimp only <;> rw [hact]
    · exact hO.queued
    · exact hO.timer e
    · simpa using hw

/-- R62 to R64, R78: the Resolver acts on an output whose command has changed; `was` is its state before the change. -/
theorem res_actOnCommand (h : Res [] (o :: ps) R s) {was : Act} (ha : (outRec s o).act = unwaited was) :
    Res [] ps R (actOnCommand was o s) := by
  unfold actOnCommand
  split
  · exact res_toNone h
  · rename_i c hc
    have hr : (outRec s o).resolved ≠ none := by simp [hc]
    have hd := h.acted (.inl hr)
    have hp : (was ≠ .queued ∧ proving was = false) → Res [] ps R (place o s) := fun hn => by
      refine (hd.ready ?_ ?_ hr).place <;> rw [ha] <;> revert hn <;> cases was <;> decide
    have hs : Res [] ps R (supersede o c s) := res_supersede hd hr (by rw [ha]; cases was <;> decide)
    cases was with
    | fault => exact res_newAttempt hd ha hr
    | waitStart => exact res_examineFor (hp (by decide))
    | waitPath | unknown | settled => exact hp (by decide)
    | queued | sent | moving | starting | stopping => exact hs

/-! ### Recomputation -/

theorem res_foldl_takeCommand {os : List Nat} (h : Res [] ps R s) :
    Res [] (os ++ ps) R (os.foldl (fun t o => takeCommand o t) s) := by
  induction os generalizing s ps with
  | nil => exact h
  | cons o os ih => exact (ih (res_takeCommand h)).mono (by simp) (by simp; tauto)

theorem outsWf_takeCommand (hw : outsWf s) : outsWf (takeCommand o s) := outsWf_modOut (outsWf_modOut hw)

theorem act_foldl_takeCommand {os : List Nat} (hw : outsWf s) (x : Nat) :
    (outRec (os.foldl (fun t o => takeCommand o t) s) x).act =
      if x ∈ os then unwaited (outRec s x).act else (outRec s x).act := by
  induction os generalizing s with
  | nil => simp
  | cons o os ih =>
    rw [List.foldl_cons, ih (outsWf_takeCommand hw), act_takeCommand hw]
    by_cases hx : x = o <;> by_cases hm : x ∈ os <;> simp [hx, hm, unwaited_unwaited]

/-- R60: what is done for one output of a recomputation, once every changed output stands at its new command. -/
def actOnOne (s : State) (changed : List Nat) (t : State) (o : Nat) : State :=
  if changed.contains o then onOutput o (actOnCommand (outRec s o).act o) t
  else if (outRec t o).act = .waitStart then examineFor o t
  else t

/-- Each output is acted on from the state that the others leave it in: its own from before, or UNKNOWN after a wait. -/
theorem res_foldl_actOnOne {changed os : List Nat} (hn : os.Nodup) (h : Res [] (os.filter changed.contains ++ ps) R t)
    (ha : ∀ o ∈ os, changed.contains o = true → (outRec t o).act = unwaited (outRec s o).act) :
    Res [] ps R (os.foldl (actOnOne s changed) t) := by
  induction os generalizing t with
  | nil => exact h
  | cons o os ih =>
    obtain ⟨ho, hn⟩ := List.nodup_cons.1 hn
    have hk : Kept [o] t (actOnOne s changed t o) := by
      have ho := List.mem_singleton_self o
      exact kept_ite (kept_onOutput ho (.refl _ t) fun hk => kept_actOnCommand ho hk)
        (kept_ite (kept_examineFor (.refl _ t)) (.refl _ t))
    refine ih hn ?_ fun x hx hc => ?_
    · unfold actOnOne
      by_cases hc : changed.contains o = true
      · rw [List.filter_cons_of_pos hc] at h
        rw [if_pos hc]
        exact res_onOutput (res_actOnCommand h (ha o List.mem_cons_self hc))
      · rw [List.filter_cons_of_neg hc] at h
        rw [if_neg hc]
        exact res_ite (res_examineFor h) h
    · have hx' := ha x (List.mem_cons_of_mem o hx) hc
      have hxo : x ∉ [o] := fun e => ho (List.mem_singleton.1 e ▸ hx)
      rw [hk.acts h.wf x hxo (by rw [hx']; cases (outRec s x).act <;> rfl), hx']

/-- R60: a recomputation of different outputs. -/
theorem res_recomputeAll {os : List Nat} (hn : os.Nodup) (h : Res [] ps R s) : Res [] ps R (recomputeAll os s) := by
  have hf : os.filter (os.filter (commandChanged s)).contains = os.filter (commandChanged s) := by
    refine List.filter_congr fun o ho => ?_
    rw [Bool.eq_iff_iff]
    simp [ho]
  refine res_foldl_actOnOne hn (by rw [hf]; exact res_foldl_takeCommand h) fun o _ hc => ?_
  rw [act_foldl_takeCommand h.wf, if_pos (by simpa using hc)]

theorem res_recompute (h : Res [] ps R s) : Res [] ps R (recompute o s) :=
  res_recomputeAll (List.nodup_singleton o) h

/-- R61: a change of layer entries of different outputs. -/
theorem res_changeLayers {w : Nat → OutRec → OutRec} {os : List Nat} (hn : os.Nodup) (h : Res [] ps R s)
    (hw : ∀ o, Tidy (w o) := by exact fun _ _ => ⟨rfl, rfl, .inl rfl, rfl⟩) : Res [] ps R (changeLayers w os s) :=
  res_recomputeAll hn (res_foldl (fun o hu => res_tidy hu (hw o)) h)

theorem res_writeFire (h : Res [] ps R s) {c : Option Cmd} : Res [] ps R (writeFire o c s) :=
  res_ite (res_changeLayers (List.nodup_singleton o) h) h

theorem Res.nodup_configured (h : Res [] ps R s) : (configured s).Nodup := configured_nodup h.entries

theorem res_beginFire (h : Res [] ps R s) : Res [] ps R (beginFire s) := res_changeLayers h.nodup_configured h

theorem res_endFire (h : Res [] ps R s) : Res [] ps R (endFire s) := res_changeLayers h.nodup_configured h

end Sys2Proof.Machine
end

section
/-! The command queue, the fast ring and the proof timers at the ends of exchanges, at readings and at the loss and return of
modules (O9). -/

namespace Sys2Proof.Machine

variable {ps : List Nat} {R : Run → Tables → Prop} {s t : State} {o x : Nat} {f : OutRec → OutRec}

/-! ### Endings of a command exchange (R68, R69) -/

/-- A write to a record in mid-work. -/
theorem res_work (h : Res [o] ps R s) (hs : ∀ r, (f r).superseded = r.superseded := by exact fun _ => rfl) :
    Res [o] ps R (modOut o f s) :=
  (h.mono (by simp) fun _ => id).modOut ((hs _).le.trans (h.superseded o)) (.inl (List.mem_singleton_self o))

theorem Res.working (h : Res [] ps R s) : Res [o] ps R s := h.mono (by simp) fun _ => id

theorem Res.not_inQueue (h : Res [] ps R s) (ha : (outRec s o).act ≠ .queued) : ¬ inQueue s o :=
  fun hq => ha ((h.out o (by simp)).queued.1 hq)

theorem proving_acceptedAct (e : OutputEntry) (v : View) (c : Cmd) : proving (acceptedAct e v c) = true := by
  unfold acceptedAct
  cases isDamper e
  · cases c with
    | low => cases viewSpeed v with
      | none => rfl
      | some sp => cases sp <;> rfl
    | _ => rfl
  · rfl

/-- R69: the record of an output whose command is accepted at this view. -/
def acceptRecord (v : View) (n : Nat) (r : OutRec) : OutRec :=
  { r with busy := 0, origin := some v, clean := true, timer := some n }

/-- R69: a command accepted starts the proof timer in a state that is proven. -/
theorem res_acceptCommand {c : Cmd} (h : Res [] ps R s) (ha : (outRec s o).act = .sent)
    (hr : (outRec s o).resolved ≠ none) : Res [] ps R (acceptCommand o c s) := by
  have hp := proving_acceptedAct (outEntry s o) (outRec s o).view c
  generalize hac : acceptedAct (outEntry s o) (outRec s o).view c = a at hp
  have hq : a ≠ .queued := fun e => by rw [e] at hp; cases hp
  have hs : Res [] ps R (setAct o a (modOut o (acceptRecord (outRec s o).view (proofTime (outEntry s o) a)) s)) := by
    refine (res_work h.working).setAct (.inr ⟨iff_of_false (h.not_inQueue (by simp [ha])) hq, fun _ => hp, fun e => ?_⟩)
    dsimp only at e
    rw [outRec_modOut_same h.wf] at e
    exact absurd e hr
  have hrel := res_releaseSlot hs (o := o)
  subst hac
  unfold acceptCommand
  dsimp only
  split
  · exact res_ite hrel hs
  · exact hs

theorem Ready.fault (h : Ready ps R o s) {code : FaultCode} {cause : Cause} : Res [] ps R (toFault o code cause s) :=
  res_toFault h.res h.command

theorem res_sentEnding {a : Ack} (h : Res [] ps R s) (ha : (outRec s o).act = .sent) :
    Res [] ps R (sentEnding o a s) := by
  unfold sentEnding
  dsimp only
  split
  · exact h
  · rename_i c hc
    have hr : (outRec s o).resolved ≠ none := by simp [hc]
    have hy : Ready ps R o s := h.ready (by simp [ha]) (by rw [ha]; rfl) hr
    cases a with
    | accepted => exact res_acceptCommand h ha hr
    | busy =>
      have hb := hy.tidy (f := fun r => { r with busy := min s.tables.link.busyLimit (r.busy + 1) })
        fun _ => ⟨rfl, rfl, .inl rfl, rfl⟩
      exact res_ite hb.fault hb.enqueue
    | refusedLocal =>
      exact (hy.tidy (f := fun r => { r with view := match r.view with
        | .fan sp t _ => .fan sp t true
        | v => v }) fun _ => ⟨rfl, rfl, .inl rfl, rfl⟩).fault
    | badChannel => exact hy.fault

theorem res_supersededEnding {a : Ack} (h : Res [] ps R s) : Res [] ps R (supersededEnding o a s) := by
  unfold supersededEnding
  split
  · exact h
  · split
    · exact res_releaseSlot h
    · exact res_tidy h

theorem res_exchangeEnded {a : Ack} (h : Res [] ps R s) : Res [] ps R (exchangeEnded o a s) := by
  refine res_onOutput ?_
  split
  · exact res_sentEnding h ‹_›
  · exact res_supersededEnding h

/-! ### Proof (R70, R71) -/

/-- An output that is proven has a command and no queue entry. -/
theorem Res.proven (h : Res [] ps R s) (ho : o ∉ ps) (hp : proving (outRec s o).act = true) :
    ¬ inQueue s o ∧ (outRec s o).resolved ≠ none := by
  refine ⟨h.not_inQueue fun e => (by rw [e] at hp; cases hp), fun e => ?_⟩
  rcases ((h.out o (by simp)).atNone e).2 with hm | hs | hu
  · exact ho hm
  · rw [hs] at hp
    cases hp
  · rw [hu] at hp
    cases hp

theorem res_proofExpired (h : Res [] [] R s) (hp : proving (outRec s o).act = true) :
    Res [] [] R (proofExpired o s) := by
  obtain ⟨hq, hr⟩ := h.proven (by simp) hp
  have hy : Ready [] R o (modOut o (fun r => { r with retried := true, origin := none, timer := none, clean := false }) s) := by
    refine ⟨res_work h.working, hq, ?_, ?_⟩ <;> rw [outRec_modOut_same h.wf]
    exact hr
  unfold proofExpired
  dsimp only
  refine res_onOutput ?_
  split
  · exact hy.enqueue
  · exact res_toFault h.working hr

/-! ### Readings -/

theorem res_takeView {v : View} {a b : Bool} (h : Res [] ps R s) : Res [] ps R (takeView o v a b s) := by
  have hm := res_tidy h (o := o) (f := fun r => { r with view := v, valid := a, unusable := b })
  exact res_ite (res_tellMonitor hm) hm

theorem res_settle (h : Res [] ps R s) (ha : (outRec s o).act ≠ .queued) : Res [] ps R (settle o s) := by
  have hs := res_settleRecord h.working (h.not_inQueue ha)
  exact res_ite (res_examineFor hs) hs

/-- R78: a reading of an output in FAULT that has a command. -/
theorem res_readInFault {old : OutRec} {c : Cmd} (h : Res [] ps R s) (ha : (outRec s o).act = .fault)
    (hr : (outRec s o).resolved ≠ none) : Res [] ps R (readInFault o old c s) := by
  have hy : Ready ps R o s := h.ready (by simp [ha]) (by rw [ha]; rfl) hr
  exact res_ite h (res_ite (hy.tidy.raise).settle (res_ite (res_newAttempt h ha hr) h))

/-- R76: a SETTLED output that has a command departs from it. -/
theorem res_depart {c : Cmd} (h : Res [] ps R s) (ha : (outRec s o).act = .settled)
    (hr : (outRec s o).resolved ≠ none) : Res [] ps R (depart o c s) := by
  have hy : Ready ps R o s := h.ready (by simp [ha]) (by rw [ha]; rfl) hr
  exact res_ite hy.enqueue (res_ite (hy.tidy (f := fun r => { r with retried := true })
    fun _ => ⟨rfl, rfl, .inl rfl, rfl⟩).enqueue hy.fault)

theorem res_readInState {old : OutRec} {c : Cmd} (h : Res [] ps R s) (hr : (outRec s o).resolved ≠ none) :
    Res [] ps R (readInState o old c s) := by
  unfold readInState
  dsimp only
  split
  case h_4 ha => exact res_ite h (res_depart h ha hr)
  case h_5 ha => exact res_ite (res_placeFromWait h (by rw [ha]; rfl)) h
  case h_6 ha => exact res_ite (res_placeFromWait h (by rw [ha]; rfl)) h
  case h_7 => exact h
  all_goals exact res_ite (res_settle h (by simp [*])) (res_ite (res_tidy h) h)

/-- The effect of a reading on an output whose state and command are still those of `old`. -/
theorem res_afterReading {old : OutRec} (h : Res [] ps R s) (ha : (outRec s o).act = old.act)
    (hr : (outRec s o).resolved = old.resolved) : Res [] ps R (afterReading o old s) := by
  unfold afterReading
  split
  · rename_i hu _
    exact res_settle h (by simp [ha, hu])
  · rename_i hu hc
    exact (h.ready (by simp [ha, hu]) (by rw [ha, hu]; rfl) (by simp [hr, hc])).place
  · exact h
  · rename_i hf hc
    exact res_readInFault h (ha.trans hf) (by simp [hr, hc])
  · rename_i c hc _ _
    have hne : (outRec s o).resolved ≠ none := by simp [hr, hc]
    split
    · exact res_ite (res_toFault h.working hne) (res_readInState h hne)
    · exact res_readInState h hne

theorem outRec_takeView {v : View} {a b : Bool} (hw : outsWf s) :
    outRec (takeView o v a b s) o = { outRec s o with view := v, valid := a, unusable := b } := by
  have hm := outRec_modOut_same (o := o) (f := fun r => { r with view := v, valid := a, unusable := b }) hw
  unfold takeView
  dsimp only
  split
  · exact (outRec_congr rfl o).trans hm
  · exact hm

theorem res_examineIfFallen {n : Nat} (h : Res [] ps R s) : Res [] ps R (examineIfFallen o n s) :=
  res_ite (res_examineFor h) h

theorem res_takeReading {b : Nat} (h : Res [] ps R s) : Res [] ps R (takeReading o b s) := by
  have hrec := outRec_takeView (o := o) (v := readingView (outEntry s o) b) (a := true) (b := false) h.wf
  refine res_examineIfFallen (res_onOutput (res_afterReading (res_takeView h) ?_ ?_)) <;> rw [hrec]

/-- An output that has no command falls back to UNKNOWN. -/
theorem res_setUnknown (h : Res [] [] R s) (hr : (outRec s o).resolved = none) : Res [] [] R (setAct o .unknown s) := by
  have hO := h.out o (by simp)
  have ha := (hO.atNone hr).2.resolve_left List.not_mem_nil
  have hq : (outRec s o).act ≠ .queued := by
    rcases ha with e | e <;> rw [e] <;> decide
  have hp : proving (outRec s o).act = false := by
    rcases ha with e | e <;> rw [e] <;> rfl
  refine h.working.setAct (.inr ⟨iff_of_false (h.not_inQueue hq) (by simp), fun e => ?_, fun _ => ⟨rfl, .inr (.inr rfl)⟩⟩)
  rw [hO.timer e] at hp
  cases hp

theorem res_takeUnusable (h : Res [] [] R s) : Res [] [] R (takeUnusable o s) := by
  have hv := res_takeView (o := o) (v := (outRec s o).view) (a := false) (b := true) h
  have hrec := outRec_takeView (o := o) (v := (outRec s o).view) (a := false) (b := true) h.wf
  refine res_examineIfFallen (res_onOutput ?_)
  dsimp only
  split
  · rename_i hn
    exact res_setUnknown hv (by rw [hrec]; simpa using hn)
  · rename_i hn
    exact res_ite hv (res_toFault hv.working (by rw [hrec]; simpa using hn))

/-! ### Modules lost and returned (R74) -/

theorem res_outputLost (h : Res [] [] R s) : Res [] [] R (outputLost o s) := by
  have hv := res_takeView (o := o) (v := (outRec s o).view) (a := false) (b := (outRec s o).unusable) h
  have hrec := outRec_takeView (o := o) (v := (outRec s o).view) (a := false) (b := (outRec s o).unusable) h.wf
  refine res_onOutput (res_ite hv ?_)
  split
  · rename_i hn
    exact res_setUnknown hv (by rw [hrec]; simpa using hn)
  · rename_i hn
    exact res_toFault hv.working (by rw [hrec]; simpa using hn)

theorem res_outputsLost {m : Nat} (h : Res [] [] R s) : Res [] [] R (outputsLost m s) :=
  res_foldl (fun _ hu => res_outputLost hu) h

/-- An output in FAULT has a command. -/
theorem Res.command_of_fault (h : Res [] [] R s) (ha : (outRec s o).act = .fault) : (outRec s o).resolved ≠ none := by
  intro e
  have hn := ((h.out o (by simp)).atNone e).2
  simp [ha] at hn

theorem res_outputReturned (h : Res [] [] R s) : Res [] [] R (outputReturned o s) := by
  unfold outputReturned
  split
  · rename_i hf
    have ha : (outRec s o).act = .fault := by
      simp only [Bool.and_eq_true, decide_eq_true_eq] at hf
      exact hf.1
    exact res_onOutput (res_newAttempt h ha (h.command_of_fault ha))
  · exact h

theorem res_outputsReturned {m : Nat} (h : Res [] [] R s) : Res [] [] R (outputsReturned m s) :=
  res_foldl (fun _ hu => res_outputReturned hu) h

theorem res_takeReadings {m : Nat} {bs : List Byte} (h : Res [] [] R s) : Res [] [] R (takeReadings m bs s) :=
  res_foldl (fun _ hu => res_ite (res_takeReading hu) (res_takeUnusable hu)) h

/-! ### Source changes and re-assertion (R95, R146) -/

/-- R95: whatever the fan was at, it waits; it must have a command. -/
theorem res_returnToWait (h : Res [] ps R s) (hr : (outRec s o).resolved ≠ none) : Res [] ps R (returnToWait o s) := by
  have hm := res_work (o := o) (f := fun r => { r with
    retried := false, busy := 0, origin := none, timer := none, clean := false,
    joinTime := some (r.joinTime.getD s.uptime), waitOpen := true }) h.working
  have hrec := outRec_modOut_same (o := o) (f := fun r => { r with
    retried := false, busy := 0, origin := none, timer := none, clean := false,
    joinTime := some (r.joinTime.getD s.uptime), waitOpen := true }) h.wf
  exact (res_dequeue hm (List.mem_singleton_self o)).setAct (.inr (.rest (fun hq => (inQueue_dequeue.1 hq).2 rfl)
    (by simp) (congrArg OutRec.timer hrec) (.inl fun e => hr ((congrArg OutRec.resolved hrec).symm.trans e))))

theorem kept_returnToWait {s : State} : Kept [o] s (returnToWait o s) :=
  kept_setAct (kept_dequeue (kept_modOut (.refl _ s))) (.mem (List.mem_singleton_self o))

theorem res_foldl_returnToWait {fs : List Nat} (h : Res [] ps R s) (hr : ∀ f ∈ fs, (outRec s f).resolved ≠ none) :
    Res [] ps R (fs.foldl (fun t f => returnToWait f t) s) := by
  induction fs generalizing s with
  | nil => exact h
  | cons f fs ih =>
    refine ih (res_returnToWait h (hr f List.mem_cons_self)) fun x hx => ?_
    rw [kept_returnToWait.resolved h.wf]
    exact hr x (List.mem_cons_of_mem f hx)

theorem command_of_returnable {r : OutRec} (h : returnable r = true) : r.resolved ≠ none := by
  intro e
  simp [returnable, e] at h

theorem res_restageBoard {b : Nat} (h : Res [] ps R s) : Res [] ps R (restageBoard b s) := by
  have hk : Kept [] s ((fansOn s b).foldl (fun t f => modOut f (fun r => { r with slot := none }) t) s) :=
    kept_foldl (fun _ hu => kept_modOut hu) (.refl _ s)
  refine res_foldl_returnToWait (res_foldl (fun _ hu => res_tidy hu) h) fun f hf => ?_
  rw [hk.resolved h.wf]
  exact command_of_returnable (List.mem_filter.1 hf).2

theorem res_examineAndWarn {b : Nat} (h : Res [] ps R s) : Res [] ps R (examineAndWarn b s) :=
  res_foldl (fun _ hu => res_warnHeld hu) (res_examine h)

theorem res_setBoardSource {b : Nat} {src : BoardSource} (h : Res [] ps R s) : Res [] ps R (setBoardSource b src s) :=
  h.of_eq rfl rfl rfl rfl rfl rfl rfl

theorem res_sourceChange {b : Nat} {src : BoardSource} (h : Res [] ps R s) : Res [] ps R (sourceChange b src s) :=
  res_examineAndWarn (res_raise (res_restageBoard (res_setBoardSource h)))

theorem res_replaceQueued (h : Res [] ps R s) : Res [] ps R (replaceQueued o s) := by
  unfold replaceQueued
  dsimp only
  split
  · rename_i c hc
    split
    · rename_i ha
      simp only [Bool.and_eq_true, decide_eq_true_eq] at ha
      exact res_onOutput (h.ready_dequeue ha.1.1 (by simp [hc])).place
    · exact h
  · exact h

theorem res_reassertOutput (h : Res [] ps R s) : Res [] ps R (reassertOutput o s) := by
  unfold reassertOutput
  dsimp only
  split
  · rename_i c hc
    split
    · rename_i ha
      simp only [Bool.and_eq_true, decide_eq_true_eq] at ha
      exact res_onOutput (h.ready (by simp [ha.1.1]) (by rw [ha.1.1]; rfl) (by simp [hc])).place
    · exact h
  · exact h

theorem res_reassert (h : Res [] ps R s) : Res [] ps R (reassert s) :=
  res_foldl (fun _ hu => res_reassertOutput hu) (res_foldl (fun _ hu => res_replaceQueued hu) h)

/-! ### The board and output records at a table write (R81, R99) -/

theorem res_boardWritten {b : Nat} (h : Res [] ps R s) : Res [] ps R (boardWritten b s) :=
  res_examineAndWarn (res_restageBoard h)

/-- A record made afresh, of an output that is out of the queue. -/
theorem res_remade (h : Res [o] ps R s) (hs : (f (outRec s o)).superseded ≤ 255) (ha : (f (outRec s o)).act = .unknown)
    (ht : (f (outRec s o)).timer = none) : Res [] ps R (modOut o f (dequeue o s)) :=
  (res_dequeue h (List.mem_singleton_self o)).modOut hs (.inr (.rest (fun hq => (inQueue_dequeue.1 hq).2 rfl)
    (by rw [show f (outRec (dequeue o s) o) = f (outRec s o) from rfl, ha]; decide) ht (.inr (.inr ha))))

theorem coldOutFor_fields (e : OutputEntry) :
    (coldOutFor e).superseded = 0 ∧ (coldOutFor e).act = .unknown ∧ (coldOutFor e).timer = none := by
  unfold coldOutFor
  split <;> exact ⟨rfl, rfl, rfl⟩

/-- R81, R99: the record of an output that is in mid-work unless its place is the same. -/
theorem res_rebuildRecord {old : OutputEntry} (h : Res [o] [] R s)
    (hs : samePlace old (outEntry s o) = true → Res [] [] R s) : Res [] [] R (rebuildRecord o old s) := by
  obtain ⟨hsup, hact, htim⟩ := coldOutFor_fields (outEntry s o)
  unfold rebuildRecord
  dsimp only
  split
  · exact res_remade h (by decide) rfl rfl
  split
  · exact res_recompute (res_remade (f := rebuiltRecord (outEntry s o)) h (by simp [rebuiltRecord, hsup]) hact htim)
  · rename_i hp
    have hres : Res [] [] R s := hs (by simpa using hp)
    have hslot := res_tidy hres (o := o) (f := fun r => { r with slot := none })
    have hrec := outRec_modOut_same (o := o) (f := fun r => { r with slot := none }) hres.wf
    split
    · split
      · rename_i hw
        refine res_returnToWait hslot ?_
        rw [hrec]
        rcases Bool.or_eq_true _ _ ▸ hw with hw | hw
        · exact command_of_returnable hw
        · exact ((hres.out o (by simp)).of_wait (by rw [beq_iff_eq.1 hw]; rfl)).2.2
      · exact hslot
    · exact hres

/-- The tables' outputs alone change. -/
theorem res_putOutputs {ws : List Nat} {m : Sparse OutputEntry} (h : Res ws ps R s) (hm : sparseWf blankOutput m = true)
    (hR : R s.run { s.tables with outputs := m }) : Res ws ps R { s with tables := { s.tables with outputs := m } } :=
  { h with run := hR, entries := hm, tables := ⟨h.tables.stepCounts, h.tables.link⟩ }

theorem outEntry_putOutput {new : OutputEntry} (h : Res [] ps R s) : outEntry (putOutput o new s) o = new := by
  have ht : ∀ u : State, u.tables = s.tables →
      outEntry { u with tables := { u.tables with outputs := sput blankOutput o new u.tables.outputs } } o = new :=
    fun u hu => sget_sput_same (by rw [hu]; exact h.entries)
  unfold putOutput
  dsimp only
  split
  · exact ht s rfl
  · exact ht _ (work_setAct (.refl s)).tables

theorem res_putOutput {ws : List Nat} {new : OutputEntry} (hR : ∀ r t m, R r t → R r { t with outputs := m })
    (h : Res ws ps R s) (ho : o ∈ ws ∨ samePlace (outEntry s o) new = true) : Res ws ps R (putOutput o new s) := by
  have ht : ∀ u, Res ws ps R u →
      Res ws ps R { u with tables := { u.tables with outputs := sput blankOutput o new u.tables.outputs } } :=
    fun u hu => res_putOutputs hu (sparseWf_sput hu.entries) (hR _ _ _ hu.run)
  unfold putOutput
  dsimp only
  split
  · exact ht _ h
  · rename_i hn
    exact ht _ ((h.mono (fun _ => List.mem_cons_of_mem o) fun _ => id).setAct (.inl (ho.resolve_right hn)))

/-- R81, R99: an output entry is written; `R` must not speak of the output entries. -/
theorem res_outputWritten {new : OutputEntry} (hR : ∀ r t m, R r t → R r { t with outputs := m }) (h : Res [] [] R s) :
    Res [] [] R (outputWritten o new s) := by
  have hw : Res [] [] R (rebuildRecord o (outEntry s o) (putOutput o new s)) := by
    refine res_rebuildRecord (res_putOutput hR h.working (.inl (List.mem_singleton_self o))) fun hs => ?_
    rw [outEntry_putOutput h] at hs
    exact res_putOutput hR h (.inr hs)
  have ho := res_onOutput (work := fun u => rebuildRecord o (outEntry s o) (putOutput o new u)) (s := s) (o := o) hw
  exact res_foldl (fun _ hu => res_examineAndWarn hu) (res_ite (res_recompute ho) ho)

end Sys2Proof.Machine
end

section
/-! The in-flight set, the cursor and the DELAY timer through the Scenario Runner and the Extract Monitor (O9). -/

namespace Sys2Proof.Machine

variable {ps : List Nat} {R R' : Run → Tables → Prop} {s t : State} {o x : Nat}

/-! ### The run context -/

/-- R36, R43: the in-flight set, the cursor and the DELAY timer of a run under these tables. -/
structure RunOk (r : Run) (t : Tables) : Prop where
  flight : r.inFlight.length ≤ r.cursor
  cursor : r.cursor ≤ (scenarioOf t r.scenario).stepCount
  once : (r.inFlight.map (fun i => (stepOf t i).output)).Nodup
  delay : r.delay.isSome = true → r.cursor < (scenarioOf t r.scenario).stepCount ∧
    (stepOf t ((scenarioOf t r.scenario).firstStep + r.cursor)).gate = 2
  idle : r.state = .idle → r.cursor = 0 ∧ r.inFlight = [] ∧ r.delay = none

/-- RunOk of a run that is on. -/
def OnRun (r : Run) (t : Tables) : Prop := RunOk r t ∧ r.state ≠ .idle

/-- The step at the cursor is to be issued. -/
def IssueDue (r : Run) (t : Tables) : Prop :=
  RunOk r t ∧ r.state ≠ .idle ∧ r.cursor < (scenarioOf t r.scenario).stepCount ∧ r.delay = none

/-- The step at the cursor has been issued, and the cursor has not yet passed it. -/
structure Issued (r : Run) (t : Tables) : Prop where
  on : r.state ≠ .idle
  flight : r.inFlight.length ≤ r.cursor + 1
  cursor : r.cursor < (scenarioOf t r.scenario).stepCount
  once : (r.inFlight.map (fun i => (stepOf t i).output)).Nodup
  delay : r.delay = none

/-- R49: the run ends; no step is in flight and no DELAY timer runs. -/
def Stopped (r : Run) (_ : Tables) : Prop := r.inFlight = [] ∧ r.delay = none

/-- A property of the run that the reports of the Resolver leave. -/
def Steady (R : Run → Tables → Prop) : Prop :=
  ∀ (r : Run) (t : Tables) (l fs : List Nat) (b d : Bool), l.Sublist r.inFlight → R r t →
    R { r with inFlight := l, faults := fs, overflow := b, degraded := d } t

theorem steady_runOk : Steady RunOk := by
  intro r t l fs b d hl h
  refine ⟨hl.length_le.trans h.flight, h.cursor, (hl.map _).nodup h.once, h.delay, fun e => ?_⟩
  obtain ⟨hc, hf, hd⟩ := h.idle e
  exact ⟨hc, List.sublist_nil.1 (hf ▸ hl), hd⟩

theorem steady_onRun : Steady OnRun := fun r t l fs b d hl h => ⟨steady_runOk r t l fs b d hl h.1, h.2⟩

theorem steady_issueDue : Steady IssueDue := fun r t l fs b d hl h => ⟨steady_runOk r t l fs b d hl h.1, h.2⟩

theorem steady_stopped : Steady Stopped := fun _ _ _ _ _ _ hl h => ⟨List.sublist_nil.1 (h.1 ▸ hl), h.2⟩

theorem IssueDue.issued {r : Run} {t : Tables} (h : IssueDue r t) : Issued r t :=
  ⟨h.2.1, Nat.le_succ_of_le h.1.flight, h.2.2.1, h.1.once, h.2.2.2⟩

theorem Issued.past {r : Run} {t : Tables} (h : Issued r t) : OnRun { r with cursor := r.cursor + 1 } t := by
  refine ⟨⟨h.flight, h.cursor, h.once, fun e => ?_, fun e => absurd e h.on⟩, h.on⟩
  have e : r.delay.isSome = true := e
  rw [h.delay] at e
  cases e

theorem Res.setRun (h : Res [] ps R s) {g : Run → Run} (hg : R' (g s.run) s.tables) : Res [] ps R' (setRun g s) :=
  { h with run := hg }

/-! ### Run faults, standbys and reports -/

theorem res_tellStandby (h : Res [] ps R s) : Res [] ps R (tellStandby o s) := res_foldl (fun _ hu => res_tellMonitor hu) h

theorem res_engageStandby {d : Nat} {c : Cmd} (h : Res [] ps R s) : Res [] ps R (engageStandby o d c s) :=
  res_tellStandby (res_raise (res_tidy (res_writeFire h)))

theorem res_substitute {code : FaultCode} (h : Res [] ps R s) : Res [] ps R (substitute o code s) := by
  unfold substitute
  dsimp only
  split
  · exact res_ite (res_ite (res_report h) (res_engageStandby h)) h
  · exact h

theorem res_standbyFaulted (h : Res [] ps R s) : Res [] ps R (standbyFaulted o s) := by
  unfold standbyFaulted
  split
  · exact res_report h
  · exact h

theorem res_recordRunFault (hR : Steady R) (h : Res [] ps R s) : Res [] ps R (recordRunFault o s) :=
  res_ite h (res_ite (h.setRun (hR _ _ _ _ _ _ (.refl _) h.run)) (h.setRun (hR _ _ _ _ _ _ (.refl _) h.run)))

theorem res_takeFault {code : FaultCode} (hR : Steady R) (h : Res [] ps R s) : Res [] ps R (takeFault o code s) :=
  res_ite (res_substitute (res_standbyFaulted (res_recordRunFault hR h))) h

theorem res_leaveFlight (hR : Steady R) (h : Res [] ps R s) : Res [] ps R (leaveFlight o s) :=
  h.setRun (hR _ _ _ _ _ _ List.filter_sublist h.run)

theorem res_takeReport {n : RunnerNotice} (hR : Steady R) (h : Res [] ps R s) : Res [] ps R (takeReport n s) := by
  have hl := res_leaveFlight hR h (o := reportedOutput n)
  cases n with
  | settled o => exact hl
  | fault o code => exact res_takeFault hR hl

theorem res_runnerIn {xs : List RunnerNotice} (h : Res [] ps R s) : Res [] ps R { s with runnerIn := xs } :=
  h.of_eq rfl rfl rfl rfl rfl rfl rfl

theorem res_takeReportsTimes {n : Nat} (hR : Steady R) (h : Res [] ps R s) : Res [] ps R (takeReportsTimes n s) := by
  induction n generalizing s with
  | zero => exact h
  | succ n ih =>
    unfold takeReportsTimes
    split
    · exact ih (res_takeReport hR (res_runnerIn h))
    · exact h

theorem res_takeReports (hR : Steady R) (h : Res [] ps R s) : Res [] ps R (takeReports s) := res_takeReportsTimes hR h

/-! ### Issue and advance -/

theorem res_followStep {c : Cmd} (h : Res [] ps R s) : Res [] ps R (followStep o c s) :=
  res_foldl (fun _ hu => res_ite (res_tellStandby (res_tidy (res_writeFire hu))) (res_writeFire hu)) h

theorem res_noted {i : Nat} (h : Res [] ps IssueDue s) : Res [] ps IssueDue (noted i s) :=
  h.setRun ⟨⟨h.run.1.flight, h.run.1.cursor, h.run.1.once, h.run.1.delay, h.run.1.idle⟩, h.run.2⟩

/-- R41: the step replaces an earlier one of its output, so no output is in flight twice. -/
theorem res_joinFlight {i : Nat} (h : Res [] ps IssueDue s) : Res [] ps Issued (joinFlight i s) := by
  have hsub : (s.run.inFlight.filter (fun k => (stepOf s.tables k).output != (stepOf s.tables i).output)).Sublist
    s.run.inFlight := List.filter_sublist
  rw [joinFlight_eq]
  refine h.setRun (R' := Issued) (g := fun r => { r with
    inFlight := (r.inFlight.filter fun k => (stepOf s.tables k).output != (stepOf s.tables i).output) ++ [i] })
    ⟨h.run.2.1, ?_, h.run.2.2.1, ?_, h.run.2.2.2⟩
  · rw [List.length_append]
    exact Nat.add_le_add_right (hsub.length_le.trans h.run.1.flight) 1
  · rw [List.map_append]
    refine List.nodup_append.2 ⟨(hsub.map _).nodup h.run.1.once, List.nodup_singleton _, fun a ha b hb e => ?_⟩
    obtain ⟨k, hk, rfl⟩ := List.mem_map.1 ha
    have hb : b = (stepOf s.tables i).output := List.mem_singleton.1 hb
    have hne := (List.mem_filter.1 hk).2
    rw [e, hb] at hne
    simp at hne

theorem res_placeStep {i n : Nat} {r : OutRec} (h : Res [] ps IssueDue s) : Res [] ps Issued (placeStep i n r s) := by
  have hi : ∀ {u}, Res [] ps IssueDue u → Res [] ps Issued u := fun hu => hu.imp IssueDue.issued
  unfold placeStep
  dsimp only
  split
  · exact hi h
  · exact hi (res_ite (res_takeReports steady_issueDue h) (res_takeFault steady_issueDue h))
  · exact res_joinFlight h

theorem res_issueStep {i : Nat} (h : Res [] ps IssueDue s) : Res [] ps Issued (issueStep i s) := by
  have hp : Res [] ps Issued (stepPlaced i s) := res_placeStep (res_writeFire (res_noted h))
  rw [issueStep_eq]
  split
  · exact res_followStep hp
  · exact hp

/-- R40: the cursor passes the issued step. -/
theorem res_issueAtCursor (h : Res [] ps IssueDue s) : Res [] ps OnRun (issueAtCursor s) := by
  have hi := res_issueStep h (i := (scenarioEntry s).firstStep + s.run.cursor)
  exact hi.setRun hi.run.past

theorem res_establish (h : Res [] ps OnRun s) : Res [] ps OnRun (establish s) := by
  have hs : Res [] ps OnRun (setRun (fun r => { r with state := .established, deadline := none }) s) :=
    h.setRun ⟨⟨h.run.1.flight, h.run.1.cursor, h.run.1.once, h.run.1.delay, fun e => by cases e⟩, fun e => by cases e⟩
  exact res_ite (res_tellMonitor (res_raise hs)) (res_raise hs)

theorem res_advanceTimes {n : Nat} (h : Res [] ps OnRun s) : Res [] ps OnRun (advanceTimes n s) := by
  induction n generalizing s with
  | zero => exact h
  | succ n ih =>
    have hr := res_takeReports steady_onRun h
    obtain ⟨hk, hon⟩ := hr.run
    unfold advanceTimes
    dsimp only
    split
    · exact res_ite (res_establish hr) hr
    rename_i hc
    have hc : (takeReports s).run.cursor < (scenarioEntry (takeReports s)).stepCount := not_le.1 hc
    split
    · rename_i hg
      refine res_ite hr (hr.setRun ⟨⟨hk.flight, hk.cursor, hk.once, fun _ => ⟨hc, hg⟩, fun e => absurd e hon⟩, hon⟩)
    · rename_i hg
      refine res_ite hr (ih (res_issueAtCursor (hr.imp fun _ => ⟨hk, hon, hc, ?_⟩)))
      cases hd : (takeReports s).run.delay with
      | none => rfl
      | some n => exact absurd (hk.delay (by simp [hd])).2 hg

theorem res_advance (h : Res [] ps RunOk s) : Res [] ps RunOk (advance s) := by
  unfold advance
  split
  · rename_i hf
    exact (res_advanceTimes (h.imp fun hk => ⟨hk, fireMode_iff.1 hf⟩)).imp And.left
  · exact h

theorem res_takeRunner {n : RunnerNotice} (h : Res [] ps RunOk s) : Res [] ps RunOk (takeRunner n s) :=
  res_ite (res_takeReport steady_runOk h) (res_advance (res_takeReport steady_runOk h))

/-! ### The run's timers, load, switch and end -/

theorem RunOk.due {r : Run} {t : Tables} (h : RunOk r t) (hd : r.delay.isSome = true) :
    IssueDue { r with delay := none } t := by
  have hs : r.state ≠ .idle := fun e => by simp [(h.idle e).2.2] at hd
  exact ⟨⟨h.flight, h.cursor, h.once, fun e => (by cases e), fun e => absurd e hs⟩, hs, (h.delay hd).1, rfl⟩

theorem res_delayExpired (h : Res [] ps RunOk s) (hd : s.run.delay.isSome = true) : Res [] ps RunOk (delayExpired s) :=
  res_advance ((res_issueAtCursor (h.setRun (h.run.due hd))).imp And.left)

theorem res_deadlineExpired (h : Res [] ps RunOk s) : Res [] ps RunOk (deadlineExpired s) := by
  have ht : Res [] ps RunOk (setRun (fun r => { r with late := true, deadline := none }) s) :=
    h.setRun ⟨h.run.flight, h.run.cursor, h.run.once, h.run.delay, h.run.idle⟩
  exact res_ite (res_report ht) (res_tellMonitor (res_report ht))

/-- A run at cursor 0 with nothing in flight and no DELAY timer. -/
theorem runOk_cleared {r : Run} {t : Tables} (hc : r.cursor = 0) (hf : r.inFlight = []) (hd : r.delay = none) :
    RunOk r t := by
  refine ⟨by simp [hf], by simp [hc], by simp [hf], fun e => ?_, fun _ => ⟨hc, hf, hd⟩⟩
  simp [hd] at e

theorem res_setWatches {g : List Watch → List Watch} (h : Res [] ps R s) : Res [] ps R (setWatches g s) :=
  h.of_eq rfl rfl rfl rfl rfl rfl rfl

theorem res_loadRun {test : Bool} {n : Nat} {served : List Nat} (h : Res [] ps RunOk s) :
    Res [] ps RunOk (loadRun test n served s) := by
  have ht : Res [] ps RunOk (loadSet test n served s) := h.setRun (runOk_cleared rfl rfl rfl)
  have hb := res_takeReports steady_runOk (res_beginFire (res_raise ht (ev := .runStart) (a := n)
    (b := served.getD 0 0 * 256 + served.getD 1 0)))
  exact res_advance (res_ite hb (res_setWatches hb))

theorem res_releaseFans {fs : List Nat} (h : Res [] ps R s) : Res [] ps R (releaseFans fs s) :=
  res_foldl (fun _ hu => res_tidy hu) h

theorem res_switchRun {n : Nat} {served : List Nat} (h : Res [] ps RunOk s) : Res [] ps RunOk (switchRun n served s) := by
  have hr := res_releaseFans (fs := (fans s).filter (releasedAtSwitch s n served)) h
  have hc := res_takeReports steady_runOk (res_changeLayers (w := fun _ r => { r with fire := none })
    (hr.nodup_configured.filter (clearedAtSwitch (releaseFans ((fans s).filter (releasedAtSwitch s n served)) s) n)) hr)
  have hs := res_raise (ev := .runSwitch) (a := n) (b := s.run.scenario) (hc.setRun (R' := RunOk) (g := fun r =>
    { r with
      state := .staging, scenario := n, served := served, cursor := 0, inFlight := [], lastIssued := [], delay := none,
      late := false, deadline := some (scenarioOf s.tables n).establish, stageStamp := some s.uptime })
    (runOk_cleared rfl rfl rfl))
  exact res_advance (res_ite hs (res_setWatches hs))

theorem res_endRun (h : Res [] ps RunOk s) : Res [] ps RunOk (endRun s) := by
  have hs : Res [] ps Stopped (stopping s) := h.setRun ⟨rfl, rfl⟩
  have hc := res_takeReports steady_stopped (res_endFire (res_releaseFans (fs := fans s) hs))
  have hr := res_raise hc (ev := .runEnd) (a := s.run.scenario)
    (b := (takeReports (endCleared s)).run.faults.length + if (takeReports (endCleared s)).run.overflow then 256 else 0)
  have hw := res_ite (c := s.run.test = true) hr (res_setWatches (g := fun _ => []) hr)
  exact hw.setRun (R' := RunOk) (g := fun r =>
    { r with state := .idle, scenario := 0, served := [], cursor := 0, test := false, late := false })
    (runOk_cleared rfl hw.run.1 hw.run.2)

theorem res_instructLoad {n : Nat} {served : List Nat} (h : Res [] ps RunOk s) :
    Res [] ps RunOk (instructLoad n served s) := res_ite (res_switchRun h) (res_loadRun h)

theorem res_instructSwitch {n : Nat} {served : List Nat} (h : Res [] ps RunOk s) :
    Res [] ps RunOk (instructSwitch n served s) := res_ite (res_switchRun h) (res_loadRun h)

theorem res_instructTest {n : Nat} (h : Res [] ps RunOk s) : Res [] ps RunOk (instructTest n s) :=
  res_ite h (res_loadRun h)

theorem res_instructEnd (h : Res [] ps RunOk s) : Res [] ps RunOk (instructEnd s) := res_ite (res_endRun h) h

theorem res_engageReserve {z : Nat} (h : Res [] ps R s) : Res [] ps R (engageReserve o z s) :=
  res_raise (res_tidy (res_writeFire h))

/-! ### The Extract Monitor -/

theorem res_modWatch {z : Nat} {g : Watch → Watch} (h : Res [] ps R s) : Res [] ps R (modWatch z g s) := res_setWatches h

theorem res_deficitEnds {z : Nat} (h : Res [] ps R s) : Res [] ps R (deficitEnds z s) := res_raise (res_modWatch h)

theorem res_exhaust {w : Watch} (h : Res [] ps R s) : Res [] ps R (exhaust w s) := res_raise (res_modWatch h)

theorem res_engageTimes {n z : Nat} (h : Res [] ps R s) : Res [] ps R (engageTimes n z s) := by
  induction n generalizing s with
  | zero => exact h
  | succ n ih =>
    unfold engageTimes
    split
    · exact h
    · rename_i w _
      have ht : Res [] ps R (tellMonitor (.testZone z) (modWatch z (fun w => { w with cursor := w.cursor + 1 }) s)) :=
        res_tellMonitor (res_modWatch h)
      have hu := res_engageReserve (o := reserveAt s w) (z := z) ht
      exact res_ite (res_exhaust h) (res_ite (ih ht) (res_ite (res_modWatch hu) (res_ite (res_deficitEnds hu) (ih hu))))

theorem res_engagementStep {z : Nat} (h : Res [] ps R s) : Res [] ps R (engagementStep z s) := res_engageTimes h

theorem res_deficitBegins {w : Watch} (h : Res [] ps R s) : Res [] ps R (deficitBegins w s) :=
  res_ite (res_engagementStep (res_raise (res_modWatch h))) (res_raise (res_modWatch h))

theorem res_deficitTest {z : Nat} (h : Res [] ps R s) : Res [] ps R (deficitTest z s) := by
  unfold deficitTest
  split
  · exact h
  · exact res_ite h (res_ite (res_ite (res_deficitEnds h) h) (res_ite (res_deficitBegins h) h))

theorem res_startWatching (h : Res [] ps R s) : Res [] ps R (startWatching s) :=
  res_foldl (fun _ hu => res_deficitTest hu) (res_setWatches h)

theorem res_reserveSettled (h : Res [] ps R s) : Res [] ps R (reserveSettled o s) := by
  unfold reserveSettled
  split
  · exact h
  · rename_i w _
    have ht : Res [] ps R (modWatch w.zone (fun w => { w with pending := none }) s) := res_modWatch h
    exact res_ite (res_ite (res_deficitEnds ht) (res_engagementStep ht)) ht

theorem res_takeMonitor {n : MonitorNotice} (h : Res [] ps R s) : Res [] ps R (takeMonitor n s) := by
  cases n with
  | startWatching => exact res_startWatching h
  | extractChanged f => exact res_foldl (fun _ hu => res_deficitTest hu) h
  | testZone z => exact res_deficitTest h
  | reserveOutcome f => exact res_reserveSettled h

theorem res_monitorIn {xs : List MonitorNotice} (h : Res [] ps R s) : Res [] ps R { s with monitorIn := xs } :=
  h.of_eq rfl rfl rfl rfl rfl rfl rfl

theorem res_drainTimes {n : Nat} (h : Res [] ps RunOk s) : Res [] ps RunOk (drainTimes n s) := by
  induction n generalizing s with
  | zero => exact h
  | succ n ih =>
    unfold drainTimes
    split
    · exact ih (res_takeRunner (res_runnerIn h))
    · split
      · exact ih (res_takeMonitor (res_monitorIn h))
      · exact h

theorem res_drain (h : Res [] ps RunOk s) : Res [] ps RunOk (drain s) := res_drainTimes h

end Sys2Proof.Machine
end

section
/-! The rings, the counts and the queue through the Plant Link Controller (O9). -/

namespace Sys2Proof.Machine

variable {ps : List Nat} {R : Run → Tables → Prop} {s t : State} {o m : Nat}

/-! ### Panel frames, the hold and the pacer -/

theorem res_setPanel {g : Panel → Panel} (h : Res [] ps R s) : Res [] ps R (setPanel g s) :=
  h.of_eq rfl rfl rfl rfl rfl rfl rfl

theorem res_sendReply {q : Requester} {r : Result} (h : Res [] ps R s) : Res [] ps R (sendReply q r s) := res_setPanel h

theorem res_sendFail {a b c : Nat} {r : FailReason} (h : Res [] ps R s) : Res [] ps R (sendFail a b c r s) :=
  res_setPanel h

/-- A change of the Controller's exchange, pacer, cursors, tag, forward queue, hold or error counts. -/
theorem Res.link (h : Res [] ps R s) {g : Plant → Plant}
    (hg : (g s.plant).modules = s.plant.modules ∧ (g s.plant).fastRing = s.plant.fastRing ∧
      (g s.plant).slowRing = s.plant.slowRing ∧ (g s.plant).fastCount = s.plant.fastCount ∧
      (g s.plant).burst = s.plant.burst := by exact ⟨rfl, rfl, rfl, rfl, rfl⟩) : Res [] ps R (Machine.setPlant g s) := by
  obtain ⟨hm, hf, hs, hc, hb⟩ := hg
  have hp := h.plant
  exact h.setPlant ⟨hm ▸ hp.wf, hf ▸ hp.fastRing, hs ▸ hp.slowRing, hm ▸ hp.misses, hc ▸ hp.fastCount, hb ▸ hp.burst⟩

theorem res_setHold {g : Hold → Hold} (h : Res [] ps R s) : Res [] ps R (setHold g s) := h.link

theorem res_startPacer (h : Res [] ps R s) : Res [] ps R (startPacer s) := h.link

theorem res_nextTag (h : Res [] ps R s) : Res [] ps R (nextTag s) := h.link

theorem res_beginExchange {k : ExchangeKind} {f : Frame} (h : Res [] ps R s) : Res [] ps R (beginExchange k f s) := h.link

theorem res_endExchange (h : Res [] ps R s) : Res [] ps R (endExchange s) := h.link

theorem res_countError (h : Res [] ps R s) : Res [] ps R (countError s) := h.link

theorem res_countStray (h : Res [] ps R s) : Res [] ps R (countStray s) := h.link

/-- R129: each module that an output names is once in the slow ring. -/
theorem res_buildSlowRing (h : Res [] ps R s) : Res [] ps R (buildSlowRing s) :=
  h.setPlant { h.plant with slowRing := (sortBy_perm _).nodup_iff.2 (List.nodup_dedup _) }

/-! ### Grants of the arbiter -/

/-- R67: the head of the queue is sent. -/
theorem res_grantCommand (h : Res [] [] R s) : Res [] [] R (grantCommand s) := by
  unfold grantCommand
  split
  · exact h
  · rename_i o c rest hq
    have ho : inQueue s o := by simp [inQueue, hq]
    have hO := h.out o (by simp)
    have ha : (outRec s o).act = .queued := hO.queued.1 ho
    have hnodup := h.queueOnce
    rw [hq, List.map_cons, List.nodup_cons] at hnodup
    have hrest : Res [o] [] R (setQueue (fun _ => rest) s) := by
      refine { h with queueOnce := hnodup.2, out := fun x hx => ?_ }
      have hx : x ≠ o := by simpa using hx
      have hi : inQueue (setQueue (fun _ => rest) s) x ↔ inQueue s x := by
        simp [inQueue, setQueue, hq, hx]
      have hX := h.out x (by simp)
      exact ⟨hi.trans hX.queued, hX.timer, hX.atNone⟩
    have hr : (outRec s o).resolved ≠ none := fun e => by
      have hn := (hO.atNone e).2
      simp [ha] at hn
    have ht : (outRec s o).timer = none := hO.timer_eq_none (by rw [ha]; rfl)
    have hy : Ready [] R o (setQueue (fun _ => rest) s) := ⟨hrest, hnodup.1, ht, hr⟩
    have hs := (hy.tidy (f := fun r => { r with lastSent := some c }) fun _ => ⟨rfl, rfl, .inl rfl, rfl⟩).setAct
      (a := .sent) (by simp)
    exact res_nextTag (res_beginExchange (res_onOutput hs))

/-- R138: a poll leaves the rings, and the fast count within its range. -/
theorem plantOk_choosePoll {p : Plant} (h : Res [] ps R s) (he : choosePoll s = some (m, p)) : PlantOk p := by
  have hl := h.tables.link.2.1
  unfold choosePoll at he
  dsimp only at he
  split at he
  · split at he
    · rename_i hc
      cases he
      exact { h.plant with fastCount := (Nat.succ_le_of_lt hc).trans hl }
    · split at he <;> cases he
      · exact { h.plant with fastCount := Nat.zero_le _ }
      · exact { h.plant with fastCount := Nat.one_le_ofNat }
  · cases he
    exact { h.plant with fastCount := Nat.zero_le _ }
  · cases he

theorem res_grantPoll (h : Res [] ps R s) : Res [] ps R (grantPoll s) := by
  unfold grantPoll
  split
  · exact h
  · rename_i m p he
    exact res_nextTag (res_beginExchange (res_startPacer (h.setPlant (plantOk_choosePoll h he))))

theorem res_grantForward (h : Res [] ps R s) : Res [] ps R (grantForward s) := by
  unfold grantForward
  split
  · exact h
  · exact res_beginExchange h.link

theorem res_setBurst {n : Nat} (h : Res [] ps R s) (hn : n ≤ 16) : Res [] ps R (setBurst n s) :=
  h.setPlant { h.plant with burst := hn }

/-- R139: the burst count rises only below the burst limit. -/
theorem res_arbitrate (h : Res [] [] R s) : Res [] [] R (arbitrate s) := by
  have hl := h.tables.link.2.2
  have h0 := res_setBurst h (Nat.zero_le 16)
  unfold arbitrate
  split
  · exact h
  split
  · exact res_grantPoll h0
  rename_i hb
  split
  · refine res_grantCommand (res_setBurst h ?_)
    split
    · rename_i hp
      have hb : ¬ s.tables.link.burstLimit ≤ s.plant.burst := by simpa [hp] using hb
      omega
    · exact Nat.zero_le _
  · exact res_ite (res_grantPoll h0) (res_grantForward h)

/-! ### Module states -/

/-- The record of module `m` is being written: nothing else of what the invariant speaks of has moved. -/
structure Counting (m : Nat) (s t : State) : Prop where
  run : t.run = s.run
  tables : t.tables = s.tables
  nv : t.nv = s.nv
  nvWrite : t.nvWrite = s.nvWrite
  outs : t.outs = s.outs
  queue : t.queue = s.queue
  plant : t.plant = { s.plant with modules := t.plant.modules }
  wf : sparseWf coldModule s.plant.modules = true → sparseWf coldModule t.plant.modules = true
  others : ∀ x, x ≠ m → moduleRec t x = moduleRec s x

theorem Counting.refl (m : Nat) (s : State) : Counting m s s := ⟨rfl, rfl, rfl, rfl, rfl, rfl, rfl, id, fun _ _ => rfl⟩

theorem Counting.setModule (c : Counting m s t) {r : ModuleRec} : Counting m s (setModule m r t) :=
  { c with
    plant := by rw [setModule_plant, c.plant]
    wf := fun h => sparseWf_sput (c.wf h)
    others := fun x hx => (sget_sput_other hx).trans (c.others x hx) }

theorem Counting.raise (c : Counting m s t) {ev : Ev} {a b : Nat} : Counting m s (raise ev a b t) := by
  have hc := captures_raise ev a b t
  have hw := work_raise (.refl t) (ev := ev) (a := a) (b := b)
  refine ⟨hc.run.trans c.run, hc.tables.trans c.tables, hw.nv.trans c.nv, hw.nvWrite.trans c.nvWrite,
    hc.outs.trans c.outs, hc.queue.trans c.queue, ?_, ?_, fun x hx => ?_⟩
  · rw [hc.plant]
    exact c.plant
  · rw [hc.plant]
    exact c.wf
  · rw [moduleRec, hc.plant]
    exact c.others x hx

/-- R134: the record is within its ranges when it has been written. -/
theorem Res.counted (h : Res [] ps R s) (c : Counting m s t) (h4 : (moduleRec t m).misses ≤ 4)
    (h3 : (moduleRec t m).state ≠ .missing → (moduleRec t m).misses ≤ 3) : Res [] ps R t := by
  refine h.of_plant c.run c.tables c.nv c.nvWrite c.outs c.queue ⟨c.wf h.plant.wf, ?_, ?_, fun x => ?_, ?_, ?_⟩
  case refine_3 =>
    by_cases hx : x = m
    · exact hx ▸ ⟨h4, h3⟩
    · have hm := h.plant.misses x
      rwa [← show moduleRec t x = sget coldModule s.plant.modules x from c.others x hx] at hm
  all_goals rw [c.plant]
  · exact h.plant.fastRing
  · exact h.plant.slowRing
  · exact h.plant.fastCount
  · exact h.plant.burst

theorem moduleRec_setModule (hw : sparseWf coldModule s.plant.modules = true) {r : ModuleRec} :
    moduleRec (setModule m r s) m = r := sget_sput_same hw

theorem res_clearMisses_of (h : Res [] ps R s) (c : Counting m s t) : Res [] ps R (clearMisses m t) := by
  have hr : (moduleRec (clearMisses m t) m).misses = 0 :=
    congrArg ModuleRec.misses (moduleRec_setModule (c.wf h.plant.wf) (r := { moduleRec t m with misses := 0 }))
  exact h.counted c.setModule (hr.trans_le (Nat.zero_le _)) fun _ => hr.trans_le (Nat.zero_le _)

theorem res_clearMisses (h : Res [] ps R s) : Res [] ps R (clearMisses m s) := res_clearMisses_of h (.refl m s)

/-- R135: a module becomes MISSING; its miss count may have risen to 4. -/
theorem res_moduleMissing (h : Res [] [] R s) (c : Counting m s t) (h4 : (moduleRec t m).misses ≤ 4) :
    Res [] [] R (moduleMissing m t) := by
  have hr := moduleRec_setModule (m := m) (c.wf h.plant.wf)
    (r := { moduleRec t m with state := .missing, missingStamp := some t.uptime })
  exact res_outputsLost (res_raise (h.counted c.setModule (by rw [hr]; exact h4) fun e => absurd (by rw [hr]) e))

theorem res_pollMissed (h : Res [] [] R s) : Res [] [] R (pollMissed m s) := by
  have h3 := (h.plant.misses m).2
  have hl := h.tables.link.1
  have hr := fun r => moduleRec_setModule (m := m) h.plant.wf (r := r)
  unfold pollMissed
  dsimp only
  split
  · exact h
  rename_i hs
  have h3 : (moduleRec s m).misses ≤ 3 := h3 hs
  split
  · exact res_moduleMissing h (Counting.refl m s).setModule (by rw [hr]; exact Nat.succ_le_succ h3)
  · refine h.counted (Counting.refl m s).setModule ?_ fun _ => ?_ <;> rw [hr] <;> dsimp only <;> omega

theorem counting_modulePresent (m : Nat) (s : State) : Counting m s (modulePresent m s) := by
  have c := (Counting.refl m s).setModule (r := { moduleRec s m with state := .present, missingStamp := none })
  unfold modulePresent
  dsimp only
  split
  · exact c.raise
  · exact c

/-- R133: a module is PRESENT and its miss count cleared before its readings are taken. -/
theorem res_stateDecoded {bs : List Byte} (h : Res [] [] R s) : Res [] [] R (stateDecoded m bs s) := by
  have hp := res_takeReadings (m := m) (bs := bs) (res_clearMisses_of h (counting_modulePresent m s))
  exact res_ite (res_outputsReturned hp) hp

/-! ### Endings of an exchange, the forward queue and the hold -/

theorem res_commandAnswered {a : Ack} (h : Res [] [] R s) : Res [] [] R (commandAnswered o m a s) :=
  res_exchangeEnded (res_clearMisses (res_endExchange h))

theorem res_pollAnswered {bs : List Byte} (h : Res [] [] R s) : Res [] [] R (pollAnswered m bs s) :=
  res_stateDecoded (res_endExchange h)

theorem res_forwardAnswered {x : Exchange} {a b c k : Nat} {p : List Byte} (h : Res [] [] R s) :
    Res [] [] R (forwardAnswered x a b c k p s) :=
  res_setPanel (res_ite (res_stateDecoded (res_endExchange h))
    (res_ite (res_clearMisses (res_endExchange h)) (res_endExchange h)))

theorem res_windowExpired {x : Exchange} (h : Res [] [] R s) : Res [] [] R (windowExpired x s) := by
  unfold windowExpired
  split
  · exact res_ite h.link
      (res_moduleMissing (res_endExchange h) (.refl _ _) ((res_endExchange h).plant.misses _).1)
  · exact res_pollMissed (res_endExchange h)
  · exact res_sendFail (res_endExchange h)

theorem res_offerForward {e : ForwardEntry} (h : Res [] ps R s) : Res [] ps R (offerForward e s) :=
  res_ite (res_sendFail h) (res_ite (res_sendFail h) h.link)

theorem res_refuseEntries {es : List ForwardEntry} {r : FailReason} (h : Res [] ps R s) :
    Res [] ps R (refuseEntries es r s) := res_foldl (fun _ hu => res_sendFail hu) h

theorem res_answerAsk {r : Result} (h : Res [] ps R s) : Res [] ps R (answerAsk r s) := by
  unfold answerAsk
  split
  · exact res_sendReply (res_setHold h)
  · exact h

theorem res_grantHold (h : Res [] ps R s) : Res [] ps R (grantHold s) :=
  res_answerAsk (res_raise (res_refuseEntries h.link))

theorem res_freeHold (h : Res [] ps R s) : Res [] ps R (freeHold s) :=
  res_reassert (res_raise (res_refuseEntries h.link))

theorem res_holdProgress (h : Res [] ps R s) : Res [] ps R (holdProgress s) := by
  unfold holdProgress
  split
  · exact h
  split
  · exact res_grantHold h
  · exact res_freeHold h
  · exact h

theorem res_releaseHold {r : ReleaseReason} (h : Res [] ps R s) : Res [] ps R (releaseHold r s) := res_setHold h

theorem res_refuseHold (h : Res [] ps R s) : Res [] ps R (refuseHold s) := res_answerAsk (res_setHold h)

theorem res_revokeHold (h : Res [] ps R s) : Res [] ps R (revokeHold s) := by
  unfold revokeHold
  split
  · exact res_refuseHold h
  · exact res_holdProgress (res_releaseHold h)
  · exact h

theorem res_endStep (h : Res [] [] RunOk s) : Res [] [] RunOk (endStep s) :=
  res_drain (res_arbitrate (res_drain (res_holdProgress (res_drain h))))

end Sys2Proof.Machine
end

section
/-! The invariant of O9 through Zone Intake, the Scenario Selector, the Firefighter Control Unit and the two links' frames. -/

namespace Sys2Proof.Machine

variable {s t : State} {o z : Nat} {R : Run → Tables → Prop}

/-! ### Zone Intake -/

theorem res_setZone {r : ZoneRec} (h : Res [] [] R s) : Res [] [] R (setZone z r s) :=
  h.of_eq rfl rfl rfl rfl rfl rfl rfl

theorem res_selector {x : List SelectorNotice} (h : Res [] [] R s) : Res [] [] R { s with selector := x } :=
  h.of_eq rfl rfl rfl rfl rfl rfl rfl

theorem res_unmapped {a b : Nat} (h : Res [] [] R s) : Res [] [] R (unmapped a b s) := res_raise h

theorem res_tellConfirmed (h : Res [] [] R s) : Res [] [] R (tellConfirmed z s) :=
  res_ite (res_selector (res_revokeHold h)) (res_revokeHold h)

theorem res_tellReset (h : Res [] [] R s) : Res [] [] R (tellReset z s) := res_ite (res_selector h) h

theorem res_confirmZone {a : AlarmSource} {set : List AlarmSource} (h : Res [] [] R s) :
    Res [] [] R (confirmZone z a set s) := res_tellConfirmed (res_raise (res_setZone h))

theorem res_alarmArrival {a : AlarmSource} (h : Res [] [] R s) : Res [] [] R (alarmArrival z a s) := by
  unfold alarmArrival
  dsimp only
  split
  case h_5 => exact res_ite (res_confirmZone h) (res_raise (res_setZone h))
  case h_6 => exact res_ite (res_confirmZone h) (res_setZone h)
  all_goals exact res_setZone h

theorem res_zoneEventTaken {a c : Nat} (h : Res [] [] R s) : Res [] [] R (zoneEventTaken z a c s) := by
  unfold zoneEventTaken
  split
  · exact res_ite (res_alarmArrival h) (res_unmapped h)
  · exact res_unmapped h

theorem res_zoneResetTaken (h : Res [] [] R s) : Res [] [] R (zoneResetTaken z s) :=
  res_ite (res_unmapped h) (res_ite (res_raise (res_setZone h))
    (res_ite (res_tellReset (res_raise (res_setZone h))) (res_raise (res_setZone h))))

theorem res_zoneRequest {w : ZoneState} {ev : Ev} {d : Nat} (h : Res [] [] R s) :
    Res [] [] R (zoneRequest z w ev d s).1 := by
  unfold zoneRequest
  dsimp only
  split
  · exact h
  split
  · exact h
  · exact res_raise (res_setZone h)

theorem res_isolateZone (h : Res [] [] R s) : Res [] [] R (isolateZone z s).1 := by
  unfold isolateZone
  dsimp only
  have hi : Res [] [] R (raise .zoneIsolated z (zoneRec s z).sources.length
      (setZone z { zoneRec s z with state := .isolated, sources := [], held := false } s)) := res_raise (res_setZone h)
  split
  case h_1 | h_2 => exact hi
  all_goals exact h

theorem res_deisolateZone (h : Res [] [] R s) : Res [] [] R (deisolateZone z s) :=
  res_ite h (res_ite (res_tellConfirmed (res_raise (res_raise (res_setZone h))))
    (res_ite (res_raise (res_raise (res_setZone h))) (res_raise (res_setZone h))))

theorem res_reevaluateZone (h : Res [] [] R s) : Res [] [] R (reevaluateZone z s) :=
  res_ite (res_ite h (res_raise (res_setZone h))) (res_ite (res_raise (res_setZone h)) h)

theorem res_reevaluateZones (h : Res [] [] R s) : Res [] [] R (reevaluateZones s) :=
  res_foldl (fun _ hu => res_tellConfirmed hu) (res_foldl (fun _ hu => res_reevaluateZone hu) h)

/-! ### The Scenario Selector -/

theorem res_takeIntakes {as : List IntakeArrival} (h : Res [] [] R s) :
    Res [] [] R (as.foldl (fun t a => takeIntake a t) s) := by
  refine res_foldl (fun a hu => ?_) h
  cases a with
  | event z a c => exact res_zoneEventTaken hu
  | reset z => exact res_zoneResetTaken hu

variable {p : Placing}

theorem res_takeGroup (h : Res [] [] R p.state) : Res [] [] R (takeGroup p).state := by
  unfold takeGroup
  split
  · exact h
  · exact res_takeIntakes h

theorem res_askActive {n : Nat} {zs : List Nat} (h : Res [] [] R p.state) : Res [] [] R (askActive n zs p).1.state := by
  induction zs generalizing p with
  | nil => exact h
  | cons z zs ih =>
    have hz := res_zoneRequest (z := z) (w := .active) (ev := .zoneActive) (d := n) (res_takeGroup h)
    unfold askActive
    dsimp only
    split <;> rename_i u he <;> rw [he] at hz
    · exact ih (p := { takeGroup p with made := (takeGroup p).made ++ [z], state := u }) hz
    · exact hz

theorem res_askSecondary {zs : List Nat} (h : Res [] [] R p.state) : Res [] [] R (askSecondary zs p).state := by
  induction zs generalizing p with
  | nil => exact h
  | cons z zs ih =>
    exact ih (p := { takeGroup p with
      state := (zoneRequest z .secondary .zoneSecondary 0 (takeGroup p).state).1 }) (res_zoneRequest (res_takeGroup h))

theorem res_instruct {zs : List Nat} {n : Nat} (h : Res [] [] RunOk s) : Res [] [] RunOk (instruct zs n s) :=
  res_ite (res_ite h (res_instructLoad h)) (res_ite (res_instructEnd h) (res_ite h (res_instructSwitch h)))

theorem res_decisionTimes {n : Nat} (h : Res [] [] RunOk p.state) : Res [] [] RunOk (decisionTimes n p).state := by
  induction n generalizing p with
  | zero => exact h
  | succ n ih =>
    have ha := res_askActive (n := (newServed p.state p.made (waitingSet p.state p.made)).2)
      (zs := (newServed p.state p.made (waitingSet p.state p.made)).1.filter
        (fun z => (zoneRec p.state z).state != .active)) h
    unfold decisionTimes
    dsimp only
    split <;> rename_i q he <;> rw [he] at ha
    · exact ih (res_takeGroup ha)
    · exact res_instruct (res_takeIntakes (res_askSecondary ha))

theorem res_placementDecision {during : List (List IntakeArrival)} (h : Res [] [] RunOk s) :
    Res [] [] RunOk (placementDecision during s) := res_decisionTimes (p := { during := during, made := [], state := s }) h

/-! ### The Firefighter Control Unit -/

theorem res_setFf {g : FfUnit → FfUnit} (h : Res [] [] R s) : Res [] [] R (setFf g s) :=
  h.of_eq rfl rfl rfl rfl rfl rfl rfl

theorem res_handFf (h : Res [] [] R s) : Res [] [] R (handFf s) :=
  res_changeLayers (h.nodup_configured.filter _) h

theorem res_superviseFrame (h : Res [] [] R s) : Res [] [] R (superviseFrame s) := by
  unfold superviseFrame
  dsimp only
  split
  · exact res_raise (res_setFf h)
  · exact res_setFf h
  · exact res_raise (res_setFf h)

theorem res_takeAllStop {b : Bool} (h : Res [] [] R s) : Res [] [] R (takeAllStop b s) :=
  res_ite h (res_ite (res_raise (res_setFf h)) (res_raise (res_setFf h)))

theorem res_takeSwitch {a b c : Nat} (h : Res [] [] R s) : Res [] [] R (takeSwitch a b c s) := by
  have hu : Res [] [] R (unmapped b c s) := res_unmapped h
  refine res_ite ?_ (res_ite ?_ hu)
  · split
    · exact res_ite (res_ite h (res_setFf h)) hu
    · exact hu
  · split
    · exact res_ite (res_ite h (res_setFf h)) hu
    · exact hu

theorem res_takeSwitches {bs : List Byte} (h : Res [] [] R s) : Res [] [] R (takeSwitches bs s) := by
  induction bs, s using takeSwitches.induct with
  | case1 s a b c rest ih => exact ih (res_takeSwitch h)
  | case2 s bs hn =>
    unfold takeSwitches
    split
    · exact absurd rfl (hn _ _ _ _)
    · exact h

theorem res_takeFfContent {bs : List Byte} (h : Res [] [] R s) : Res [] [] R (takeFfContent bs s) := by
  unfold takeFfContent
  split
  · exact res_unmapped h
  · exact res_ite (res_unmapped h) (res_handFf (res_takeSwitches (res_takeAllStop h)))

theorem res_ffStateTaken {a : Nat} {bs : List Byte} (h : Res [] [] R s) : Res [] [] R (ffStateTaken a bs s) :=
  res_takeFfContent (res_ite (res_superviseFrame h) h)

theorem res_panelLost (h : Res [] [] R s) : Res [] [] R (panelLost s) := res_raise (res_setFf h)

theorem res_ffEntryWritten (h : Res [] [] R s) : Res [] [] R (ffEntryWritten o s) := res_handFf (res_setFf h)

/-! ### The panel link -/

theorem res_useFree (h : Res [] [] R s) : Res [] [] R (useFree s) := h.of_eq rfl rfl rfl rfl rfl rfl rfl

theorem res_unmappedOpen {a b : Option Nat} (h : Res [] [] R s) : Res [] [] R (unmappedOpen a b s) :=
  res_unmapped (res_useFree (res_useFree h))

theorem res_supplyStateTaken {b n : Nat} (h : Res [] [] R s) : Res [] [] R (supplyStateTaken b n s) := by
  unfold supplyStateTaken
  split
  · exact res_ite (res_ite h (res_sourceChange h)) (res_unmappedOpen h)
  · exact res_unmappedOpen h

theorem res_readBld {bs : List Byte} {acc : List (Nat × Option Cmd)} (h : Res [] [] R s) :
    Res [] [] R (readBld bs acc s).2 := by
  induction bs, acc, s using readBld.induct with
  | case1 s acc a b rest hf ih =>
    rw [readBld, if_pos hf]
    exact ih h
  | case2 s acc a b rest hf ih =>
    rw [readBld, if_neg hf]
    exact ih (res_unmapped h)
  | case3 s acc bs hn =>
    unfold readBld
    split
    · exact absurd rfl (hn _ _ _)
    · exact h

theorem res_bldCmdTaken {a : Nat} {bs : List Byte} (h : Res [] [] R s) : Res [] [] R (bldCmdTaken a bs s) :=
  res_ite (res_unmapped h) (res_changeLayers (h.nodup_configured.filter _) (res_readBld h))

theorem res_takeArrival {f : Frame} (h : Res [] [] RunOk s) : Res [] [] RunOk (takeArrival f s) :=
  res_ite (res_ite (res_endStep (res_zoneEventTaken h)) (res_unmappedOpen h))
    (res_ite (res_ite (res_zoneResetTaken h) (res_unmappedOpen h))
      (res_ite (res_ite (res_endStep (res_supplyStateTaken h)) (res_unmappedOpen h))
        (res_ite (res_endStep (res_ffStateTaken h)) (res_endStep (res_bldCmdTaken h)))))

theorem res_mapFrame {f : Frame} (h : Res [] [] R s) : Res [] [] R (mapFrame f s) := by
  unfold mapFrame
  split
  · exact res_sendFail h
  · split
    · exact res_sendFail h
    · exact res_offerForward h

theorem res_candidateTaken {f : Frame} (h : Res [] [] RunOk s) : Res [] [] RunOk (candidateTaken f s) :=
  res_ite h (res_ite (res_unmapped h) (res_endStep (res_mapFrame h)))

theorem res_joinInbound {f : Frame} (h : Res [] [] R s) : Res [] [] R (joinInbound f s) := res_setPanel h

theorem res_sortFrame {f : Frame} (h : Res [] [] RunOk s) : Res [] [] RunOk (sortFrame f s) :=
  res_ite h (res_ite (res_candidateTaken h) (res_ite (res_joinInbound h) (res_ite (res_takeArrival h) (res_unmapped h))))

theorem res_panelBytes {bs : List Byte} (h : Res [] [] RunOk s) : Res [] [] RunOk (panelBytes bs s) := by
  unfold panelBytes
  split
  · exact h
  · exact res_setPanel h
  · exact res_sortFrame h

theorem res_headSent (h : Res [] [] R s) : Res [] [] R (headSent s) := by
  unfold headSent
  split
  · exact h
  · rename_i q rest _
    have hp : Res [] [] R (setPanel (fun p => { p with outbound := rest }) s) := res_setPanel h
    unfold afterSent
    split
    · exact hp
    · exact res_ite (res_setPanel hp) hp
    · exact hp.of_eq rfl rfl rfl rfl rfl rfl rfl

/-! ### The plant link's receiver -/

theorem res_takeReply {x : Exchange} {k : Nat} {bs : List Byte} (h : Res [] [] RunOk s) :
    Res [] [] RunOk (takeReply x k bs s) := by
  refine res_ite (res_countError h) ?_
  split
  · split
    · exact res_endStep (res_commandAnswered h)
    · exact res_countError h
  · exact res_endStep (res_pollAnswered h)
  · exact res_endStep (res_forwardAnswered h)

theorem res_plantBytes {bs : List Byte} (h : Res [] [] RunOk s) : Res [] [] RunOk (plantBytes bs s) := by
  unfold plantBytes
  split
  · exact h
  · exact res_countError h
  · split
    · exact res_countStray h
    · exact res_ite (res_takeReply h) (res_countStray h)

theorem res_sendComplete (h : Res [] [] R s) : Res [] [] R (sendComplete s) := by
  unfold sendComplete
  split
  · exact res_ite h.link h
  · exact h

theorem res_ackTaken {n : Nat} (h : Res [] [] RunOk s) : Res [] [] RunOk (ackTaken n s) := by
  unfold ackTaken
  split
  · split
    · exact res_endStep (res_commandAnswered h)
    · exact res_countError h
  · exact res_countStray h

theorem res_stateTaken {bs : List Byte} (h : Res [] [] RunOk s) : Res [] [] RunOk (stateTaken bs s) := by
  unfold stateTaken
  split
  · exact res_ite (res_endStep (res_pollAnswered h)) (res_countError h)
  · exact res_countStray h

theorem res_forwardTaken {k : Nat} {bs : List Byte} (h : Res [] [] RunOk s) : Res [] [] RunOk (forwardTaken k bs s) := by
  unfold forwardTaken
  split
  · split
    · exact res_ite (res_countError h) (res_endStep (res_forwardAnswered h))
    · exact res_countStray h
  · exact res_countStray h

theorem res_forwardWaited {n : Nat} (h : Res [] [] RunOk s) : Res [] [] RunOk (forwardWaited n s) := by
  unfold forwardWaited
  split
  · exact res_endStep (res_sendFail h.link)
  · exact h

end Sys2Proof.Machine
end

section
/-! The invariant of O9 through the tables, the starts and the requests, and O9 itself. -/

namespace Sys2Proof.Machine

variable {s t : State} {R : Run → Tables → Prop}

/-! ### Table entries in their ranges -/

/-- R173, check 6: each field lies in its own intervals. -/
theorem inIntervals_of_allInRange {rs : List (List (Nat × Nat))} {fs : List Nat} (h : allInRange rs fs = true) (k : Nat)
    (hk : k < rs.length) : inIntervals (rs.getD k []) (fs.getD k 0) = true := by
  induction rs generalizing fs k with
  | nil => cases hk
  | cons r rs ih =>
    cases fs with
    | nil => cases h
    | cons f fs =>
      obtain ⟨hf, hrest⟩ := (Bool.and_eq_true _ _).mp h
      cases k with
      | zero => exact hf
      | succ k => exact ih hrest k (Nat.lt_of_succ_lt_succ hk)

/-- R128: the ranges of the link record that bound counts. -/
def LinkInRange (l : LinkRecord) : Prop := l.retryLimit ≤ 3 ∧ l.fastPerSlow ≤ 8 ∧ l.burstLimit ≤ 16

theorem stepCount_of_fieldsInRange {f : List Nat} (h : fieldsInRange .scenario f = true) :
    (scenarioOfFields f).stepCount ≤ 48 := by
  have h1 := inIntervals_of_allInRange h 1 (by decide)
  simp only [fieldRanges, inIntervals, List.getD_cons_succ, List.getD_cons_zero, List.any_cons, List.any_nil,
    Bool.or_false, Bool.and_eq_true, decide_eq_true_eq] at h1
  exact h1.2

theorem linkInRange_of_fieldsInRange {f : List Nat} (h : fieldsInRange .link f = true) : LinkInRange (linkOfFields f) := by
  have h7 := inIntervals_of_allInRange h 7 (by decide)
  have h8 := inIntervals_of_allInRange h 8 (by decide)
  have h10 := inIntervals_of_allInRange h 10 (by decide)
  simp only [fieldRanges, inIntervals, List.getD_cons_succ, List.getD_cons_zero, List.any_cons, List.any_nil,
    Bool.or_false, Bool.and_eq_true, decide_eq_true_eq] at h7 h8 h10
  exact ⟨h10.2, h7.2, h8.2⟩

variable {r : EntryRef} {f : List Nat} {tb : Tables}

theorem tablesInRange_putEntry (h : TablesInRange tb) (hs : r.table = .scenario → (scenarioOfFields f).stepCount ≤ 48)
    (hl : r.table = .link → LinkInRange (linkOfFields f)) : TablesInRange (putEntry r f tb) := by
  unfold putEntry
  split
  case h_3 e =>
    refine ⟨fun p hp => ?_, h.link⟩
    rcases mem_sput hp with rfl | hp
    · exact hs e
    · exact h.stepCounts p hp
  case h_8 e => exact ⟨h.stepCounts, hl e⟩
  all_goals exact ⟨h.stepCounts, h.link⟩

theorem tablesInRange_written (h : TablesInRange tb) (hf : fieldsInRange r.table f = true) :
    TablesInRange (putEntry r f tb) :=
  tablesInRange_putEntry h (fun e => stepCount_of_fieldsInRange (e ▸ hf)) fun e => linkInRange_of_fieldsInRange (e ▸ hf)

theorem tablesInRange_blankEntry (h : TablesInRange tb) : TablesInRange (blankEntry r tb) := by
  refine tablesInRange_putEntry h (fun e => ?_) fun e => ?_
  · simp only [entryFields, e]
    exact Nat.le_of_ble_eq_true rfl
  · simp only [entryFields, e]
    exact ⟨Nat.le_of_ble_eq_true rfl, Nat.le_of_ble_eq_true rfl, Nat.le_of_ble_eq_true rfl⟩

theorem outputs_putEntry (h : sparseWf blankOutput tb.outputs = true) :
    sparseWf blankOutput (putEntry r f tb).outputs = true := by
  unfold putEntry
  split
  case h_1 => exact sparseWf_sput h
  all_goals exact h

/-! ### Starts -/

theorem sparseWf_of_keys {α : Type} [DecidableEq α] {d : α} {g : Nat → α} {ks : List Nat} (h : ks.Pairwise (· < ·))
    (hv : ∀ k ∈ ks, g k ≠ d) : sparseWf d (ks.map fun k => (k, g k)) = true := by
  induction ks with
  | nil => rfl
  | cons k ks ih =>
    obtain ⟨hk, hks⟩ := List.pairwise_cons.1 h
    refine sparseWf_of_cons (hv k List.mem_cons_self) (ih hks fun x hx => hv x (List.mem_cons_of_mem k hx)) fun p hp => ?_
    obtain ⟨x, hx, rfl⟩ := List.mem_map.1 hp
    exact hk x hx

/-- R58: a fan's record after a start is a listed one. -/
theorem sparseWf_coldOuts (s : State) (h : outputsWf s) : sparseWf coldOut (coldOuts s.tables) = true := by
  refine sparseWf_of_keys ((configured_pairwise h).filter _) fun o ho => ?_
  rw [coldOutFor, if_pos (List.mem_filter.1 ho).2]
  intro e
  have hv := congrArg OutRec.view e
  cases hv

theorem outRec_of_cold {os : Sparse OutRec} (h : ∀ p ∈ os, p.2.superseded = 0 ∧ p.2.act = .unknown ∧ p.2.timer = none)
    (o : Nat) : (sget coldOut os o).superseded = 0 ∧ (sget coldOut os o).act = .unknown ∧
      (sget coldOut os o).timer = none := by
  rcases sget_mem coldOut os o with e | ⟨p, hp, -, e⟩
  · rw [e]
    exact ⟨rfl, rfl, rfl⟩
  · exact e ▸ h p hp

theorem plantOk_cold : PlantOk coldPlant :=
  ⟨rfl, List.nodup_nil, List.nodup_nil, fun _ => ⟨Nat.zero_le _, fun _ => Nat.zero_le _⟩, Nat.zero_le _, Nat.zero_le _⟩

/-- R58, R129, R37: the invariant of cold records, an empty queue, a cold Controller and no run. -/
theorem res_cold {tb : Tables} (hw : sparseWf blankOutput tb.outputs = true) (ht : TablesInRange tb) (h : Res [] [] R s)
    (htb : t.tables = tb) (hn : t.nv = s.nv) (hnw : t.nvWrite = s.nvWrite) (hr : t.run = coldRun) (hq : t.queue = [])
    (hp : PlantOk t.plant) (how : outsWf t)
    (ho : ∀ p ∈ t.outs, p.2.superseded = 0 ∧ p.2.act = .unknown ∧ p.2.timer = none) : Res [] [] RunOk t := by
  have hrec := fun o => outRec_of_cold ho o
  subst htb
  refine ⟨hr ▸ runOk_cleared rfl rfl rfl, hw, ht, hn ▸ h.stored, hn ▸ h.storedEntries, hnw ▸ h.writing, how,
    by simp [hq], hp, fun o => (hrec o).1.trans_le (Nat.zero_le _), fun o _ => ?_⟩
  exact .rest (by simp [inQueue, hq]) (by rw [outRec, (hrec o).2.1]; decide) (hrec o).2.2 (.inr (.inr (hrec o).2.1))

theorem res_startBlocks (h : Res [] [] R s) : Res [] [] RunOk (startBlocks s) :=
  res_cold h.entries h.tables h rfl rfl rfl rfl rfl plantOk_cold rfl (by simp [startBlocks])

theorem res_coldBlocks (h : Res [] [] R s) : Res [] [] RunOk (coldBlocks s) :=
  (res_startBlocks h).of_eq rfl rfl rfl rfl rfl rfl rfl

/-- R176, 3: the read, after a start. -/
theorem res_readTables {bad : List EntryRef} (h : Res [] [] R s) (hr : s.run = coldRun) (hq : s.queue = []) :
    Res [] [] RunOk (readTables bad s) := by
  have hb : ∀ (bs : List EntryRef) (tb : Tables), sparseWf blankOutput tb.outputs = true → TablesInRange tb →
      sparseWf blankOutput (bs.foldl (fun t r => blankEntry r t) tb).outputs = true ∧
        TablesInRange (bs.foldl (fun t r => blankEntry r t) tb) := by
    intro bs
    induction bs with
    | nil => exact fun _ hw ht => ⟨hw, ht⟩
    | cons b bs ih => exact fun tb hw ht => ih _ (outputs_putEntry hw) (tablesInRange_blankEntry ht)
  obtain ⟨hw, ht⟩ := hb bad s.nv h.storedEntries h.stored
  refine res_cold hw ht h rfl rfl rfl hr hq h.plant (sparseWf_coldOuts (readTables bad s) hw) fun p hp => ?_
  obtain ⟨o, -, rfl⟩ := List.mem_map.1 hp
  exact coldOutFor_fields _

theorem res_failing {x : Option EntryRef} (h : Res [] [] R s) : Res [] [] R { s with failing := x } :=
  h.of_eq rfl rfl rfl rfl rfl rfl rfl

theorem res_changeMode {m : Mode} (h : Res [] [] R s) : Res [] [] R (changeMode m s) :=
  res_raise (Res.of_eq (t := { s with mode := m }) h rfl rfl rfl rfl rfl rfl rfl)

theorem res_configInvalid {x : EntryRef} (h : Res [] [] R s) : Res [] [] R (configInvalid x s) :=
  res_raise (res_failing h)

theorem res_leaveStart {bad : List EntryRef} (h : Res [] [] R s) (hr : s.run = coldRun) (hq : s.queue = []) :
    Res [] [] RunOk (leaveStart bad s) := by
  have ht := res_readTables (bad := bad) h hr hq
  unfold leaveStart
  dsimp only
  split
  · exact res_startPacer (res_buildSlowRing (res_changeMode (res_configInvalid ht)))
  · exact res_placementDecision (res_startPacer (res_buildSlowRing (res_changeMode (res_failing ht))))

/-- R174: a cut-off write leaves the stored entry as it was or as written. -/
theorem res_interruptWrite (h : Res [] [] R s) : Res [] [] R (interruptWrite s) := by
  unfold interruptWrite
  split
  · exact h
  · rename_i w hw
    have hn : Res [] [] R { s with
        nvWrite := none
        nv := if Config.interruptedWriteStored s.free then putEntry w.ref w.fields s.nv else s.nv } := by
      refine { h with stored := ?_, storedEntries := ?_, writing := nofun } <;> dsimp only <;> split
      · exact tablesInRange_written h.stored (h.writing w hw)
      · exact h.stored
      · exact outputs_putEntry h.storedEntries
      · exact h.storedEntries
    exact res_useFree hn

theorem res_coldStart {bad : List EntryRef} (h : Res [] [] R s) : Res [] [] RunOk (coldStart bad s) :=
  res_leaveStart (res_coldBlocks (res_interruptWrite h)) rfl rfl

theorem res_warmStart {cause : RestartCause} {bad : List EntryRef} (h : Res [] [] R s) :
    Res [] [] RunOk (warmStart cause bad s) := by
  have c := captures_raise .restart 0 (restartCode cause) (startBlocks (interruptWrite s))
  exact res_leaveStart (res_raise (res_startBlocks (res_interruptWrite h))) c.run c.queue

/-! ### Table writes and the entry to NORMAL -/

/-- R174: an entry comes into force, with no run under way. -/
theorem res_bringIntoForce {w : NvWrite} (h : Res [] [] RunOk s) (hf : fieldsInRange w.ref.table w.fields = true)
    (hs : fireMode s = false) : Res [] [] RunOk (bringIntoForce w s) := by
  have hn : Res [] [] RunOk { s with nv := putEntry w.ref w.fields s.nv } :=
    { h with stored := tablesInRange_written h.stored hf, storedEntries := outputs_putEntry h.storedEntries }
  have ht : Res [] [] RunOk { s with nv := putEntry w.ref w.fields s.nv, tables := putEntry w.ref w.fields s.tables } := by
    obtain ⟨hc, hfl, hd⟩ := h.run.idle (fireMode_false_iff.1 hs)
    exact { hn with
      run := runOk_cleared hc hfl hd
      entries := outputs_putEntry h.entries
      tables := tablesInRange_written h.tables hf }
  unfold bringIntoForce
  dsimp only
  split
  · refine res_ffEntryWritten (res_outputWritten (fun r t m hr => ?_) hn)
    exact ⟨hr.flight, hr.cursor, hr.once, hr.delay, hr.idle⟩
  · exact res_boardWritten ht
  · exact ht

theorem res_enterNormalMode {during : List (List IntakeArrival)} (h : Res [] [] RunOk s) :
    Res [] [] RunOk (enterNormalMode during s) := by
  have ht := res_changeMode (m := .normal) (res_buildSlowRing (res_reevaluateZones (res_failing (x := none) h)))
  exact res_placementDecision (res_drain (res_ite (res_revokeHold ht) ht))

/-! ### Requests -/

theorem res_leaveService (h : Res [] [] R s) : Res [] [] R (leaveService s) := res_setPanel h

variable {q : Requester}

theorem res_answer {x : Result} (h : Res [] [] R s) : Res [] [] R (answer q x s) := res_leaveService (res_sendReply h)

theorem res_answerFrame {k : Nat} {p : List Byte} {a : AfterSent} (h : Res [] [] R s) :
    Res [] [] R (answerFrame q k p a s) := res_leaveService (res_setPanel h)

theorem res_answerWrite {x : Option TableId} {y : Result} (h : Res [] [] R s) : Res [] [] R (answerWrite x q y s) :=
  res_leaveService (res_setPanel h)

theorem res_answerStatus {a b c : Nat} {d : Bool} {bs : List Byte} (h : Res [] [] R s) :
    Res [] [] R (answerStatus q a b c d bs s) :=
  res_ite (res_answer h) (res_ite (res_answer h) (res_answerFrame (res_ite (res_setPanel h) h)))

theorem res_serveIsolateOn {z : Nat} (h : Res [] [] R s) : Res [] [] R (serveIsolateOn q z s) := by
  unfold serveIsolateOn
  split
  · exact res_answer h
  · exact res_answer (res_isolateZone h)

theorem res_serveIsolateOff {z : Nat} (h : Res [] [] RunOk s) : Res [] [] RunOk (serveIsolateOff q z s) := by
  unfold serveIsolateOff
  split
  · exact res_answer h
  · exact res_endStep (res_answer (res_deisolateZone h))

theorem res_serveOutputReset {o : Nat} (h : Res [] [] RunOk s) : Res [] [] RunOk (serveOutputReset q o s) := by
  refine res_ite (res_answer h) (res_ite (res_answer h) ?_)
  split
  · rename_i ha
    exact res_endStep (res_answer (res_drain (res_onOutput (res_newAttempt h ha (h.command_of_fault ha)))))
  · exact res_answer h

theorem res_setCapture {g : Capture → Capture} (h : Res [] [] R s) : Res [] [] R (setCapture g s) :=
  h.of_eq rfl rfl rfl rfl rfl rfl rfl

theorem res_serveFaultAck {n l : Nat} (h : Res [] [] R s) : Res [] [] R (serveFaultAck q n l s) := by
  unfold serveFaultAck
  split
  · exact res_answer h
  · exact res_ite (res_answer (res_setCapture h)) (res_answer h)

theorem res_serveTrailRead {n k : Nat} (h : Res [] [] R s) : Res [] [] R (serveTrailRead q n k s) :=
  res_ite (res_answer h) (res_answerFrame h)

theorem res_serveEnterService (h : Res [] [] R s) : Res [] [] R (serveEnterService q s) := by
  unfold serveEnterService
  split
  · exact res_answer h
  · exact res_answer (res_ite (res_changeMode h) h)

theorem res_serveEnterNormal (h : Res [] [] R s) : Res [] [] R (serveEnterNormal q s) := by
  refine res_ite (res_answer h) ?_
  split
  · exact res_answer h
  · exact h.of_eq rfl rfl rfl rfl rfl rfl rfl

theorem res_serveValidation (h : Res [] [] RunOk s) : Res [] [] RunOk (serveValidation q s) := by
  have ht : Res [] [] RunOk { s with validating := none, entryIntake := [] } := h.of_eq rfl rfl rfl rfl rfl rfl rfl
  unfold serveValidation
  dsimp only
  split
  · exact res_answer (res_configInvalid ht)
  · exact res_endStep (res_answer (res_drain (res_enterNormalMode ht)))

theorem res_serveRestart (h : Res [] [] R s) : Res [] [] R (serveRestart q s) := by
  unfold serveRestart
  split
  · exact res_answer h
  · exact res_answerFrame h

theorem res_window {w : TableWindow} (h : Res [] [] R s) : Res [] [] R { s with window := w } :=
  h.of_eq rfl rfl rfl rfl rfl rfl rfl

theorem res_serveTsel {x i : Nat} (h : Res [] [] R s) : Res [] [] R (serveTsel q x i s) := by
  refine res_ite (res_answer h) ?_
  split
  · exact res_answer h
  · exact res_ite (res_answer (res_window h)) (res_answer h)

theorem res_serveTrd (h : Res [] [] R s) : Res [] [] R (serveTrd q s) := by
  refine res_ite (res_answer h) ?_
  split
  · exact res_answer h
  · exact res_ite (res_answer h) (res_window (res_answerFrame h))

/-- R173: an entry that passes the checks has its fields in range. -/
theorem fieldsInRange_of_twrCheck {i : Option Nat} {e : List Byte} {r : EntryRef} {f : List Nat}
    (h : twrCheck s i e = .ok (r, f)) : fieldsInRange r.table f = true := by
  have ha : ∀ {t k g}, entryAccepted s t k e = some g → fieldsInRange t g = true := fun {t k g} hg => by
    unfold entryAccepted at hg
    split at hg
    · cases hg
    · split at hg
      · cases hg
      · rename_i hb
        split at hg <;> cases hg
        simpa using hb
  unfold twrCheck at h
  repeat' split at h
  all_goals cases h
  exact ha ‹_›

theorem res_serveTwr {i : Nat} {e : List Byte} (h : Res [] [] R s) : Res [] [] R (serveTwr q i e s) := by
  unfold serveTwr
  split
  · exact res_answerWrite h
  · rename_i r f hok
    exact { h with writing := fun w hw => Option.some.inj hw ▸ fieldsInRange_of_twrCheck hok }

theorem res_serveNvWrite {w : NvWrite} {b : Bool} (h : Res [] [] RunOk s) (hw : s.nvWrite = some w)
    (hs : fireMode s = false) : Res [] [] RunOk (serveNvWrite w b s) := by
  have hf := h.writing w hw
  have ht : Res [] [] RunOk { s with nvWrite := none } := { h with writing := nofun }
  refine res_ite (res_endStep (res_answerWrite (res_window (res_drain (res_bringIntoForce ht hf hs))))) ?_
  have hn : Res [] [] RunOk { s with
      nvWrite := none, nv := if Config.failedWriteStored s.free then putEntry w.ref w.fields s.nv else s.nv } := by
    refine { ht with stored := ?_, storedEntries := ?_ } <;> dsimp only <;> split
    · exact tablesInRange_written h.stored hf
    · exact h.stored
    · exact outputs_putEntry h.storedEntries
    · exact h.storedEntries
  exact res_answerWrite (res_useFree hn)

theorem res_serveTestRun {n : Nat} (h : Res [] [] RunOk s) : Res [] [] RunOk (serveTestRun q n s) :=
  res_ite (res_answer h) (res_ite (res_answer h) (res_ite (res_answer h) (res_ite (res_answer h) (res_ite (res_answer h)
    (res_endStep (res_answer (res_drain (res_instructTest h))))))))

theorem res_serveTestEnd (h : Res [] [] RunOk s) : Res [] [] RunOk (serveTestEnd q s) :=
  res_ite (res_answer h) (res_ite (res_endStep (res_answer (res_drain (res_instructEnd h)))) (res_answer h))

theorem res_serveHoldAsk (h : Res [] [] RunOk s) : Res [] [] RunOk (serveHoldAsk q s) := by
  unfold serveHoldAsk
  split
  · exact res_answer h
  · exact res_endStep (res_leaveService (res_setHold h))

theorem res_serveHoldEnd (h : Res [] [] RunOk s) : Res [] [] RunOk (serveHoldEnd q s) := by
  have he : Res [] [] RunOk (holdEnded s) := by
    unfold holdEnded
    split
    · exact res_refuseHold h
    · exact res_drain (res_holdProgress (res_releaseHold h))
    · exact h
  exact res_ite (res_answer h) (res_endStep (res_answer he))

theorem res_takeHead (h : Res [] [] R s) : Res [] [] R (takeHead s) := by
  have hr : ∀ {f x} {u : State}, Res [] [] R u → Res [] [] R (refuseRequest f x u) := fun hu =>
    res_ite (res_answerWrite hu) (res_answer hu)
  unfold takeHead
  split
  · exact h
  · rename_i f rest _
    have hp : Res [] [] R (setPanel (fun p => { p with inbound := rest }) s) := res_setPanel h
    refine res_ite (res_ite (hr hp) ?_) h
    split
    · exact hr hp
    · exact res_setPanel hp

theorem res_noticeTaken {during : List (List IntakeArrival)} (h : Res [] [] RunOk s) :
    Res [] [] RunOk (noticeTaken during s) := by
  unfold noticeTaken
  split
  · exact h
  · exact res_ite (res_endStep (res_placementDecision (res_selector h))) (res_selector h)

/-! ### A tick -/

theorem sparseWf_map {α : Type} [DecidableEq α] {d : α} {g : α → α} (hg : ∀ v, v ≠ d → g v ≠ d) {m : Sparse α}
    (h : sparseWf d m = true) : sparseWf d (m.map fun p => (p.1, g p.2)) = true := by
  induction m with
  | nil => rfl
  | cons p m ih =>
    obtain ⟨hp, hm, hk⟩ := sparseWf_cons (k := p.1) (w := p.2) h
    refine sparseWf_of_cons (hg _ hp) (ih hm) fun x hx => ?_
    obtain ⟨y, hy, rfl⟩ := List.mem_map.1 hx
    exact hk y hy

theorem isSome_countDown (x : Option Nat) : (countDown x).isSome = x.isSome := by
  rcases x with _ | _ | n <;> rfl

theorem res_tickUptime (h : Res [] [] R s) : Res [] [] R (tickUptime s) := h.of_eq rfl rfl rfl rfl rfl rfl rfl

/-- R55, R69: a timer that counts down goes on running. -/
theorem res_tickTimers (h : Res [] [] RunOk s) : Res [] [] RunOk (tickTimers s) := by
  have hrec : ∀ o, outRec (tickTimers s) o = { outRec s o with timer := countDown (outRec s o).timer } := fun o =>
    sget_map (f := fun r : OutRec => { r with timer := countDown r.timer }) rfl s.outs o
  have hwf : outsWf (tickTimers s) := by
    refine sparseWf_map (g := fun r : OutRec => { r with timer := countDown r.timer }) (fun v hv e => hv ?_) h.wf
    have ht : countDown v.timer = none := congrArg OutRec.timer e
    have hn : v.timer = none := by
      rw [← Option.not_isSome_iff_eq_none, ← isSome_countDown, ht]
      simp
    rw [ht, ← hn] at e
    exact e
  refine { h with
    run := ⟨h.run.flight, h.run.cursor, h.run.once, fun e => h.run.delay ?_, fun e => ?_⟩
    wf := hwf
    plant := ⟨h.plant.wf, h.plant.fastRing, h.plant.slowRing, h.plant.misses, h.plant.fastCount, h.plant.burst⟩
    superseded := fun o => ?_
    out := fun o ho => ?_ }
  · exact (isSome_countDown _).symm.trans e
  · obtain ⟨hc, hf, hd⟩ := h.run.idle e
    exact ⟨hc, hf, by simp [tickTimers, hd, countDown]⟩
  · rw [hrec]
    exact h.superseded o
  · have hO := h.out o ho
    rw [hrec]
    exact ⟨hO.queued, fun e => hO.timer ((isSome_countDown _).symm.trans e), hO.atNone⟩

/-! ### Every command -/

theorem res_acting {work : State → State} (h : Res [] [] RunOk s) (he : acting work s = .next t)
    (hw : Res [] [] RunOk (work s)) : Res [] [] RunOk t := by
  cases he
  exact res_ite hw h

theorem res_serving {row : Instr} {work : State → State} (h : Res [] [] RunOk s) (he : serving row work s = .next t)
    (hw : ∀ {u}, Res [] [] RunOk u → Res [] [] RunOk (work u)) : Res [] [] RunOk t :=
  res_acting h he (res_ite (hw (res_setPanel h)) h)

/-- R155: a STATUS_ASK only answers. -/
theorem res_statusAsk {row : Instr} {q : Requester} {a i p : Nat} {d : Bool} {bs : State → List Byte}
    (h : Res [] [] RunOk s) (he : serving row (fun u => answerStatus q a i p d (bs u) u) s = .next t) :
    Res [] [] RunOk t := res_serving h he res_answerStatus

/-- R31, R174: no run is on while a write is under way. -/
theorem idle_of_nvWrite {w : NvWrite} (hm : ModesOk s) (hw : s.nvWrite = some w) : fireMode s = false := by
  obtain ⟨hmode, -, ht⟩ := hm.write (by simp [hw])
  cases hf : fireMode s with
  | false => rfl
  | true => exact absurd ⟨hf, hm.service hmode hf⟩ ht

/-- Every command keeps the invariant. -/
theorem exec_res {c : Instr} (h : Res [] [] RunOk s) (hm : ModesOk s) (he : exec c s = .next t) : Res [] [] RunOk t := by
  cases c with
  | powerUp bad =>
    cases he
    have hp : Res [] [] RunOk { s with powered := true } := h.of_eq rfl rfl rfl rfl rfl rfl rfl
    exact res_ite ((res_coldBlocks (res_interruptWrite h)).of_eq rfl rfl rfl rfl rfl rfl rfl) (res_coldStart hp)
  | resetLineAssert => cases he; exact (res_interruptWrite h).of_eq rfl rfl rfl rfl rfl rfl rfl
  | powerFailure => cases he; exact (res_interruptWrite h).of_eq rfl rfl rfl rfl rfl rfl rfl
  | resetLineRelease bad =>
    cases he
    have hr : Res [] [] RunOk { s with resetHeld := false } := h.of_eq rfl rfl rfl rfl rfl rfl rfl
    exact res_ite h (res_ite (res_warmStart hr) hr)
  | warmStart bad => exact res_acting h he (res_ite (res_warmStart h) h)
  | uptimeTick =>
    cases he
    exact res_ite h (res_ite (res_tickUptime h) (res_tickTimers (res_tickUptime h)))
  | panelFrameReceived bs => exact res_acting h he (res_panelBytes h)
  | requestArrival f => exact res_acting h he (res_joinInbound h)
  | requestTaken => exact res_acting h he (res_takeHead h)
  | outboundFrameSent => exact res_acting h he (res_headSent h)
  | zoneEvent z a k => cases he; exact res_ite (res_endStep (res_zoneEventTaken h)) h
  | zoneReset z => exact res_acting h he (res_zoneResetTaken h)
  | supplyState b x => cases he; exact res_ite (res_endStep (res_supplyStateTaken h)) h
  | ffState x p => cases he; exact res_ite (res_endStep (res_ffStateTaken h)) h
  | bldCmd x p => cases he; exact res_ite (res_endStep (res_bldCmdTaken h)) h
  | zoneIsolateOn q z => exact res_serving h he res_serveIsolateOn
  | zoneIsolateOff q z => exact res_serving h he res_serveIsolateOff
  | outputReset q o => exact res_serving h he res_serveOutputReset
  | faultAck q n l => exact res_serving h he res_serveFaultAck
  | trailRead q n k => exact res_serving h he res_serveTrailRead
  | statusAskSummary q i p => exact res_statusAsk (bs := summaryReport) h he
  | statusAskZone q i p => exact res_statusAsk (bs := fun u => zoneReport u i) h he
  | statusAskOutput q i p => exact res_statusAsk (bs := fun u => outputReport u i) h he
  | statusAskRun q i p => exact res_statusAsk (bs := runReport) h he
  | statusAskBoard q i p => exact res_statusAsk (bs := fun u => boardReport u i) h he
  | statusAskFirstFault q i p => exact res_statusAsk (bs := firstFaultReport) h he
  | enterService q => exact res_serving h he res_serveEnterService
  | enterNormal q => exact res_serving h he res_serveEnterNormal
  | modeRestart q => exact res_serving h he res_serveRestart
  | tsel q x i => exact res_serving h he res_serveTsel
  | trd q => exact res_serving h he res_serveTrd
  | twr q i e => exact res_serving h he res_serveTwr
  | testRun q n => exact res_serving h he res_serveTestRun
  | testEnd q => exact res_serving h he res_serveTestEnd
  | holdAsk q => exact res_serving h he res_serveHoldAsk
  | holdEnd q => exact res_serving h he res_serveHoldEnd
  | validationComplete =>
    cases he
    refine res_ite ?_ h
    dsimp only
    split
    · exact res_serveValidation h
    · exact h
  | nvWriteComplete b =>
    cases he
    refine res_ite ?_ h
    dsimp only
    split
    · exact res_serveNvWrite h ‹_› (idle_of_nvWrite hm ‹_›)
    · exact h
  | forwardCandidate f => exact res_acting h he (res_candidateTaken h)
  | placementDecision during =>
    have hg : Res [] [] RunOk (giveForEntry during s) := res_ite (h.of_eq rfl rfl rfl rfl rfl rfl rfl) h
    cases he
    exact res_ite (res_noticeTaken hg) h
  | delayTimerExpiry =>
    refine res_acting h he ?_
    split
    · exact res_endStep (res_delayExpired h (by simp [*]))
    · exact h
  | establishDeadlineExpiry => exact res_acting h he (res_ite (res_endStep (res_deadlineExpired h)) h)
  | plantSendComplete => exact res_acting h he (res_sendComplete h)
  | plantFrameReceived bs => exact res_acting h he (res_plantBytes h)
  | cmdAck ch r => exact res_acting h he (res_ackTaken h)
  | stateReply bs => exact res_acting h he (res_stateTaken h)
  | forwardReply k p => exact res_acting h he (res_forwardTaken h)
  | proofTimerExpiry o =>
    refine res_acting h he ?_
    split
    · rename_i ht
      exact res_endStep (res_proofExpired h ((h.out o (by simp)).timer (by simp [ht])))
    · exact h
  | replyWindowExpiry =>
    cases he
    refine res_ite ?_ h
    dsimp only
    split
    · exact res_ite (res_endStep (res_windowExpired h)) h
    · exact h
  | pacerTimerExpiry => exact res_acting h he (res_ite (res_endStep h.link) h)
  | forwardWaitExpiry n => exact res_acting h he (res_forwardWaited h)
  | holdTimerExpiry => exact res_acting h he (res_ite (res_endStep (res_releaseHold h)) h)
  | startHeld f => exact res_acting h he (res_warnHeld h)
  | supervisionTimerExpiry => exact res_acting h he (res_ite (res_panelLost h) h)

/-- The lists of O9 and the canonical forms of the stores that they are kept in. -/
theorem ListsOk.res (hc : Canonical s) (h : ListsOk s) : Res [] [] RunOk s where
  run := ⟨h.flight.1, h.flight.2, h.flightOnce, h.delay, fun e => h.idle (fireMode_false_iff.2 e)⟩
  entries := hc.tables.outputs
  tables := h.tables
  stored := h.stored
  storedEntries := hc.nv.outputs
  writing := h.writing
  wf := hc.outs
  queueOnce := h.queueOnce
  plant := ⟨hc.modules, h.fastRing, h.slowRing, h.misses, h.fastCount, h.burst⟩
  superseded := h.superseded
  out o _ := by
    refine ⟨h.queued o, h.timer o, fun e => ⟨?_, .inr (h.atNone o e)⟩⟩
    rcases h.atNone o e with ha | ha <;> rw [ha] <;> rfl

theorem Res.listsOk (h : Res [] [] RunOk s) : ListsOk s where
  tables := h.tables
  stored := h.stored
  writing := h.writing
  flight := ⟨h.run.flight, h.run.cursor⟩
  flightOnce := h.run.once
  delay := h.run.delay
  idle e := h.run.idle (fireMode_false_iff.1 e)
  queueOnce := h.queueOnce
  queued o := (h.out o List.not_mem_nil).queued
  atNone o e := ((h.out o List.not_mem_nil).atNone e).2.resolve_left List.not_mem_nil
  timer o := (h.out o List.not_mem_nil).timer
  superseded := h.superseded
  fastRing := h.plant.fastRing
  slowRing := h.plant.slowRing
  misses := h.plant.misses
  fastCount := h.plant.fastCount
  burst := h.plant.burst

/-- Settles O9: a step idles or runs a command. -/
theorem queueRingsAndFlightStayInBounds : Obligations.QueueRingsAndFlightStayInBounds := by
  intro s t hc hm hl he
  rcases step_cases he with rfl | ⟨c, rest, -, he⟩
  · exact hl
  · have h : Res [] [] RunOk { s with pending := rest } := (hl.res hc).of_eq rfl rfl rfl rfl rfl rfl rfl
    exact (exec_res h ⟨hm.start, hm.normal, hm.service, hm.write, hm.validation⟩ he).listsOk

end Sys2Proof.Machine
end

section
/-! Properties that last: a property of the output records, the output and board entries and the boards' sources, that the
Output Resolver's operations, a start, a tick and a table write keep, is kept by every command. The Resolver's operations are
the premises (Lasting); Runner, Monitor and Plant Link Controller move the output records through them alone. -/

namespace Sys2Proof.Machine

-- Elaborated one after another: the check bounds Lean's threads.
set_option Elab.async false

/-- R61: a write of layer entries and of nothing else. -/
def LayerWrite (w : Nat → OutRec → OutRec) : Prop :=
  ∀ o r, ∃ ff fire safe bld, w o r = { r with ff := ff, fire := fire, safe := safe, bld := bld }

/-- What is asked of a property for every command to keep it: one clause for each way in which the output records, their
tables and the boards' sources change. -/
structure Lasting (P : State → Prop) : Prop where
  of_eq : ∀ {s t : State}, P s → t.outs = s.outs → t.tables.outputs = s.tables.outputs →
    t.tables.boards = s.tables.boards → t.nv = s.nv → t.boards = s.boards → P t
  entries : ∀ {s}, P s → outputsWf s
  engage : ∀ {s} (o : Nat) (e : Engaged), P s → P (modOut o (fun r => { r with engaged := e }) s)
  layers : ∀ {s w os}, LayerWrite w → os.Nodup → P s → P (changeLayers w os s)
  send : ∀ {s} (o : Nat) (c : Cmd) (q : List QueueEntry), P s →
    P (onOutput o (setAct o .sent) (modOut o (fun r => { r with lastSent := some c }) (setQueue (fun _ => q) s)))
  exchange : ∀ {s} (o : Nat) (a : Ack), P s → P (exchangeEnded o a s)
  expired : ∀ {s} (o : Nat), P s → P (proofExpired o s)
  reading : ∀ {s} (o b : Nat), P s → P (takeReading o b s)
  unusable : ∀ {s} (o : Nat), P s → P (takeUnusable o s)
  lost : ∀ {s} (o : Nat), P s → P (outputLost o s)
  returned : ∀ {s} (o : Nat), P s → P (outputReturned o s)
  replaced : ∀ {s} (o : Nat), P s → P (replaceQueued o s)
  reasserted : ∀ {s} (o : Nat), P s → P (reassertOutput o s)
  reset : ∀ {s} (o : Nat), P s → P (onOutput o (newAttempt o .reset) s)
  warned : ∀ {s} (o : Nat), P s → P (warnHeld o s)
  source : ∀ {s} (b : Nat) (src : BoardSource), P s → P (sourceChange b src s)
  stored : ∀ {s} (r : EntryRef) (f : List Nat), P s → P { s with nv := putEntry r f s.nv }
  output : ∀ {s} (o : Nat) (new : OutputEntry), P s → P (outputWritten o new s)
  board : ∀ {s} (b : Nat) (new : BoardEntry), P s →
    P (boardWritten b { s with tables := { s.tables with boards := sput blankBoard b new s.tables.boards } })
  blank : ∀ {s}, P s → P { s with outs := [], boards := [] }
  read : ∀ {s} (bad : List EntryRef), P s → P (readTables bad { s with boards := [] })
  tick : ∀ {s}, P s → P (tickTimers s)

/-- `P` is a lasting property and holds of `s`. -/
structure Lasts (P : State → Prop) (s : State) : Prop where
  lasting : Lasting P
  holds : P s

variable {P : State → Prop} {s t : State} {o m z : Nat}

/-! ### Composition -/

/-- A change of parts that a lasting property does not speak of. -/
theorem Lasts.of_eq (h : Lasts P s) (ho : t.outs = s.outs := by rfl)
    (he : t.tables.outputs = s.tables.outputs := by rfl) (hb : t.tables.boards = s.tables.boards := by rfl)
    (hn : t.nv = s.nv := by rfl) (hs : t.boards = s.boards := by rfl) : Lasts P t :=
  ⟨h.lasting, h.lasting.of_eq h.holds ho he hb hn hs⟩

theorem lasts_setRun {g : Run → Run} (h : Lasts P s) : Lasts P (setRun g s) := h.of_eq

theorem lasts_setWatches {g : List Watch → List Watch} (h : Lasts P s) : Lasts P (setWatches g s) := h.of_eq

theorem lasts_ite {c : Prop} [Decidable c] {a b : State} (ha : Lasts P a) (hb : Lasts P b) :
    Lasts P (if c then a else b) := by
  split
  · exact ha
  · exact hb

theorem lasts_foldl {α : Type} {g : State → α → State} (hg : ∀ {u : State} (x : α), Lasts P u → Lasts P (g u x))
    {xs : List α} (h : Lasts P s) : Lasts P (xs.foldl g s) := by
  induction xs generalizing s with
  | nil => exact h
  | cons x xs ih => exact ih (hg x h)

/-- The Fault Capture Unit writes none of the parts that a lasting property speaks of. -/
theorem boards_report (r : Report) (s : State) : (report r s).boards = s.boards := by
  unfold report takeCritical
  dsimp only
  split
  · split <;> simp [recordEntry]
  · simp [recordEntry]

theorem lasts_report (h : Lasts P s) {r : Report} : Lasts P (report r s) := by
  have c := captures_report r s
  exact h.of_eq c.outs (by rw [c.tables]) (by rw [c.tables]) (work_report (.refl s)).nv (boards_report r s)

theorem lasts_raise (h : Lasts P s) {ev : Ev} {a b : Nat} : Lasts P (raise ev a b s) := lasts_report h

theorem lasts_changeLayers {w : Nat → OutRec → OutRec} {os : List Nat} (h : Lasts P s) (hn : os.Nodup)
    (hw : LayerWrite w := by exact fun _ r => ⟨_, _, _, _, rfl⟩) : Lasts P (changeLayers w os s) :=
  ⟨h.lasting, h.lasting.layers hw hn h.holds⟩

theorem lasts_engage (h : Lasts P s) {e : Engaged} : Lasts P (modOut o (fun r => { r with engaged := e }) s) :=
  ⟨h.lasting, h.lasting.engage o e h.holds⟩

theorem lasts_writeFire (h : Lasts P s) {c : Option Cmd} : Lasts P (writeFire o c s) :=
  lasts_ite (lasts_changeLayers h (List.nodup_singleton o)) h

theorem Lasts.nodup_configured (h : Lasts P s) : (configured s).Nodup := configured_nodup (h.lasting.entries h.holds)

theorem lasts_beginFire (h : Lasts P s) : Lasts P (beginFire s) := lasts_changeLayers h h.nodup_configured

theorem lasts_endFire (h : Lasts P s) : Lasts P (endFire s) := lasts_changeLayers h h.nodup_configured

/-! ### Run faults, standbys and reports -/

theorem lasts_tellStandby (h : Lasts P s) : Lasts P (tellStandby o s) := lasts_foldl (fun _ hu => hu.of_eq) h

theorem lasts_engageStandby {d : Nat} {c : Cmd} (h : Lasts P s) : Lasts P (engageStandby o d c s) :=
  lasts_tellStandby (lasts_raise (lasts_engage (lasts_writeFire h)))

theorem lasts_substitute {code : FaultCode} (h : Lasts P s) : Lasts P (substitute o code s) := by
  unfold substitute
  dsimp only
  split
  · exact lasts_ite (lasts_ite (lasts_report h) (lasts_engageStandby h)) h
  · exact h

theorem lasts_standbyFaulted (h : Lasts P s) : Lasts P (standbyFaulted o s) := by
  unfold standbyFaulted
  split
  · exact lasts_report h
  · exact h

theorem lasts_recordRunFault (h : Lasts P s) : Lasts P (recordRunFault o s) := lasts_ite h (lasts_ite h.of_eq h.of_eq)

theorem lasts_takeFault {code : FaultCode} (h : Lasts P s) : Lasts P (takeFault o code s) :=
  lasts_ite (lasts_substitute (lasts_standbyFaulted (lasts_recordRunFault h))) h

theorem lasts_takeReport {n : RunnerNotice} (h : Lasts P s) : Lasts P (takeReport n s) := by
  have hl : Lasts P (leaveFlight (reportedOutput n) s) := h.of_eq
  cases n with
  | settled o => exact hl
  | fault o code => exact lasts_takeFault hl

theorem lasts_takeReportsTimes {n : Nat} (h : Lasts P s) : Lasts P (takeReportsTimes n s) := by
  induction n generalizing s with
  | zero => exact h
  | succ n ih =>
    unfold takeReportsTimes
    split
    · exact ih (lasts_takeReport h.of_eq)
    · exact h

theorem lasts_takeReports (h : Lasts P s) : Lasts P (takeReports s) := lasts_takeReportsTimes h

/-! ### Issue and advance -/

theorem lasts_followStep {c : Cmd} (h : Lasts P s) : Lasts P (followStep o c s) :=
  lasts_foldl (fun _ hu => lasts_ite (lasts_tellStandby (lasts_engage (lasts_writeFire hu))) (lasts_writeFire hu)) h

theorem lasts_placeStep {i n : Nat} {r : OutRec} (h : Lasts P s) : Lasts P (placeStep i n r s) := by
  unfold placeStep
  dsimp only
  split
  · exact h
  · exact lasts_ite (lasts_takeReports h) (lasts_takeFault h)
  · exact h.of_eq

theorem lasts_issueStep {i : Nat} (h : Lasts P s) : Lasts P (issueStep i s) := by
  have hn : Lasts P (noted i s) := h.of_eq
  have hp : Lasts P (stepPlaced i s) := lasts_placeStep (lasts_writeFire hn)
  rw [issueStep_eq]
  split
  · exact lasts_followStep hp
  · exact hp

theorem lasts_issueAtCursor (h : Lasts P s) : Lasts P (issueAtCursor s) :=
  (lasts_issueStep h (i := (scenarioEntry s).firstStep + s.run.cursor)).of_eq

theorem lasts_establish (h : Lasts P s) : Lasts P (establish s) := by
  have hs : Lasts P (setRun (fun r => { r with state := .established, deadline := none }) s) := h.of_eq
  exact lasts_ite (lasts_raise hs).of_eq (lasts_raise hs)

theorem lasts_advanceTimes {n : Nat} (h : Lasts P s) : Lasts P (advanceTimes n s) := by
  induction n generalizing s with
  | zero => exact h
  | succ n ih =>
    have hr := lasts_takeReports h
    exact lasts_ite (lasts_ite (lasts_establish hr) hr) (lasts_ite (lasts_ite hr hr.of_eq)
      (lasts_ite hr (ih (lasts_issueAtCursor hr))))

theorem lasts_advance (h : Lasts P s) : Lasts P (advance s) := lasts_ite (lasts_advanceTimes h) h

theorem lasts_takeRunner {n : RunnerNotice} (h : Lasts P s) : Lasts P (takeRunner n s) :=
  lasts_ite (lasts_takeReport h) (lasts_advance (lasts_takeReport h))

theorem lasts_delayExpired (h : Lasts P s) : Lasts P (delayExpired s) :=
  lasts_advance (lasts_issueAtCursor h.of_eq)

theorem lasts_deadlineExpired (h : Lasts P s) : Lasts P (deadlineExpired s) := by
  have ht : Lasts P (setRun (fun r => { r with late := true, deadline := none }) s) := h.of_eq
  exact lasts_ite (lasts_report ht) (lasts_report ht).of_eq

/-! ### Load, switch and end -/

theorem lasts_loadRun {test : Bool} {n : Nat} {served : List Nat} (h : Lasts P s) :
    Lasts P (loadRun test n served s) := by
  have ht : Lasts P (loadSet test n served s) := h.of_eq
  have hb := lasts_takeReports (lasts_beginFire (lasts_raise ht (ev := .runStart) (a := n)
    (b := served.getD 0 0 * 256 + served.getD 1 0)))
  exact lasts_advance (lasts_ite hb (lasts_setWatches hb))

theorem lasts_releaseFans {fs : List Nat} (h : Lasts P s) : Lasts P (releaseFans fs s) :=
  lasts_foldl (fun _ hu => lasts_engage hu) h

theorem lasts_switchRun {n : Nat} {served : List Nat} (h : Lasts P s) : Lasts P (switchRun n served s) := by
  have hr := lasts_releaseFans (fs := (fans s).filter (releasedAtSwitch s n served)) h
  have hc := lasts_takeReports (lasts_changeLayers (w := fun _ r => { r with fire := none }) hr
    (hr.nodup_configured.filter (clearedAtSwitch (releaseFans ((fans s).filter (releasedAtSwitch s n served)) s) n)))
  have hs := lasts_raise (ev := .runSwitch) (a := n) (b := s.run.scenario) (lasts_setRun (g := fun r =>
    { r with
      state := .staging, scenario := n, served := served, cursor := 0, inFlight := [], lastIssued := [], delay := none,
      late := false, deadline := some (scenarioOf s.tables n).establish, stageStamp := some s.uptime }) hc)
  exact lasts_advance (lasts_ite hs (lasts_setWatches hs))

theorem lasts_endRun (h : Lasts P s) : Lasts P (endRun s) := by
  have hs : Lasts P (stopping s) := h.of_eq
  have hc := lasts_takeReports (lasts_endFire (lasts_releaseFans (fs := fans s) hs))
  have hr := lasts_raise hc (ev := .runEnd) (a := s.run.scenario)
    (b := (takeReports (endCleared s)).run.faults.length + if (takeReports (endCleared s)).run.overflow then 256 else 0)
  have hw := lasts_ite (c := s.run.test = true) hr (lasts_setWatches (g := fun _ => []) hr)
  exact lasts_setRun (g := fun r =>
    { r with state := .idle, scenario := 0, served := [], cursor := 0, test := false, late := false }) hw

theorem lasts_instructLoad {n : Nat} {served : List Nat} (h : Lasts P s) : Lasts P (instructLoad n served s) :=
  lasts_ite (lasts_switchRun h) (lasts_loadRun h)

theorem lasts_instructSwitch {n : Nat} {served : List Nat} (h : Lasts P s) : Lasts P (instructSwitch n served s) :=
  lasts_ite (lasts_switchRun h) (lasts_loadRun h)

theorem lasts_instructTest {n : Nat} (h : Lasts P s) : Lasts P (instructTest n s) := lasts_ite h (lasts_loadRun h)

theorem lasts_instructEnd (h : Lasts P s) : Lasts P (instructEnd s) := lasts_ite (lasts_endRun h) h

theorem lasts_engageReserve (h : Lasts P s) : Lasts P (engageReserve o z s) :=
  lasts_raise (lasts_engage (lasts_writeFire h))

/-! ### The Extract Monitor -/

theorem lasts_modWatch {g : Watch → Watch} (h : Lasts P s) : Lasts P (modWatch z g s) := lasts_setWatches h

theorem lasts_deficitEnds (h : Lasts P s) : Lasts P (deficitEnds z s) := lasts_raise (lasts_modWatch h)

theorem lasts_engageTimes {n : Nat} (h : Lasts P s) : Lasts P (engageTimes n z s) := by
  induction n generalizing s with
  | zero => exact h
  | succ n ih =>
    unfold engageTimes
    split
    · exact h
    · rename_i w _
      have ht : Lasts P (tellMonitor (.testZone z) (modWatch z (fun w => { w with cursor := w.cursor + 1 }) s)) :=
        h.of_eq
      have hu := lasts_engageReserve (o := reserveAt s w) (z := z) ht
      exact lasts_ite (lasts_raise (lasts_modWatch h)) (lasts_ite (ih ht)
        (lasts_ite (lasts_modWatch hu) (lasts_ite (lasts_deficitEnds hu) (ih hu))))

theorem lasts_engagementStep (h : Lasts P s) : Lasts P (engagementStep z s) := lasts_engageTimes h

theorem lasts_deficitBegins {w : Watch} (h : Lasts P s) : Lasts P (deficitBegins w s) :=
  lasts_ite (lasts_engagementStep (lasts_raise (lasts_modWatch h))) (lasts_raise (lasts_modWatch h))

theorem lasts_deficitTest (h : Lasts P s) : Lasts P (deficitTest z s) := by
  unfold deficitTest
  split
  · exact h
  · exact lasts_ite h (lasts_ite (lasts_ite (lasts_deficitEnds h) h) (lasts_ite (lasts_deficitBegins h) h))

theorem lasts_reserveSettled (h : Lasts P s) : Lasts P (reserveSettled o s) := by
  unfold reserveSettled
  split
  · exact h
  · rename_i w _
    have ht : Lasts P (modWatch w.zone (fun w => { w with pending := none }) s) := h.of_eq
    exact lasts_ite (lasts_ite (lasts_deficitEnds ht) (lasts_engagementStep ht)) ht

theorem lasts_takeMonitor {n : MonitorNotice} (h : Lasts P s) : Lasts P (takeMonitor n s) := by
  cases n with
  | startWatching => exact lasts_foldl (fun _ hu => lasts_deficitTest hu) (lasts_setWatches h)
  | extractChanged f => exact lasts_foldl (fun _ hu => lasts_deficitTest hu) h
  | testZone z => exact lasts_deficitTest h
  | reserveOutcome f => exact lasts_reserveSettled h

theorem lasts_drainTimes {n : Nat} (h : Lasts P s) : Lasts P (drainTimes n s) := by
  induction n generalizing s with
  | zero => exact h
  | succ n ih =>
    unfold drainTimes
    split
    · exact ih (lasts_takeRunner h.of_eq)
    · split
      · exact ih (lasts_takeMonitor h.of_eq)
      · exact h

theorem lasts_drain (h : Lasts P s) : Lasts P (drain s) := lasts_drainTimes h

/-! ### The Plant Link Controller -/

theorem lasts_sendFail {a b c : Nat} {r : FailReason} (h : Lasts P s) : Lasts P (sendFail a b c r s) := h.of_eq

theorem lasts_setPlant {g : Plant → Plant} (h : Lasts P s) : Lasts P (setPlant g s) := h.of_eq

theorem lasts_setPanel {g : Panel → Panel} (h : Lasts P s) : Lasts P (setPanel g s) := h.of_eq

theorem lasts_setModule {r : ModuleRec} (h : Lasts P s) : Lasts P (setModule m r s) := h.of_eq

theorem lasts_clearMisses (h : Lasts P s) : Lasts P (clearMisses m s) := lasts_setModule h

theorem lasts_endExchange (h : Lasts P s) : Lasts P (endExchange s) := lasts_setPlant h

theorem lasts_releaseHold {r : ReleaseReason} (h : Lasts P s) : Lasts P (releaseHold r s) := h.of_eq

/-- R67: the head of the queue is sent. -/
theorem lasts_grantCommand (h : Lasts P s) : Lasts P (grantCommand s) := by
  unfold grantCommand
  split
  · exact h
  · rename_i o c rest _
    exact lasts_setPlant (lasts_setPlant ⟨h.lasting, h.lasting.send o c rest h.holds⟩)

theorem lasts_grantPoll (h : Lasts P s) : Lasts P (grantPoll s) := by
  unfold grantPoll
  split
  · exact h
  · exact lasts_setPlant (lasts_setPlant (lasts_setPlant (lasts_setPlant h)))

theorem lasts_grantForward (h : Lasts P s) : Lasts P (grantForward s) := by
  unfold grantForward
  split
  · exact h
  · exact lasts_setPlant (lasts_setPlant h)

theorem lasts_arbitrate (h : Lasts P s) : Lasts P (arbitrate s) :=
  lasts_ite h (lasts_ite (lasts_grantPoll (lasts_setPlant h)) (lasts_ite (lasts_grantCommand (lasts_setPlant h))
    (lasts_ite (lasts_grantPoll (lasts_setPlant h)) (lasts_grantForward h))))

theorem lasts_moduleMissing (h : Lasts P s) : Lasts P (moduleMissing m s) :=
  lasts_foldl (fun o hu => ⟨hu.lasting, hu.lasting.lost o hu.holds⟩)
    (lasts_raise (lasts_setPlant h))

theorem lasts_pollMissed (h : Lasts P s) : Lasts P (pollMissed m s) :=
  lasts_ite h (lasts_ite (lasts_moduleMissing (lasts_setPlant h)) (lasts_setPlant h))

theorem lasts_modulePresent (h : Lasts P s) : Lasts P (modulePresent m s) :=
  lasts_ite (lasts_raise (lasts_setPlant h)) (lasts_setPlant h)

/-- R133: the readings of a module, and the new attempts on its return. -/
theorem lasts_stateDecoded {bs : List Byte} (h : Lasts P s) : Lasts P (stateDecoded m bs s) := by
  have hc : Lasts P (clearMisses m (modulePresent m s)) := lasts_clearMisses (lasts_modulePresent h)
  have hr : Lasts P (takeReadings m bs (clearMisses m (modulePresent m s))) :=
    lasts_foldl (fun o hu => lasts_ite ⟨hu.lasting, hu.lasting.reading o _ hu.holds⟩
      ⟨hu.lasting, hu.lasting.unusable o hu.holds⟩) hc
  exact lasts_ite (lasts_foldl (fun o hu => ⟨hu.lasting, hu.lasting.returned o hu.holds⟩) hr) hr

theorem lasts_commandAnswered {a : Ack} (h : Lasts P s) : Lasts P (commandAnswered o m a s) :=
  have hc : Lasts P (clearMisses m (endExchange s)) := lasts_clearMisses (lasts_endExchange h)
  ⟨hc.lasting, hc.lasting.exchange o a hc.holds⟩

theorem lasts_pollAnswered {bs : List Byte} (h : Lasts P s) : Lasts P (pollAnswered m bs s) :=
  lasts_stateDecoded (lasts_endExchange h)

theorem lasts_forwardAnswered {x : Exchange} {a b c k : Nat} {p : List Byte} (h : Lasts P s) :
    Lasts P (forwardAnswered x a b c k p s) :=
  have he := lasts_endExchange h
  lasts_setPanel (lasts_ite (c := k = kState) (lasts_stateDecoded he) (lasts_ite (c := k = kCmdAck)
    (lasts_clearMisses he) he))

theorem lasts_windowExpired {x : Exchange} (h : Lasts P s) : Lasts P (windowExpired x s) := by
  unfold windowExpired
  split
  · exact lasts_ite (lasts_setPlant h) (lasts_moduleMissing (lasts_setPlant h))
  · exact lasts_pollMissed (lasts_setPlant h)
  · exact lasts_sendFail (lasts_setPlant h)

theorem lasts_offerForward {e : ForwardEntry} (h : Lasts P s) : Lasts P (offerForward e s) :=
  lasts_ite (lasts_sendFail h) (lasts_ite (lasts_sendFail h) (lasts_setPlant h))

theorem lasts_refuseEntries {es : List ForwardEntry} {r : FailReason} (h : Lasts P s) : Lasts P (refuseEntries es r s) :=
  lasts_foldl (fun _ hu => lasts_sendFail hu) h

theorem lasts_answerAsk {r : Result} (h : Lasts P s) : Lasts P (answerAsk r s) := by
  unfold answerAsk
  split
  · exact h.of_eq
  · exact h

theorem lasts_reassert (h : Lasts P s) : Lasts P (reassert s) :=
  lasts_foldl (fun o hu => ⟨hu.lasting, hu.lasting.reasserted o hu.holds⟩)
    (lasts_foldl (fun o hu => ⟨hu.lasting, hu.lasting.replaced o hu.holds⟩) h)

theorem lasts_grantHold (h : Lasts P s) : Lasts P (grantHold s) :=
  lasts_answerAsk (lasts_raise (lasts_refuseEntries (lasts_setPlant h)))

theorem lasts_freeHold (h : Lasts P s) : Lasts P (freeHold s) :=
  lasts_reassert (lasts_raise (lasts_refuseEntries (lasts_setPlant h)))

theorem lasts_holdProgress (h : Lasts P s) : Lasts P (holdProgress s) := by
  unfold holdProgress
  split
  · exact h
  split
  · exact lasts_grantHold h
  · exact lasts_freeHold h
  · exact h

theorem lasts_refuseHold (h : Lasts P s) : Lasts P (refuseHold s) := lasts_answerAsk (lasts_setPlant h)

theorem lasts_revokeHold (h : Lasts P s) : Lasts P (revokeHold s) := by
  unfold revokeHold
  split
  · exact lasts_refuseHold h
  · exact lasts_holdProgress (lasts_releaseHold h)
  · exact h

theorem lasts_endStep (h : Lasts P s) : Lasts P (endStep s) :=
  lasts_drain (lasts_arbitrate (lasts_drain (lasts_holdProgress (lasts_drain h))))

end Sys2Proof.Machine
end

section
/-! Properties that last, through Zone Intake, the Scenario Selector, the Firefighter Control Unit, the two links' frames,
the starts, the tables and the requests: every command keeps them. -/

namespace Sys2Proof.Machine

-- Elaborated one after another: the check bounds Lean's threads.
set_option Elab.async false

variable {P : State → Prop} {s t : State} {o z : Nat}

/-! ### Zone Intake -/

theorem lasts_setZone {r : ZoneRec} (h : Lasts P s) : Lasts P (setZone z r s) := h.of_eq

theorem lasts_unmapped {a b : Nat} (h : Lasts P s) : Lasts P (unmapped a b s) := lasts_raise h

theorem lasts_tellConfirmed (h : Lasts P s) : Lasts P (tellConfirmed z s) :=
  lasts_ite (lasts_revokeHold h).of_eq (lasts_revokeHold h)

theorem lasts_tellReset (h : Lasts P s) : Lasts P (tellReset z s) := lasts_ite h.of_eq h

theorem lasts_confirmZone {a : AlarmSource} {set : List AlarmSource} (h : Lasts P s) : Lasts P (confirmZone z a set s) :=
  lasts_tellConfirmed (lasts_raise (lasts_setZone h))

theorem lasts_alarmArrival {a : AlarmSource} (h : Lasts P s) : Lasts P (alarmArrival z a s) := by
  unfold alarmArrival
  dsimp only
  split
  case h_5 => exact lasts_ite (lasts_confirmZone h) (lasts_raise (lasts_setZone h))
  case h_6 => exact lasts_ite (lasts_confirmZone h) (lasts_setZone h)
  all_goals exact lasts_setZone h

theorem lasts_zoneEventTaken {a c : Nat} (h : Lasts P s) : Lasts P (zoneEventTaken z a c s) := by
  unfold zoneEventTaken
  split
  · exact lasts_ite (lasts_alarmArrival h) (lasts_raise h)
  · exact lasts_raise h

theorem lasts_zoneResetTaken (h : Lasts P s) : Lasts P (zoneResetTaken z s) :=
  lasts_ite (lasts_raise h) (lasts_ite (lasts_raise (lasts_setZone h))
    (lasts_ite (lasts_tellReset (lasts_raise (lasts_setZone h))) (lasts_raise (lasts_setZone h))))

theorem lasts_zoneRequest {w : ZoneState} {ev : Ev} {d : Nat} (h : Lasts P s) : Lasts P (zoneRequest z w ev d s).1 := by
  unfold zoneRequest
  dsimp only
  split
  · exact h
  split
  · exact h
  · exact lasts_raise (lasts_setZone h)

theorem lasts_isolateZone (h : Lasts P s) : Lasts P (isolateZone z s).1 := by
  have hi : Lasts P (raise .zoneIsolated z (zoneRec s z).sources.length
      (setZone z { zoneRec s z with state := .isolated, sources := [], held := false } s)) := lasts_raise (lasts_setZone h)
  unfold isolateZone
  dsimp only
  split
  case h_1 | h_2 => exact hi
  all_goals exact h

theorem lasts_deisolateZone (h : Lasts P s) : Lasts P (deisolateZone z s) :=
  lasts_ite h (lasts_ite (lasts_tellConfirmed (lasts_raise (lasts_raise (lasts_setZone h))))
    (lasts_ite (lasts_raise (lasts_raise (lasts_setZone h))) (lasts_raise (lasts_setZone h))))

theorem lasts_reevaluateZone (h : Lasts P s) : Lasts P (reevaluateZone z s) :=
  lasts_ite (lasts_ite h (lasts_raise (lasts_setZone h))) (lasts_ite (lasts_raise (lasts_setZone h)) h)

theorem lasts_reevaluateZones (h : Lasts P s) : Lasts P (reevaluateZones s) :=
  lasts_foldl (fun _ hu => lasts_tellConfirmed hu) (lasts_foldl (fun _ hu => lasts_reevaluateZone hu) h)

/-! ### The Scenario Selector -/

theorem lasts_takeIntakes {as : List IntakeArrival} (h : Lasts P s) :
    Lasts P (as.foldl (fun t a => takeIntake a t) s) := by
  refine lasts_foldl (fun a hu => ?_) h
  cases a with
  | event z a c => exact lasts_zoneEventTaken hu
  | reset z => exact lasts_zoneResetTaken hu

variable {p : Placing}

theorem lasts_takeGroup (h : Lasts P p.state) : Lasts P (takeGroup p).state := by
  unfold takeGroup
  split
  · exact h
  · exact lasts_takeIntakes h

theorem lasts_askActive {n : Nat} {zs : List Nat} (h : Lasts P p.state) : Lasts P (askActive n zs p).1.state := by
  induction zs generalizing p with
  | nil => exact h
  | cons z zs ih =>
    have hz := lasts_zoneRequest (z := z) (w := .active) (ev := .zoneActive) (d := n) (lasts_takeGroup h)
    unfold askActive
    dsimp only
    split <;> rename_i u he <;> rw [he] at hz
    · exact ih (p := { takeGroup p with made := (takeGroup p).made ++ [z], state := u }) hz
    · exact hz

theorem lasts_askSecondary {zs : List Nat} (h : Lasts P p.state) : Lasts P (askSecondary zs p).state := by
  induction zs generalizing p with
  | nil => exact h
  | cons z zs ih =>
    exact ih (p := { takeGroup p with
      state := (zoneRequest z .secondary .zoneSecondary 0 (takeGroup p).state).1 }) (lasts_zoneRequest (lasts_takeGroup h))

theorem lasts_instruct {zs : List Nat} {n : Nat} (h : Lasts P s) : Lasts P (instruct zs n s) :=
  lasts_ite (lasts_ite h (lasts_instructLoad h)) (lasts_ite (lasts_instructEnd h) (lasts_ite h (lasts_instructSwitch h)))

theorem lasts_decisionTimes {n : Nat} (h : Lasts P p.state) : Lasts P (decisionTimes n p).state := by
  induction n generalizing p with
  | zero => exact h
  | succ n ih =>
    have ha := lasts_askActive (n := (newServed p.state p.made (waitingSet p.state p.made)).2)
      (zs := (newServed p.state p.made (waitingSet p.state p.made)).1.filter
        (fun z => (zoneRec p.state z).state != .active)) h
    unfold decisionTimes
    dsimp only
    split <;> rename_i q he <;> rw [he] at ha
    · exact ih (lasts_takeGroup ha)
    · exact lasts_instruct (lasts_takeIntakes (lasts_askSecondary ha))

theorem lasts_placementDecision {during : List (List IntakeArrival)} (h : Lasts P s) :
    Lasts P (placementDecision during s) := lasts_decisionTimes (p := { during := during, made := [], state := s }) h

/-! ### The Firefighter Control Unit -/

theorem lasts_handFf (h : Lasts P s) : Lasts P (handFf s) := lasts_changeLayers h (h.nodup_configured.filter _)

theorem lasts_superviseFrame (h : Lasts P s) : Lasts P (superviseFrame s) := by
  unfold superviseFrame
  dsimp only
  split
  · exact lasts_raise h.of_eq
  · exact h.of_eq
  · exact lasts_raise h.of_eq

theorem lasts_takeAllStop {b : Bool} (h : Lasts P s) : Lasts P (takeAllStop b s) :=
  lasts_ite h (lasts_ite (lasts_raise h.of_eq) (lasts_raise h.of_eq))

theorem lasts_takeSwitch {a b c : Nat} (h : Lasts P s) : Lasts P (takeSwitch a b c s) := by
  have hu : Lasts P (unmapped b c s) := lasts_raise h
  refine lasts_ite ?_ (lasts_ite ?_ hu)
  · split
    · exact lasts_ite (lasts_ite h h.of_eq) hu
    · exact hu
  · split
    · exact lasts_ite (lasts_ite h h.of_eq) hu
    · exact hu

theorem lasts_takeSwitches {bs : List Byte} (h : Lasts P s) : Lasts P (takeSwitches bs s) := by
  induction bs, s using takeSwitches.induct with
  | case1 s a b c rest ih => exact ih (lasts_takeSwitch h)
  | case2 s bs hn =>
    unfold takeSwitches
    split
    · exact absurd rfl (hn _ _ _ _)
    · exact h

theorem lasts_takeFfContent {bs : List Byte} (h : Lasts P s) : Lasts P (takeFfContent bs s) := by
  unfold takeFfContent
  split
  · exact lasts_raise h
  · exact lasts_ite (lasts_raise h) (lasts_handFf (lasts_takeSwitches (lasts_takeAllStop h)))

theorem lasts_ffStateTaken {a : Nat} {bs : List Byte} (h : Lasts P s) : Lasts P (ffStateTaken a bs s) :=
  lasts_takeFfContent (lasts_ite (lasts_superviseFrame h) h)

theorem lasts_panelLost (h : Lasts P s) : Lasts P (panelLost s) := lasts_raise h.of_eq

theorem lasts_ffEntryWritten (h : Lasts P s) : Lasts P (ffEntryWritten o s) := lasts_handFf h.of_eq

/-! ### The panel link -/

theorem lasts_unmappedOpen {a b : Option Nat} (h : Lasts P s) : Lasts P (unmappedOpen a b s) :=
  have hf : Lasts P (useFree (useFree s)) := h.of_eq
  lasts_unmapped hf

theorem lasts_supplyStateTaken {b n : Nat} (h : Lasts P s) : Lasts P (supplyStateTaken b n s) := by
  unfold supplyStateTaken
  split
  · exact lasts_ite (lasts_ite h ⟨h.lasting, h.lasting.source b _ h.holds⟩) (lasts_unmappedOpen h)
  · exact lasts_unmappedOpen h

theorem lasts_readBld {bs : List Byte} {acc : List (Nat × Option Cmd)} (h : Lasts P s) :
    Lasts P (readBld bs acc s).2 := by
  induction bs, acc, s using readBld.induct with
  | case1 s acc a b rest hf ih =>
    rw [readBld, if_pos hf]
    exact ih h
  | case2 s acc a b rest hf ih =>
    rw [readBld, if_neg hf]
    exact ih (lasts_raise h)
  | case3 s acc bs hn =>
    unfold readBld
    split
    · exact absurd rfl (hn _ _ _)
    · exact h

theorem lasts_bldCmdTaken {a : Nat} {bs : List Byte} (h : Lasts P s) : Lasts P (bldCmdTaken a bs s) :=
  lasts_ite (lasts_raise h) (lasts_changeLayers (lasts_readBld h) (h.nodup_configured.filter _))

theorem lasts_takeArrival {f : Frame} (h : Lasts P s) : Lasts P (takeArrival f s) :=
  lasts_ite (lasts_ite (lasts_endStep (lasts_zoneEventTaken h)) (lasts_unmappedOpen h))
    (lasts_ite (lasts_ite (lasts_zoneResetTaken h) (lasts_unmappedOpen h))
      (lasts_ite (lasts_ite (lasts_endStep (lasts_supplyStateTaken h)) (lasts_unmappedOpen h))
        (lasts_ite (lasts_endStep (lasts_ffStateTaken h)) (lasts_endStep (lasts_bldCmdTaken h)))))

theorem lasts_mapFrame {f : Frame} (h : Lasts P s) : Lasts P (mapFrame f s) := by
  unfold mapFrame
  split
  · exact lasts_sendFail h
  · split
    · exact lasts_sendFail h
    · exact lasts_offerForward h

theorem lasts_candidateTaken {f : Frame} (h : Lasts P s) : Lasts P (candidateTaken f s) :=
  lasts_ite h (lasts_ite (lasts_raise h) (lasts_endStep (lasts_mapFrame h)))

theorem lasts_sortFrame {f : Frame} (h : Lasts P s) : Lasts P (sortFrame f s) :=
  lasts_ite h (lasts_ite (lasts_candidateTaken h) (lasts_ite h.of_eq (lasts_ite (lasts_takeArrival h) (lasts_raise h))))

theorem lasts_panelBytes {bs : List Byte} (h : Lasts P s) : Lasts P (panelBytes bs s) := by
  unfold panelBytes
  split
  · exact h
  · exact h.of_eq
  · exact lasts_sortFrame h

theorem lasts_headSent (h : Lasts P s) : Lasts P (headSent s) := by
  unfold headSent
  split
  · exact h
  · unfold afterSent
    split
    · exact h.of_eq
    · exact lasts_ite h.of_eq h.of_eq
    · exact h.of_eq

/-! ### The plant link's receiver -/

theorem lasts_takeReply {x : Exchange} {k : Nat} {bs : List Byte} (h : Lasts P s) : Lasts P (takeReply x k bs s) := by
  refine lasts_ite h.of_eq ?_
  split
  · split
    · exact lasts_endStep (lasts_commandAnswered h)
    · exact h.of_eq
  · exact lasts_endStep (lasts_pollAnswered h)
  · exact lasts_endStep (lasts_forwardAnswered h)

theorem lasts_plantBytes {bs : List Byte} (h : Lasts P s) : Lasts P (plantBytes bs s) := by
  unfold plantBytes
  split
  · exact h
  · exact h.of_eq
  · split
    · exact h.of_eq
    · exact lasts_ite (lasts_takeReply h) h.of_eq

theorem lasts_sendComplete (h : Lasts P s) : Lasts P (sendComplete s) := by
  unfold sendComplete
  split
  · exact lasts_ite h.of_eq h
  · exact h

theorem lasts_ackTaken {n : Nat} (h : Lasts P s) : Lasts P (ackTaken n s) := by
  unfold ackTaken
  split
  · split
    · exact lasts_endStep (lasts_commandAnswered h)
    · exact h.of_eq
  · exact h.of_eq

theorem lasts_stateTaken {bs : List Byte} (h : Lasts P s) : Lasts P (stateTaken bs s) := by
  unfold stateTaken
  split
  · exact lasts_ite (lasts_endStep (lasts_pollAnswered h)) h.of_eq
  · exact h.of_eq

theorem lasts_forwardTaken {k : Nat} {bs : List Byte} (h : Lasts P s) : Lasts P (forwardTaken k bs s) := by
  unfold forwardTaken
  split
  · split
    · exact lasts_ite h.of_eq (lasts_endStep (lasts_forwardAnswered h))
    · exact h.of_eq
  · exact h.of_eq

theorem lasts_forwardWaited {n : Nat} (h : Lasts P s) : Lasts P (forwardWaited n s) := by
  unfold forwardWaited
  split
  · exact lasts_endStep h.of_eq
  · exact h

/-! ### Starts -/

/-- R174: a cut-off write leaves the stored entry as it was or as written. -/
theorem lasts_interruptWrite (h : Lasts P s) : Lasts P (interruptWrite s) := by
  unfold interruptWrite
  split
  · exact h
  · rename_i w _
    have hs : Lasts P { s with nv := putEntry w.ref w.fields s.nv } :=
      ⟨h.lasting, h.lasting.stored w.ref w.fields h.holds⟩
    by_cases hc : Config.interruptedWriteStored s.free = true
    · exact hs.of_eq (hn := if_pos hc)
    · exact h.of_eq (hn := if_neg hc)

theorem lasts_startBlocks (h : Lasts P s) : Lasts P (startBlocks s) :=
  (⟨h.lasting, h.lasting.blank h.holds⟩ : Lasts P { s with outs := [], boards := [] }).of_eq

theorem lasts_changeMode {m : Mode} (h : Lasts P s) : Lasts P (changeMode m s) :=
  lasts_raise (Lasts.of_eq (t := { s with mode := m }) h)

theorem lasts_buildSlowRing (h : Lasts P s) : Lasts P (buildSlowRing s) := h.of_eq

theorem lasts_startPacer (h : Lasts P s) : Lasts P (startPacer s) := h.of_eq

/-- R176: the read and the way out of START. -/
theorem lasts_leaveStart {bad : List EntryRef} (h : Lasts P s) (hb : s.boards = []) : Lasts P (leaveStart bad s) := by
  have hr : Lasts P (readTables bad s) :=
    (⟨h.lasting, h.lasting.read bad h.holds⟩ : Lasts P (readTables bad { s with boards := [] })).of_eq (hs := hb)
  unfold leaveStart
  dsimp only
  split
  · have hc : ∀ {r}, Lasts P (configInvalid r (readTables bad s)) :=
      lasts_raise (Lasts.of_eq (t := { readTables bad s with failing := some _ }) hr)
    exact lasts_startPacer (lasts_buildSlowRing (lasts_changeMode hc))
  · exact lasts_placementDecision (lasts_startPacer (lasts_buildSlowRing
      (lasts_changeMode (Lasts.of_eq (t := { readTables bad s with failing := none }) hr))))

theorem lasts_coldStart {bad : List EntryRef} (h : Lasts P s) : Lasts P (coldStart bad s) :=
  lasts_leaveStart (lasts_startBlocks (lasts_interruptWrite h)).of_eq rfl

theorem lasts_warmStart {cause : RestartCause} {bad : List EntryRef} (h : Lasts P s) : Lasts P (warmStart cause bad s) :=
  lasts_leaveStart (lasts_raise (lasts_startBlocks (lasts_interruptWrite h))) (boards_report _ _)

/-! ### Table writes and the entry to NORMAL -/

/-- R174: an entry comes into force. -/
theorem lasts_bringIntoForce {w : NvWrite} (h : Lasts P s) : Lasts P (bringIntoForce w s) := by
  have hn : Lasts P { s with nv := putEntry w.ref w.fields s.nv } := ⟨h.lasting, h.lasting.stored w.ref w.fields h.holds⟩
  unfold bringIntoForce
  dsimp only
  split
  · exact lasts_ffEntryWritten ⟨hn.lasting, hn.lasting.output _ _ hn.holds⟩
  · rename_i e
    have hp : putEntry w.ref w.fields s.tables =
        { s.tables with boards := sput blankBoard w.ref.index (boardOfFields w.fields) s.tables.boards } := by
      simp only [putEntry, e]
    have hb := hn.lasting.board w.ref.index (boardOfFields w.fields) hn.holds
    rw [hp]
    exact ⟨h.lasting, hb⟩
  · rename_i ho hb
    have hp : (putEntry w.ref w.fields s.tables).outputs = s.tables.outputs ∧
        (putEntry w.ref w.fields s.tables).boards = s.tables.boards := by
      unfold putEntry
      split
      case h_1 e => exact absurd e ho
      case h_6 e => exact absurd e hb
      all_goals exact ⟨rfl, rfl⟩
    exact hn.of_eq (he := hp.1) (hb := hp.2)

theorem lasts_enterNormalMode {during : List (List IntakeArrival)} (h : Lasts P s) :
    Lasts P (enterNormalMode during s) := by
  have hf : Lasts P { s with failing := none } := h.of_eq
  have ht := lasts_changeMode (m := .normal) (lasts_buildSlowRing (lasts_reevaluateZones hf))
  exact lasts_placementDecision (lasts_drain (lasts_ite (lasts_revokeHold ht) ht))

/-! ### Requests -/

variable {q : Requester}

theorem lasts_answer {x : Result} (h : Lasts P s) : Lasts P (answer q x s) := h.of_eq

theorem lasts_answerFrame {k : Nat} {p : List Byte} {a : AfterSent} (h : Lasts P s) : Lasts P (answerFrame q k p a s) :=
  h.of_eq

theorem lasts_answerWrite {x : Option TableId} {y : Result} (h : Lasts P s) : Lasts P (answerWrite x q y s) := h.of_eq

theorem lasts_answerStatus {a b c : Nat} {d : Bool} {bs : List Byte} (h : Lasts P s) :
    Lasts P (answerStatus q a b c d bs s) :=
  lasts_ite (lasts_answer h) (lasts_ite (lasts_answer h) (lasts_answerFrame (lasts_ite h.of_eq h)))

theorem lasts_serveIsolateOn (h : Lasts P s) : Lasts P (serveIsolateOn q z s) := by
  unfold serveIsolateOn
  split
  · exact lasts_answer h
  · exact lasts_answer (lasts_isolateZone h)

theorem lasts_serveIsolateOff (h : Lasts P s) : Lasts P (serveIsolateOff q z s) := by
  unfold serveIsolateOff
  split
  · exact lasts_answer h
  · exact lasts_endStep (lasts_answer (lasts_deisolateZone h))

theorem lasts_serveOutputReset (h : Lasts P s) : Lasts P (serveOutputReset q o s) :=
  lasts_ite (lasts_answer h) (lasts_ite (lasts_answer h) (lasts_ite
    (lasts_endStep (lasts_answer (lasts_drain ⟨h.lasting, h.lasting.reset o h.holds⟩))) (lasts_answer h)))

theorem lasts_serveFaultAck {n l : Nat} (h : Lasts P s) : Lasts P (serveFaultAck q n l s) := by
  unfold serveFaultAck
  split
  · exact lasts_answer h
  · exact lasts_ite h.of_eq (lasts_answer h)

theorem lasts_serveTrailRead {n k : Nat} (h : Lasts P s) : Lasts P (serveTrailRead q n k s) :=
  lasts_ite (lasts_answer h) (lasts_answerFrame h)

theorem lasts_serveEnterService (h : Lasts P s) : Lasts P (serveEnterService q s) := by
  unfold serveEnterService
  split
  · exact lasts_answer h
  · exact lasts_answer (lasts_ite (lasts_changeMode h) h)

theorem lasts_serveEnterNormal (h : Lasts P s) : Lasts P (serveEnterNormal q s) := by
  refine lasts_ite (lasts_answer h) ?_
  split
  · exact lasts_answer h
  · exact h.of_eq

theorem lasts_serveValidation (h : Lasts P s) : Lasts P (serveValidation q s) := by
  unfold serveValidation
  dsimp only
  split
  · exact lasts_answer (lasts_raise h.of_eq)
  · exact lasts_endStep (lasts_answer (lasts_drain (lasts_enterNormalMode h.of_eq)))

theorem lasts_serveRestart (h : Lasts P s) : Lasts P (serveRestart q s) := by
  unfold serveRestart
  split
  · exact lasts_answer h
  · exact lasts_answerFrame h

theorem lasts_serveTsel {x i : Nat} (h : Lasts P s) : Lasts P (serveTsel q x i s) := by
  refine lasts_ite (lasts_answer h) ?_
  split
  · exact lasts_answer h
  · exact lasts_ite h.of_eq (lasts_answer h)

theorem lasts_serveTrd (h : Lasts P s) : Lasts P (serveTrd q s) := by
  refine lasts_ite (lasts_answer h) ?_
  split
  · exact lasts_answer h
  · exact lasts_ite (lasts_answer h) h.of_eq

theorem lasts_serveTwr {i : Nat} {e : List Byte} (h : Lasts P s) : Lasts P (serveTwr q i e s) := by
  unfold serveTwr
  split
  · exact lasts_answerWrite h
  · exact h.of_eq

theorem lasts_serveNvWrite {w : NvWrite} {b : Bool} (h : Lasts P s) : Lasts P (serveNvWrite w b s) := by
  have hd : Lasts P (drain (bringIntoForce w { s with nvWrite := none })) := lasts_drain (lasts_bringIntoForce h.of_eq)
  refine lasts_ite (lasts_endStep (Lasts.of_eq hd)) ?_
  have hs : Lasts P { s with nv := putEntry w.ref w.fields s.nv } := ⟨h.lasting, h.lasting.stored w.ref w.fields h.holds⟩
  by_cases hc : Config.failedWriteStored s.free = true
  · exact hs.of_eq (hn := if_pos hc)
  · exact h.of_eq (hn := if_neg hc)

theorem lasts_serveTestRun {n : Nat} (h : Lasts P s) : Lasts P (serveTestRun q n s) :=
  lasts_ite (lasts_answer h) (lasts_ite (lasts_answer h) (lasts_ite (lasts_answer h) (lasts_ite (lasts_answer h)
    (lasts_ite (lasts_answer h) (lasts_endStep (lasts_answer (lasts_drain (lasts_instructTest h))))))))

theorem lasts_serveTestEnd (h : Lasts P s) : Lasts P (serveTestEnd q s) :=
  lasts_ite (lasts_answer h) (lasts_ite (lasts_endStep (lasts_answer (lasts_drain (lasts_instructEnd h)))) (lasts_answer h))

theorem lasts_serveHoldAsk (h : Lasts P s) : Lasts P (serveHoldAsk q s) := by
  unfold serveHoldAsk
  split
  · exact lasts_answer h
  · exact lasts_endStep h.of_eq

theorem lasts_serveHoldEnd (h : Lasts P s) : Lasts P (serveHoldEnd q s) := by
  have he : Lasts P (holdEnded s) := by
    unfold holdEnded
    split
    · exact lasts_refuseHold h
    · exact lasts_drain (lasts_holdProgress h.of_eq)
    · exact h
  exact lasts_ite (lasts_answer h) (lasts_endStep (lasts_answer he))

theorem lasts_takeHead (h : Lasts P s) : Lasts P (takeHead s) := by
  have hr : ∀ {f x} {u : State}, Lasts P u → Lasts P (refuseRequest f x u) := fun hu =>
    lasts_ite (lasts_answerWrite hu) (lasts_answer hu)
  unfold takeHead
  split
  · exact h
  · rename_i f rest _
    have hp : Lasts P (setPanel (fun p => { p with inbound := rest }) s) := h.of_eq
    refine lasts_ite (lasts_ite (hr hp) ?_) h
    split
    · exact hr hp
    · exact hp.of_eq

theorem lasts_noticeTaken {during : List (List IntakeArrival)} (h : Lasts P s) : Lasts P (noticeTaken during s) := by
  unfold noticeTaken
  split
  · exact h
  · exact lasts_ite (lasts_endStep (lasts_placementDecision h.of_eq)) h.of_eq

/-! ### Every command -/

theorem lasts_acting {work : State → State} (h : Lasts P s) (he : acting work s = .next t) (hw : Lasts P (work s)) :
    Lasts P t := by
  cases he
  exact lasts_ite hw h

theorem lasts_serving {row : Instr} {work : State → State} (h : Lasts P s) (he : serving row work s = .next t)
    (hw : ∀ {u}, Lasts P u → Lasts P (work u)) : Lasts P t :=
  lasts_acting h he (lasts_ite (hw h.of_eq) h)

/-- R155: a STATUS_ASK only answers. -/
theorem lasts_statusAsk {row : Instr} {q : Requester} {a i p : Nat} {d : Bool} {bs : State → List Byte}
    (h : Lasts P s) (he : serving row (fun u => answerStatus q a i p d (bs u) u) s = .next t) : Lasts P t :=
  lasts_serving h he lasts_answerStatus

/-- Every command keeps a lasting property. -/
theorem exec_lasts {c : Instr} (h : Lasts P s) (he : exec c s = .next t) : Lasts P t := by
  cases c with
  | powerUp bad =>
    cases he
    have hp : Lasts P { s with powered := true } := h.of_eq
    exact lasts_ite (lasts_startBlocks (lasts_interruptWrite h)).of_eq (lasts_coldStart hp)
  | resetLineAssert => cases he; exact (lasts_interruptWrite h).of_eq
  | powerFailure => cases he; exact (lasts_interruptWrite h).of_eq
  | resetLineRelease bad =>
    cases he
    have hr : Lasts P { s with resetHeld := false } := h.of_eq
    exact lasts_ite h (lasts_ite (lasts_warmStart hr) hr)
  | warmStart bad => exact lasts_acting h he (lasts_ite (lasts_warmStart h) h)
  | uptimeTick =>
    cases he
    have ht : Lasts P (tickUptime s) := h.of_eq
    exact lasts_ite h (lasts_ite ht ⟨ht.lasting, ht.lasting.tick ht.holds⟩)
  | panelFrameReceived bs => exact lasts_acting h he (lasts_panelBytes h)
  | requestArrival f => exact lasts_acting h he h.of_eq
  | requestTaken => exact lasts_acting h he (lasts_takeHead h)
  | outboundFrameSent => exact lasts_acting h he (lasts_headSent h)
  | zoneEvent z a k => cases he; exact lasts_ite (lasts_endStep (lasts_zoneEventTaken h)) h
  | zoneReset z => exact lasts_acting h he (lasts_zoneResetTaken h)
  | supplyState b x => cases he; exact lasts_ite (lasts_endStep (lasts_supplyStateTaken h)) h
  | ffState x p => cases he; exact lasts_ite (lasts_endStep (lasts_ffStateTaken h)) h
  | bldCmd x p => cases he; exact lasts_ite (lasts_endStep (lasts_bldCmdTaken h)) h
  | zoneIsolateOn q z => exact lasts_serving h he lasts_serveIsolateOn
  | zoneIsolateOff q z => exact lasts_serving h he lasts_serveIsolateOff
  | outputReset q o => exact lasts_serving h he lasts_serveOutputReset
  | faultAck q n l => exact lasts_serving h he lasts_serveFaultAck
  | trailRead q n k => exact lasts_serving h he lasts_serveTrailRead
  | statusAskSummary q i p => exact lasts_statusAsk (bs := summaryReport) h he
  | statusAskZone q i p => exact lasts_statusAsk (bs := fun u => zoneReport u i) h he
  | statusAskOutput q i p => exact lasts_statusAsk (bs := fun u => outputReport u i) h he
  | statusAskRun q i p => exact lasts_statusAsk (bs := runReport) h he
  | statusAskBoard q i p => exact lasts_statusAsk (bs := fun u => boardReport u i) h he
  | statusAskFirstFault q i p => exact lasts_statusAsk (bs := firstFaultReport) h he
  | enterService q => exact lasts_serving h he lasts_serveEnterService
  | enterNormal q => exact lasts_serving h he lasts_serveEnterNormal
  | modeRestart q => exact lasts_serving h he lasts_serveRestart
  | tsel q x i => exact lasts_serving h he lasts_serveTsel
  | trd q => exact lasts_serving h he lasts_serveTrd
  | twr q i e => exact lasts_serving h he lasts_serveTwr
  | testRun q n => exact lasts_serving h he lasts_serveTestRun
  | testEnd q => exact lasts_serving h he lasts_serveTestEnd
  | holdAsk q => exact lasts_serving h he lasts_serveHoldAsk
  | holdEnd q => exact lasts_serving h he lasts_serveHoldEnd
  | validationComplete =>
    cases he
    refine lasts_ite ?_ h
    dsimp only
    split
    · exact lasts_serveValidation h
    · exact h
  | nvWriteComplete b =>
    cases he
    refine lasts_ite ?_ h
    dsimp only
    split
    · exact lasts_serveNvWrite h
    · exact h
  | forwardCandidate f => exact lasts_acting h he (lasts_candidateTaken h)
  | placementDecision during =>
    have hg : Lasts P (giveForEntry during s) := lasts_ite h.of_eq h
    cases he
    exact lasts_ite (lasts_noticeTaken hg) h
  | delayTimerExpiry => exact lasts_acting h he (lasts_ite (lasts_endStep (lasts_delayExpired h)) h)
  | establishDeadlineExpiry => exact lasts_acting h he (lasts_ite (lasts_endStep (lasts_deadlineExpired h)) h)
  | plantSendComplete => exact lasts_acting h he (lasts_sendComplete h)
  | plantFrameReceived bs => exact lasts_acting h he (lasts_plantBytes h)
  | cmdAck ch r => exact lasts_acting h he (lasts_ackTaken h)
  | stateReply bs => exact lasts_acting h he (lasts_stateTaken h)
  | forwardReply k p => exact lasts_acting h he (lasts_forwardTaken h)
  | proofTimerExpiry o =>
    exact lasts_acting h he (lasts_ite (lasts_endStep ⟨h.lasting, h.lasting.expired o h.holds⟩) h)
  | replyWindowExpiry =>
    cases he
    refine lasts_ite ?_ h
    dsimp only
    split
    · exact lasts_ite (lasts_endStep (lasts_windowExpired h)) h
    · exact h
  | pacerTimerExpiry => exact lasts_acting h he (lasts_ite (lasts_endStep h.of_eq) h)
  | forwardWaitExpiry n => exact lasts_acting h he (lasts_forwardWaited h)
  | holdTimerExpiry => exact lasts_acting h he (lasts_ite (lasts_endStep h.of_eq) h)
  | startHeld f => exact lasts_acting h he ⟨h.lasting, h.lasting.warned f h.holds⟩
  | supervisionTimerExpiry => exact lasts_acting h he (lasts_ite (lasts_panelLost h) h)

/-- Every step keeps a lasting property: it idles or runs a command. -/
theorem step_lasts (k : Lasting P) (h : P s) (he : step s = .next t) : P t := by
  rcases step_cases he with rfl | ⟨c, rest, -, he⟩
  · exact h
  · exact (exec_lasts (Lasts.of_eq (t := { s with pending := rest }) ⟨k, h⟩) he).holds

end Sys2Proof.Machine
end

section
/-! The resolved command follows the layers (O12): what the Output Resolver's operations on one output leave (Kept), and that
a recomputation resolves every output whose layers have changed. -/

namespace Sys2Proof.Machine

-- Elaborated one after another: the check bounds Lean's threads.
set_option Elab.async false

variable {s t u : State} {ps : List Nat} {o x : Nat} {f : OutRec → OutRec}

/-! ### Endings of exchanges, proof, readings and modules leave layers and commands -/

theorem kept_releaseSlot (h : Kept ps s t) : Kept ps s (releaseSlot o t) := kept_ite (kept_examineFor (kept_modOut h)) h

theorem kept_takeView (h : Kept ps s t) {v : View} {a b : Bool} : Kept ps s (takeView o v a b t) := by
  have hm : Kept ps s (modOut o (fun r => { r with view := v, valid := a, unusable := b }) t) := kept_modOut h
  exact kept_ite (kept_tellMonitor hm) hm

theorem kept_examineIfFallen (h : Kept ps s t) {n : Nat} : Kept ps s (examineIfFallen o n t) :=
  kept_ite (kept_examineFor h) h

theorem kept_examineAndWarn (h : Kept ps s t) {b : Nat} : Kept ps s (examineAndWarn b t) :=
  kept_foldl (fun _ hu => kept_warnHeld hu) (kept_examine h)

section
variable (ho : o ∈ ps)
include ho

theorem kept_acceptCommand (h : Kept ps s t) {c : Cmd} : Kept ps s (acceptCommand o c t) := by
  have hs := kept_setAct (a := acceptedAct (outEntry t o) (outRec t o).view c) (kept_modOut h (o := o) (f :=
    acceptRecord (outRec t o).view (proofTime (outEntry t o) (acceptedAct (outEntry t o) (outRec t o).view c)))) (.mem ho)
  unfold acceptCommand
  dsimp only
  split
  · exact kept_ite (kept_releaseSlot hs) hs
  · exact hs

theorem kept_sentEnding (h : Kept ps s t) {a : Ack} : Kept ps s (sentEnding o a t) := by
  unfold sentEnding
  dsimp only
  split
  · exact h
  · cases a with
    | accepted => exact kept_acceptCommand ho h
    | busy => exact kept_ite (kept_toFault (kept_modOut h) (.mem ho)) (kept_enqueue (kept_modOut h) (.mem ho))
    | refusedLocal => exact kept_toFault (kept_modOut h) (.mem ho)
    | badChannel => exact kept_toFault h (.mem ho)

omit ho in
theorem kept_supersededEnding (h : Kept ps s t) {a : Ack} : Kept ps s (supersededEnding o a t) := by
  unfold supersededEnding
  split
  · exact h
  · split
    · exact kept_releaseSlot h
    · exact kept_modOut h

theorem kept_exchangeEnded (h : Kept ps s t) {a : Ack} : Kept ps s (exchangeEnded o a t) := by
  unfold exchangeEnded
  split
  · exact kept_onOutput ho h fun hu => kept_sentEnding ho hu
  · exact kept_onOutput ho h fun hu => kept_supersededEnding hu

theorem kept_proofExpired (h : Kept ps s t) : Kept ps s (proofExpired o t) := by
  unfold proofExpired
  dsimp only
  refine kept_onOutput ho h fun hu => ?_
  split
  · exact kept_enqueue (kept_modOut hu) (.mem ho)
  · exact kept_toFault hu (.mem ho)

theorem kept_placeFromWait (h : Kept ps s t) : Kept ps s (placeFromWait o t) :=
  kept_ite (kept_examineFor (kept_place ho h)) (kept_place ho h)

theorem kept_readInFault (h : Kept ps s t) {old : OutRec} {c : Cmd} : Kept ps s (readInFault o old c t) :=
  kept_ite h (kept_ite (kept_settle (kept_raise (kept_modOut h)) (.mem ho)) (kept_ite (kept_newAttempt ho h) h))

theorem kept_depart (h : Kept ps s t) {c : Cmd} : Kept ps s (depart o c t) :=
  kept_ite (kept_enqueue h (.mem ho)) (kept_ite (kept_enqueue (kept_modOut h) (.mem ho)) (kept_toFault h (.mem ho)))

theorem kept_readInState (h : Kept ps s t) {old : OutRec} {c : Cmd} : Kept ps s (readInState o old c t) := by
  unfold readInState
  dsimp only
  split
  case h_4 => exact kept_ite h (kept_depart ho h)
  case h_5 | h_6 => exact kept_ite (kept_placeFromWait ho h) h
  case h_7 => exact h
  all_goals exact kept_ite (kept_settle h (.mem ho)) (kept_ite (kept_modOut h) h)

theorem kept_afterReading (h : Kept ps s t) {old : OutRec} : Kept ps s (afterReading o old t) := by
  unfold afterReading
  split
  · exact kept_settle h (.mem ho)
  · exact kept_place ho h
  · exact h
  · exact kept_readInFault ho h
  · split
    · exact kept_ite (kept_toFault h (.mem ho)) (kept_readInState ho h)
    · exact kept_readInState ho h

theorem kept_takeReading (h : Kept ps s t) {b : Nat} : Kept ps s (takeReading o b t) :=
  kept_examineIfFallen (kept_onOutput ho h fun hu => kept_afterReading ho (kept_takeView hu))

theorem kept_takeUnusable (h : Kept ps s t) : Kept ps s (takeUnusable o t) :=
  kept_examineIfFallen (kept_onOutput ho h fun hu => kept_ite (kept_setAct (kept_takeView hu) (.mem ho))
    (kept_ite (kept_takeView hu) (kept_toFault (kept_takeView hu) (.mem ho))))

theorem kept_outputLost (h : Kept ps s t) : Kept ps s (outputLost o t) :=
  kept_onOutput ho h fun hu => kept_ite (kept_takeView hu) (kept_ite (kept_setAct (kept_takeView hu) (.mem ho))
    (kept_toFault (kept_takeView hu) (.mem ho)))

theorem kept_outputReturned (h : Kept ps s t) : Kept ps s (outputReturned o t) :=
  kept_ite (kept_onOutput ho h fun hu => kept_newAttempt ho hu) h

theorem kept_replaceQueued (h : Kept ps s t) : Kept ps s (replaceQueued o t) := by
  unfold replaceQueued
  dsimp only
  split
  · exact kept_ite (kept_onOutput ho (kept_dequeue h) (kept_place ho)) h
  · exact h

theorem kept_reassertOutput (h : Kept ps s t) : Kept ps s (reassertOutput o t) := by
  unfold reassertOutput
  dsimp only
  split
  · exact kept_ite (kept_onOutput ho h (kept_place ho)) h
  · exact h

end

/-! ### The law, but for some outputs -/

/-- R60: an entry of another layer alone does not change what a record resolves to. -/
theorem resolve_congr {e : OutputEntry} {r r' : OutRec} (h : layersOf r' = layersOf r) : resolve e r' = resolve e r := by
  simp only [layersOf, Prod.mk.injEq] at h
  obtain ⟨hff, hfire, hsafe, hbld, -⟩ := h
  simp only [resolve, hff, hfire, hsafe, hbld]

/-- The tables and records are in canonical form, and the resolved command of every configured output but those of `ps` is
that of its layers. -/
structure Laid (ps : List Nat) (s : State) : Prop where
  entries : outputsWf s
  stored : sparseWf blankOutput s.nv.outputs = true
  wf : outsWf s
  layers : ∀ o, o ∉ ps → isConfigured (outEntry s o) = true →
    (outRec s o).resolved = resolve (outEntry s o) (outRec s o)

/-- Parts that the law does not speak of change. -/
theorem Laid.of_eq (h : Laid ps s) (ho : t.outs = s.outs) (ht : t.tables.outputs = s.tables.outputs) (hn : t.nv = s.nv) :
    Laid ps t := by
  have he : ∀ o, outEntry t o = outEntry s o := fun o => by simp only [outEntry, outputOf, ht]
  refine ⟨by unfold outputsWf; rw [ht]; exact h.entries, hn ▸ h.stored, by unfold outsWf; rw [ho]; exact h.wf,
    fun o hp hc => ?_⟩
  rw [outRec_congr ho, he]
  exact h.layers o hp (he o ▸ hc)

theorem Laid.mono (h : Laid ps s) {qs : List Nat} (hs : ∀ x ∈ ps, x ∈ qs) : Laid qs s :=
  { h with layers := fun o ho => h.layers o fun hp => ho (hs o hp) }

/-- Work that keeps layers and resolved commands keeps the law. -/
theorem Laid.kept {qs : List Nat} (h : Laid ps s) (k : Kept qs s t) (w : Work s t) : Laid ps t := by
  refine ⟨by unfold outputsWf; rw [k.tables]; exact h.entries, w.nv ▸ h.stored, k.wf h.wf, fun o hp hc => ?_⟩
  rw [outEntry_congr k.tables] at hc ⊢
  rw [k.resolved h.wf, resolve_congr (k.layers h.wf o)]
  exact h.layers o hp hc

/-- A record is written, and its output has the law or is one of those set apart. -/
theorem Laid.modOut (h : Laid ps s) {qs : List Nat} (hq : ∀ x, x ≠ o → x ∉ qs → x ∉ ps)
    (ho : o ∈ qs ∨ (isConfigured (outEntry s o) = true →
      (f (outRec s o)).resolved = resolve (outEntry s o) (f (outRec s o)))) : Laid qs (modOut o f s) := by
  refine ⟨h.entries, h.stored, outsWf_modOut h.wf, fun x hx hc => ?_⟩
  rw [outRec_modOut h.wf]
  split
  · rename_i e
    subst e
    exact ho.resolve_left hx hc
  · rename_i e
    exact h.layers x (hq x e hx) hc

theorem laid_foldl {α : Type} {g : State → α → State} (hg : ∀ {u : State} (x : α), Laid ps u → Laid ps (g u x))
    {xs : List α} (h : Laid ps s) : Laid ps (xs.foldl g s) := by
  induction xs generalizing s with
  | nil => exact h
  | cons x xs ih => exact ih (hg x h)

/-- What follows the work done for one output keeps the law. -/
theorem laid_onOutput {work : State → State} (h : Laid ps (work s)) : Laid ps (onOutput o work s) := by
  have hk : Kept [o] (work s) (onOutput o work s) :=
    have hr := kept_requeueStart (List.mem_singleton_self o) (.refl _ (work s))
    kept_ite (kept_rejudge hr) hr
  have hw : Work (work s) (onOutput o work s) :=
    have hr := work_requeueStart (o := o) (.refl (work s))
    work_ite (work_rejudge hr) hr
  exact h.kept hk hw

/-! ### Recomputation -/

/-- R60: an output that takes its command has the law. -/
theorem laid_takeCommand (h : Laid (o :: ps) s) : Laid ps (takeCommand o s) := by
  have he : Laid (o :: ps) (modOut o endWait s) := h.modOut (fun _ _ hx => hx) (.inl List.mem_cons_self)
  exact he.modOut (fun x hxo hx => by simp [hxo, hx]) (.inr fun _ => rfl)

theorem laid_foldl_takeCommand {os : List Nat} (h : Laid (os ++ ps) s) :
    Laid ps (os.foldl (fun t o => takeCommand o t) s) := by
  induction os generalizing s with
  | nil => exact h
  | cons o os ih => exact ih (laid_takeCommand h)

/-- R60: acting on an output leaves layers and resolved commands. -/
theorem laid_actOnOne {changed : List Nat} (h : Laid ps t) : Laid ps (actOnOne s changed t o) := by
  have ho := List.mem_singleton_self o
  have hk : Kept [o] t (actOnOne s changed t o) :=
    kept_ite (kept_onOutput ho (.refl _ t) fun hk => kept_actOnCommand ho hk)
      (kept_ite (kept_examineFor (.refl _ t)) (.refl _ t))
  have hw : Work t (actOnOne s changed t o) :=
    work_ite (work_onOutput (.refl t) fun _ hu => work_actOnCommand hu) (work_ite (work_examineFor (.refl t)) (.refl t))
  exact h.kept hk hw

/-- R60: a recomputation gives every output of `os` the command of its layers. -/
theorem laid_recomputeAll {os : List Nat} (h : Laid os s) : Laid [] (recomputeAll os s) := by
  have hc : Laid (os.filter (commandChanged s) ++ []) s := by
    refine { h with layers := fun o ho hc => ?_ }
    by_cases hm : o ∈ os
    · have hn : commandChanged s o = false := by
        simpa [hm] using ho
      simp only [commandChanged, hc, Bool.true_and, bne_eq_false_iff_eq] at hn
      exact hn.symm
    · exact h.layers o hm hc
  have ht := laid_foldl_takeCommand hc
  exact laid_foldl (g := actOnOne s (os.filter (commandChanged s))) (fun _ hu => laid_actOnOne hu) ht

/-- R61: a change of layer entries is followed by the recomputation of its outputs. -/
theorem laid_changeLayers {w : Nat → OutRec → OutRec} {os : List Nat} (h : Laid [] s) :
    Laid [] (changeLayers w os s) := by
  have hw : ∀ (xs : List Nat) (u : State), (∀ x ∈ xs, x ∈ os) → Laid os u →
      Laid os (xs.foldl (fun t o => modOut o (w o) t) u) := by
    intro xs
    induction xs with
    | nil => exact fun _ _ hu => hu
    | cons x xs ih =>
      exact fun u hx hu => ih _ (fun y hy => hx y (List.mem_cons_of_mem x hy))
        (hu.modOut (fun _ _ hy => hy) (.inl (hx x List.mem_cons_self)))
  exact laid_recomputeAll (hw os s (fun _ hx => hx) (h.mono fun _ hx => by cases hx))

/-! ### Boards, table writes and starts -/

theorem laid_restageBoard {b : Nat} (h : Laid ps s) : Laid ps (restageBoard b s) := by
  have hs : Laid ps ((fansOn s b).foldl (fun t f => modOut f (fun r => { r with slot := none }) t) s) :=
    laid_foldl (fun f hu => hu.kept (qs := []) (kept_modOut (.refl _ _)) (work_modOut (.refl _))) h
  exact laid_foldl (fun f hu => hu.kept kept_returnToWait (work_returnToWait (.refl _))) hs

theorem laid_examineAndWarn {b : Nat} (h : Laid ps s) : Laid ps (examineAndWarn b s) :=
  h.kept (qs := []) (kept_examineAndWarn (.refl _ s)) (work_examineAndWarn (.refl s))

theorem laid_raise {ev : Ev} {a b : Nat} (h : Laid ps s) : Laid ps (raise ev a b s) :=
  h.kept (qs := []) (kept_raise (.refl _ s)) (work_raise (.refl s))

/-- R81: the entry of one output is replaced. -/
theorem laid_putOutput {new : OutputEntry} (h : Laid [] s) : Laid [o] (putOutput o new s) := by
  have ht : ∀ {u : State}, Laid [] u →
      Laid [o] { u with tables := { u.tables with outputs := sput blankOutput o new u.tables.outputs } } := by
    intro u hu
    refine ⟨sparseWf_sput hu.entries, hu.stored, hu.wf, fun x hx hc => ?_⟩
    have hxo : x ≠ o := by simpa using hx
    have he : sget blankOutput (sput blankOutput o new u.tables.outputs) x = outEntry u x := sget_sput_other hxo
    simp only [outEntry, outputOf, he] at hc ⊢
    exact hu.layers x List.not_mem_nil hc
  unfold putOutput
  dsimp only
  split
  · exact ht h
  · have ho := List.mem_singleton_self o
    exact ht (h.kept (kept_setAct (.refl _ s) (.mem ho)) (work_setAct (.refl s)))

theorem laid_dequeue (h : Laid ps s) : Laid ps (dequeue o s) := h.of_eq rfl rfl rfl

/-- R81, R99: the record is made afresh and recomputed, unless its output's place is the same. -/
theorem laid_rebuildRecord {old : OutputEntry} (h : Laid [o] s) (hq : samePlace old (outEntry s o) = true → o ∈ ps) :
    Laid ps (rebuildRecord o old s) := by
  have hslot : Laid [o] (modOut o (fun r => { r with slot := none }) s) :=
    h.modOut (fun _ _ hx => hx) (.inl (List.mem_singleton_self o))
  unfold rebuildRecord
  dsimp only
  split
  · rename_i hc
    have hc : ¬ isConfigured (outEntry s o) = true := by simpa using hc
    exact (laid_dequeue h).modOut (fun x hx _ => by simpa using hx) (.inr fun e => absurd e hc)
  split
  · exact (laid_recomputeAll
      ((laid_dequeue h).modOut (fun _ _ hx => hx) (.inl (List.mem_singleton_self o)))).mono fun _ hx => by cases hx
  · rename_i hp
    have hp : o ∈ ps := hq (by simpa using hp)
    refine Laid.mono (ps := [o]) ?_ fun x hx => List.mem_singleton.1 hx ▸ hp
    split
    · split
      · exact hslot.kept kept_returnToWait (work_returnToWait (.refl _))
      · exact hslot
    · exact h

/-- R81, R99: an output entry is written, and its output recomputed. -/
theorem laid_outputWritten {new : OutputEntry} (h : Laid [] s) : Laid [] (outputWritten o new s) := by
  have hp := laid_putOutput (o := o) (new := new) h
  have hnew : outEntry (putOutput o new s) o = new := by
    have ht : ∀ u : State, u.tables = s.tables →
        outEntry { u with tables := { u.tables with outputs := sput blankOutput o new u.tables.outputs } } o = new :=
      fun u hu => sget_sput_same (by rw [hu]; exact h.entries)
    unfold putOutput
    dsimp only
    split
    · exact ht s rfl
    · exact ht _ (work_setAct (.refl s)).tables
  have hw : ∀ {ps : List Nat}, (samePlace (outEntry s o) new = true → o ∈ ps) →
      Laid ps (onOutput o (fun u => rebuildRecord o (outEntry s o) (putOutput o new u)) s) := fun hq =>
    laid_onOutput (laid_rebuildRecord hp fun hs => hq (hnew ▸ hs))
  unfold outputWritten
  dsimp only
  refine laid_foldl (fun _ hu => laid_examineAndWarn hu) ?_
  split
  · exact laid_recomputeAll (hw fun _ => List.mem_singleton_self o)
  · exact hw fun hs => absurd hs ‹_›

/-- R58: a record after a start has no layer entry and no command. -/
theorem coldOutFor_layers (e : OutputEntry) :
    (coldOutFor e).resolved = none ∧ layersOf (coldOutFor e) = (none, none, none, none, .none) := by
  unfold coldOutFor
  split <;> exact ⟨rfl, rfl⟩

theorem resolve_of_no_layers {e : OutputEntry} {r : OutRec} (h : layersOf r = (none, none, none, none, .none)) :
    resolve e r = none := by
  rw [resolve_congr (r := coldOut) h]
  cases hs : isFanSingle e <;> simp [resolve, coldOut, hs]

/-- R176: the records that a read leaves are cold ones. -/
theorem laid_readTables {bad : List EntryRef} (h : Laid [] s) : Laid [] (readTables bad s) := by
  have hb : ∀ (bs : List EntryRef) (tb : Tables), sparseWf blankOutput tb.outputs = true →
      sparseWf blankOutput (bs.foldl (fun t r => blankEntry r t) tb).outputs = true := by
    intro bs
    induction bs with
    | nil => exact fun _ hw => hw
    | cons b bs ih => exact fun tb hw => ih _ (outputs_putEntry hw)
  have hw := hb bad s.nv h.stored
  refine ⟨hw, h.stored, sparseWf_coldOuts (readTables bad s) hw, fun o _ _ => ?_⟩
  rcases sget_mem coldOut (readTables bad s).outs o with e | ⟨p, hp, -, e⟩
  · rw [outRec, e, resolve_of_no_layers rfl]
    rfl
  · obtain ⟨x, -, rfl⟩ := List.mem_map.1 hp
    obtain ⟨hr, hl⟩ := coldOutFor_layers (outputOf (readTables bad s).tables x)
    rw [outRec, ← e]
    exact hr.trans (resolve_of_no_layers hl).symm

/-- R69: a running proof timer counts down, and nothing else of a record moves. -/
theorem outRec_tickTimers (s : State) (o : Nat) :
    outRec (tickTimers s) o = { outRec s o with timer := countDown (outRec s o).timer } :=
  sget_map (f := fun r : OutRec => { r with timer := countDown r.timer }) rfl s.outs o

theorem outsWf_tickTimers (hw : outsWf s) : outsWf (tickTimers s) := by
  refine sparseWf_map (g := fun r : OutRec => { r with timer := countDown r.timer }) (fun v hv e => hv ?_) hw
  have ht : countDown v.timer = none := congrArg OutRec.timer e
  have hn : v.timer = none := by
    rw [← Option.not_isSome_iff_eq_none, ← isSome_countDown, ht]
    simp
  rw [ht, ← hn] at e
  exact e

/-- R60: the law lasts. -/
theorem lasting_laid : Lasting (Laid []) where
  of_eq h ho ht _ hn _ := h.of_eq ho ht hn
  entries h := h.entries
  engage o e h := h.modOut (fun _ _ hx => hx) (.inr fun hc => h.layers o List.not_mem_nil hc)
  layers _ _ h := laid_changeLayers h
  send {s} o c q h := by
    have ho := List.mem_singleton_self o
    have hm : Kept [o] s (modOut o (fun r => { r with lastSent := some c }) (setQueue (fun _ => q) s)) :=
      kept_modOut (kept_setQueue (.refl _ _))
    exact h.kept (kept_onOutput ho hm fun hu => kept_setAct hu (.mem ho))
      (work_onOutput (work_modOut (work_setQueue (.refl _))) fun _ hu => work_setAct hu)
  exchange o a h := h.kept (kept_exchangeEnded (List.mem_singleton_self o) (.refl _ _)) (work_exchangeEnded (.refl _))
  expired o h := h.kept (kept_proofExpired (List.mem_singleton_self o) (.refl _ _)) (work_proofExpired (.refl _))
  reading o b h := h.kept (kept_takeReading (List.mem_singleton_self o) (.refl _ _)) (work_takeReading (.refl _))
  unusable o h := h.kept (kept_takeUnusable (List.mem_singleton_self o) (.refl _ _)) (work_takeUnusable (.refl _))
  lost o h := h.kept (kept_outputLost (List.mem_singleton_self o) (.refl _ _)) (work_outputLost (.refl _))
  returned o h := h.kept (kept_outputReturned (List.mem_singleton_self o) (.refl _ _)) (work_outputReturned (.refl _))
  replaced o h := h.kept (kept_replaceQueued (List.mem_singleton_self o) (.refl _ _)) (work_replaceQueued (.refl _))
  reasserted o h := h.kept (kept_reassertOutput (List.mem_singleton_self o) (.refl _ _)) (work_reassertOutput (.refl _))
  reset o h :=
    have ho := List.mem_singleton_self o
    h.kept (kept_onOutput ho (.refl _ _) fun hu => kept_newAttempt ho hu)
      (work_onOutput (.refl _) fun _ hu => work_newAttempt hu)
  warned o h := h.kept (qs := []) (kept_warnHeld (.refl _ _)) (work_warnHeld (.refl _))
  source b src h := laid_examineAndWarn (laid_raise (laid_restageBoard (Laid.of_eq h rfl rfl rfl)))
  stored r f h := { h with stored := outputs_putEntry h.stored }
  output o new h := laid_outputWritten h
  board b new h := laid_examineAndWarn (laid_restageBoard (Laid.of_eq h rfl rfl rfl))
  blank h := ⟨h.entries, h.stored, rfl, fun _ _ _ => (resolve_of_no_layers rfl).symm⟩
  read bad h := laid_readTables (Laid.of_eq h rfl rfl rfl)
  tick h := by
    refine ⟨h.entries, h.stored, outsWf_tickTimers h.wf, fun o ho hc => ?_⟩
    rw [outRec_tickTimers]
    exact h.layers o ho hc

/-! ### The statement -/

/-- In canonical form a listed key reads as its value. -/
theorem sget_of_mem {α : Type} [DecidableEq α] {d : α} {m : Sparse α} (h : sparseWf d m = true)
    {p : Nat × α} (hp : p ∈ m) :
    sget d m p.1 = p.2 := by
  induction m with
  | nil => cases hp
  | cons q m ih =>
    obtain ⟨-, hm, hk⟩ := sparseWf_cons (k := q.1) (w := q.2) h
    rcases List.mem_cons.1 hp with rfl | hp
    · exact if_pos rfl
    · exact (if_neg (hk p hp).ne').trans (ih hm hp)

/-- R56: an output in the list of configured ones has an entry of a kind in use. -/
theorem isConfigured_of_mem (h : outputsWf s) (ho : o ∈ configured s) : isConfigured (outEntry s o) = true := by
  obtain ⟨p, hp, e⟩ := List.mem_filterMap.1 ho
  obtain ⟨hc, e⟩ := Option.ite_none_right_eq_some.1 e
  obtain rfl := Option.some.inj e
  rwa [outEntry, outputOf, sget_of_mem h hp]

/-- R60, R61: the layers in their order. -/
theorem resolve_eq (e : OutputEntry) (r : OutRec) :
    let single := fun (c : Cmd) => if e.kind = 2 ∧ c = .low then Cmd.high else c
    resolve e r =
      match r.ff, r.fire, r.safe, r.bld with
      | some c, _, _, _ => some (single c)
      | none, some c, _, _ => some c
      | none, none, some c, _ => some c
      | none, none, none, some c => some (single c)
      | none, none, none, none => none := by
  have hs : ∀ c : Cmd, (if isFanSingle e = true ∧ c = .low then some Cmd.high else some c) =
      some (if e.kind = 2 ∧ c = .low then Cmd.high else c) := by
    intro c
    simp only [isFanSingle, beq_iff_eq, apply_ite some]
  unfold resolve
  cases hff : r.ff with
  | some c => simpa using hs c
  | none =>
    cases hfire : r.fire with
    | some c => simp
    | none =>
      cases hsafe : r.safe with
      | some c => simp
      | none =>
        cases hbld : r.bld with
        | some c => simpa using hs c
        | none => simp

/-- Settles O12: the law lasts (lasting_laid), so every step keeps it. -/
theorem resolvedCommandFollowsTheLayers : Obligations.ResolvedCommandFollowsTheLayers := by
  refine ⟨fun s t hc hl he o ho => ?_, fun e r => resolve_eq e r⟩
  have h : Laid [] s := ⟨hc.tables.outputs, hc.nv.outputs, hc.outs, fun o _ h => hl o (mem_configured h)⟩
  have ht := step_lasts lasting_laid h he
  exact ht.layers o List.not_mem_nil (isConfigured_of_mem ht.entries ho)

end Sys2Proof.Machine
end

section
/-! Attempts after a fault, and a proof timer's expiry (O48). -/

namespace Sys2Proof.Machine

-- Elaborated one after another: the check bounds Lean's threads.
set_option Elab.async false

variable {s : State} {o : Nat}

/-! ### The events of a recovery, and work done for one output -/

/-- R160: OUTPUT_RECOVERED is never CRITICAL. -/
theorem raise_outputRecovered (a b : Nat) (s : State) :
    raise .outputRecovered a b s = recordEntry .outputRecovered a b s := by simp [raise, report, isCritical]

/-- R160: MODULE_RECOVERED is never CRITICAL. -/
theorem raise_moduleRecovered (a b : Nat) (s : State) :
    raise .moduleRecovered a b s = recordEntry .moduleRecovered a b s := by simp [raise, report, isCritical]

theorem newAttempt_eq (o : Nat) (way : Way) (s : State) :
    newAttempt o way s = place o (recordEntry .outputRecovered o (wayCode way)
      (modOut o (fun r => { r with fault := none, retried := false, busy := 0 }) s)) :=
  congrArg (place o) (raise_outputRecovered _ _ _)

/-- The work for an output counts only by what it makes of the state at hand. -/
theorem onOutput_congr {w w' : State → State} (h : w s = w' s) : onOutput o w s = onOutput o w' s := by
  unfold onOutput
  rw [h]

/-! ### OUTPUT_RESET and the expiry of a proof timer -/

theorem badIndex_iff (s : State) (o : Nat) :
    (!(decide (1 ≤ o) && decide (o ≤ 160) && isConfigured (outEntry s o))) = true ↔
      o = 0 ∨ 160 < o ∨ isConfigured (outEntry s o) = false := by
  simp only [Bool.not_eq_true', Bool.and_eq_false_iff, decide_eq_false_iff_not, Nat.not_le, Nat.lt_one_iff, or_assoc]

/-- R79: an OUTPUT_RESET that is served. -/
theorem serveOutputReset_eq (req : Requester) (row : Instr) (o : Nat) (s : State) :
    serveOutputReset req o (enterServing row s) =
      if s.mode = .start then answer req .wrongMode s
      else if o = 0 ∨ 160 < o ∨ isConfigured (outEntry s o) = false then answer req .badIndex s
      else if (outRec s o).act ≠ .fault then answer req .ok s
      else endStep (answer req .ok (drain (onOutput o (newAttempt o .reset) (enterServing row s)))) := by
  unfold serveOutputReset
  simp only [answer_enterServing, ite_not, ← badIndex_iff]
  rfl

/-- R71: the fault of an expiry that is no clean first failure. -/
def expiryFaulted (r : OutRec) (o : Nat) (e : OutputEntry) (u : State) : State :=
  if isDamper e then toFault o (if r.clean then .noProof else .stuck) .none u
  else toFault o (if r.clean = true ∧ r.act = .stopping then .noStop else .noRun) .none u

theorem toFault_expiryFault (r : OutRec) (o : Nat) (e : OutputEntry) (u : State) :
    toFault o (expiryFault e r.act r.clean) .none u = expiryFaulted r o e u := by
  unfold expiryFault expiryFaulted
  split
  · rfl
  · simp only [Bool.and_eq_true, beq_iff_eq]

/-- R71: a clean first failure is tried once more. -/
theorem proofExpired_eq (o : Nat) (s : State) :
    proofExpired o s = onOutput o (fun u =>
      match (outRec s o).resolved with
      | some c =>
        if (outRec s o).clean = true ∧ (outRec s o).retried = false then
          enqueue o c (modOut o (fun r => { r with retried := true, origin := none, timer := none, clean := false }) u)
        else expiryFaulted (outRec s o) o (outEntry u o) u
      | none => expiryFaulted (outRec s o) o (outEntry u o) u) s := by
  unfold proofExpired
  refine onOutput_congr ?_
  simp only [← toFault_expiryFault]
  generalize outRec s o = r
  cases hc : r.clean && !r.retried with
  | false =>
    have hn : ¬ (r.clean = true ∧ r.retried = false) := by simp_all
    cases r.resolved with
    | none => rfl
    | some c => exact (if_neg hn).symm
  | true =>
    have hy : r.clean = true ∧ r.retried = false := by simp_all
    cases r.resolved with
    | none => rfl
    | some c => exact (if_pos hy).symm

/-- Settles O48: an OUTPUT_RESET by its checks, an expiry by what became of the command. -/
theorem resetAndProofExpiry : Obligations.ResetAndProofExpiry := by
  refine fun req o s => ⟨fun h => ?_, fun h => ?_⟩
  · refine (serving_served h).trans (congrArg _ ?_)
    rw [serveOutputReset_eq]
    simp only [onOutput, newAttempt_eq]
    rfl
  · refine (acting_awake h).trans (congrArg _ ?_)
    simp only [ne_eq, ite_not, proofExpired_eq]
    rfl

end Sys2Proof.Machine
end

section
/-! Writes of one output record in sequence: contents in canonical form are equal where they read equal. -/

namespace Sys2Proof.Machine

-- Elaborated one after another: the check bounds Lean's threads.
set_option Elab.async false

section
variable {α : Type} [DecidableEq α] {d v w : α} {m m' : Sparse α} {n k k' : Nat}

/-- The first listed key reads differently where the other contents begin later. -/
theorem head_not_later (h : sparseWf d ((k, w) :: m) = true) (h' : sparseWf d ((k', v) :: m') = true)
    (he : ∀ n, sget d ((k, w) :: m) n = sget d ((k', v) :: m') n) : ¬ k < k' := by
  intro hlt
  obtain ⟨hw, -, -⟩ := sparseWf_cons h
  obtain ⟨-, -, hk⟩ := sparseWf_cons h'
  refine hw ((if_pos rfl).symm.trans ((he k).trans (sget_of_lt fun p hp => ?_)))
  rcases List.mem_cons.1 hp with rfl | hp
  · exact hlt
  · exact hlt.trans (hk p hp)

/-- Contents in canonical form are what is read of them. -/
theorem sparse_ext (h : sparseWf d m = true) (h' : sparseWf d m' = true) (he : ∀ n, sget d m n = sget d m' n) :
    m = m' := by
  induction m generalizing m' with
  | nil =>
    cases m' with
    | nil => rfl
    | cons q m' => exact absurd ((he q.1).trans (if_pos rfl)).symm (sparseWf_cons h').1
  | cons p m ih =>
    obtain ⟨k, w⟩ := p
    cases m' with
    | nil => exact absurd ((if_pos rfl).symm.trans (he k)) (sparseWf_cons h).1
    | cons q m' =>
      obtain ⟨k', v⟩ := q
      have hkk : k = k' := Nat.le_antisymm (Nat.not_lt.1 (head_not_later h' h fun n => (he n).symm))
        (Nat.not_lt.1 (head_not_later h h' he))
      subst hkk
      obtain ⟨-, hm, hk⟩ := sparseWf_cons h
      obtain ⟨-, hm', hk'⟩ := sparseWf_cons h'
      have hw : w = v := by simpa [sget] using he k
      have ht : m = m' := ih hm hm' fun n => by
        by_cases hn : n = k
        · rw [hn, sget_of_lt hk, sget_of_lt hk']
        · simpa [sget, hn] using he n
      rw [hw, ht]

/-- What is read can be written again. -/
theorem sput_sget (h : sparseWf d m = true) : sput d n (sget d m n) m = m :=
  sparse_ext (sparseWf_sput h) h fun k => by
    by_cases hk : k = n
    · rw [hk, sget_sput_same h]
    · exact sget_sput_other hk

/-- The second write of a key counts. -/
theorem sput_sput (h : sparseWf d m = true) : sput d n w (sput d n v m) = sput d n w m :=
  sparse_ext (sparseWf_sput (sparseWf_sput h)) (sparseWf_sput h) fun k => by
    by_cases hk : k = n
    · rw [hk, sget_sput_same (sparseWf_sput h), sget_sput_same h]
    · rw [sget_sput_other hk, sget_sput_other hk, sget_sput_other hk]

end

variable {s : State} {o : Nat} {f g : OutRec → OutRec}

/-- A change that leaves the record as it is. -/
theorem modOut_self (h : outsWf s) (hf : f (outRec s o) = outRec s o) : modOut o f s = s := by
  have he : sput coldOut o (f (outRec s o)) s.outs = s.outs := by
    rw [hf]
    exact sput_sget h
  exact congrArg (fun x => { s with outs := x }) he

/-- Two changes of a record are one. -/
theorem modOut_modOut (h : outsWf s) : modOut o f (modOut o g s) = modOut o (fun r => f (g r)) s := by
  have he : sput coldOut o (f (outRec (modOut o g s) o)) (modOut o g s).outs =
      sput coldOut o (f (g (outRec s o))) s.outs := by
    rw [outRec_modOut_same h]
    exact sput_sput h
  exact congrArg (fun x => { s with outs := x }) he

end Sys2Proof.Machine
end

section
/-! The answer to a command ends its exchange (O49). -/

namespace Sys2Proof.Machine

-- Elaborated one after another: the check bounds Lean's threads.
set_option Elab.async false

variable {s : State} {o : Nat}

/-- R69: the state an accepted command leads to, by its command and the fan's speed. -/
theorem acceptedAct_eq (e : OutputEntry) (v : View) (c : Cmd) :
    acceptedAct e v c =
      if isDamper e then Act.moving
      else match c, v with
        | .stop, _ => .stopping
        | .low, .fan .high _ _ => .stopping
        | _, _ => .starting := by
  unfold acceptedAct
  split
  · rfl
  · cases c with
    | low =>
      cases v with
      | fan sp trip loc => cases sp <;> rfl
      | _ => rfl
    | _ => rfl

/-- R65: a slot kept until its replacement goes when the new command is accepted. -/
theorem acceptCommand_eq (o : Nat) (c : Cmd) (s : State) :
    acceptCommand o c s =
      let a := acceptedAct (outEntry s o) (outRec s o).view c
      let w := setAct o a (modOut o (fun r =>
        { r with busy := 0, origin := some (outRec s o).view, clean := true, timer := some (proofTime (outEntry s o) a) }) s)
      match (outRec s o).slot with
      | some ⟨_, .untilReplaced⟩ => releaseSlot o w
      | _ => w := by
  unfold acceptCommand
  dsimp only
  rcases (outRec s o).slot with _ | ⟨d, _ | _ | _⟩ <;> rfl

/-- R65, R68: what the ending of a superseded exchange decides on the kept slot. -/
theorem supersededEnding_eq (hw : outsWf s) (o : Nat) (a : Ack) :
    supersededEnding o a s =
      match (outRec s o).slot with
      | some ⟨d, .untilExchangeEnds⟩ =>
        if a = .accepted then modOut o (fun r => { r with slot := some ⟨d, .untilReplaced⟩ }) s else releaseSlot o s
      | some ⟨_, .untilReplaced⟩ => if a = .accepted then releaseSlot o s else s
      | _ => s := by
  have same : ∀ {sl : Slot}, (outRec s o).slot = some sl → modOut o (fun r => { r with slot := some sl }) s = s :=
    fun hs => modOut_self hw (by rw [← hs])
  unfold supersededEnding slotAfterExchange
  cases hs : (outRec s o).slot with
  | none => rfl
  | some sl =>
    obtain ⟨d, hold⟩ := sl
    cases hold with
    | needed => exact same hs
    | untilExchangeEnds => by_cases ha : a = .accepted <;> simp [ha]
    | untilReplaced => by_cases ha : a = .accepted <;> simp [ha, same hs]

/-! ### The frame -/

/-- 12.7: the results that a CMD_ACK can carry. -/
theorem ackOf_of_le {n : Nat} (h : n ≤ 3) : ∃ a, ackOf n = some a ∧ (a = .accepted ↔ n = 0) := by
  interval_cases n <;> simp [ackOf]

theorem ackOf_above : ∀ {n : Nat}, 3 < n → ackOf n = none
  | _ + 4, _ => rfl

theorem ackTaken_inFlight {result sends : Nat} {f : Frame} {window : Option Nat}
    (hx : s.plant.exchange = some ⟨.ownCommand o, f, sends, window⟩) :
    ackTaken result s =
      match ackOf result with
      | some a => endStep (commandAnswered o f.dest a s)
      | none => countError s := by
  simp only [ackTaken, hx] <;> rfl

theorem ackTaken_stray {result : Nat}
    (hx : ∀ o f sends window, s.plant.exchange ≠ some ⟨.ownCommand o, f, sends, window⟩) :
    ackTaken result s = countStray s := by
  unfold ackTaken
  split
  · rename_i o f _ _ h
    exact absurd h (hx o f _ _)
  · rfl

/-- R68: the ending of a SENT output's exchange, with a command to be proven. -/
theorem sentEnding_of {c : Cmd} (hc : (outRec s o).resolved = some c) (a : Ack) :
    sentEnding o a s =
      match a with
      | .accepted => acceptCommand o c s
      | .busy =>
        let t := modOut o (fun r => { r with busy := min s.tables.link.busyLimit (r.busy + 1) }) s
        if s.tables.link.busyLimit ≤ (outRec s o).busy + 1 then toFault o .busy .none t else enqueue o c t
      | .refusedLocal =>
        toFault o .localControl .none (modOut o (fun r =>
          { r with view := match r.view with
              | .fan sp t _ => .fan sp t true
              | v => v }) s)
      | .badChannel => toFault o .noResponse .badChannel s := by
  simp only [sentEnding, hc] <;> cases a <;> rfl

theorem sentEnding_none (hc : (outRec s o).resolved = none) (a : Ack) : sentEnding o a s = s := by
  simp only [sentEnding, hc]

/-- Settles O49: by the output's state, its command and the result. -/
theorem commandAnswersEndTheExchange : Obligations.CommandAnswersEndTheExchange := by
  intro channel result s hw
  refine ⟨fun o sends f window hx hc => ?_, fun hx => ?_⟩
  · refine (acting_awake hw).trans (congrArg _ ((ackTaken_inFlight hx).trans ?_))
    have hu : outsWf (clearMisses f.dest (endExchange s)) := hc.outs
    by_cases h3 : 3 < result
    · rw [ackOf_above h3, if_pos h3]
      rfl
    obtain ⟨a, ha, hacc⟩ := ackOf_of_le (Nat.not_lt.1 h3)
    rw [ha, if_neg h3]
    refine congrArg endStep (onOutput_congr ?_)
    by_cases hs : (outRec s o).act = .sent
    · refine (congrFun (if_pos hs) _).trans ?_
      cases hr : (outRec s o).resolved with
      | none =>
        simp only [hs]
        exact sentEnding_none (s := clearMisses f.dest (endExchange s)) hr a
      | some c =>
        simp only [hs]
        refine (sentEnding_of (s := clearMisses f.dest (endExchange s)) hr a).trans ?_
        have h4 : result < 4 := by omega
        interval_cases result <;> cases ha
        · dsimp only
          rw [acceptCommand_eq, acceptedAct_eq]
          rfl
        · rfl
        · rfl
        · rfl
    · refine (congrFun (if_neg hs) _).trans ((supersededEnding_eq hu o a).trans ?_)
      simp only [hacc]
      symm
      split
      · contradiction
      · contradiction
      · rfl
  · exact (acting_awake hw).trans (congrArg _ (ackTaken_stray hx))

end Sys2Proof.Machine
end

section
/-! What the Output Resolver's work leaves of an output record. Placing, faulting, settling and examining leave its layers,
its command, its view and its counts (Alike); what they make of the rest is given record by record. -/

namespace Sys2Proof.Machine

-- Elaborated one after another: the check bounds Lean's threads.
set_option Elab.async false

variable {s t u : State} {o x : Nat} {f : OutRec → OutRec}

/-! ### What is left alone -/

/-- The layers, the resolved command, the view and the counts of a record. -/
def bearing (r : OutRec) :
    (Option Cmd × Option Cmd × Option Cmd × Option Cmd × Engaged) × Option Cmd × View × Bool × Bool × Bool × Nat × Nat :=
  (layersOf r, r.resolved, r.view, r.valid, r.unusable, r.retried, r.busy, r.superseded)

/-- The tables, the hold and the bearing of every record stand. -/
structure Alike (s t : State) : Prop where
  tables : t.tables = s.tables
  hold : t.plant.hold = s.plant.hold
  wf : outsWf s → outsWf t
  bearing : outsWf s → ∀ o, bearing (outRec t o) = bearing (outRec s o)

theorem Alike.refl (s : State) : Alike s s := ⟨rfl, rfl, id, fun _ _ => rfl⟩

theorem Alike.trans (h : Alike s t) (h' : Alike t u) : Alike s u :=
  ⟨h'.tables.trans h.tables, h'.hold.trans h.hold, h'.wf ∘ h.wf,
    fun hw o => (h'.bearing (h.wf hw) o).trans (h.bearing hw o)⟩

theorem Alike.outEntry (h : Alike s t) (o : Nat) : outEntry t o = outEntry s o := outEntry_congr h.tables o

/-- A change of other parts. -/
theorem Alike.of_eq (h : Alike s t) (ho : u.outs = t.outs) (ht : u.tables = t.tables)
    (hh : u.plant.hold = t.plant.hold) : Alike s u :=
  ⟨ht.trans h.tables, hh.trans h.hold, fun hw => by unfold outsWf; rw [ho]; exact h.wf hw,
    fun hw o => (congrArg Machine.bearing (outRec_congr ho o)).trans (h.bearing hw o)⟩

theorem alike_modOut (h : Alike s t) (hf : ∀ r, bearing (f r) = bearing r := by exact fun _ => rfl) :
    Alike s (modOut o f t) := by
  refine ⟨h.tables, h.hold, fun hw => outsWf_modOut (h.wf hw), fun hw x => ?_⟩
  rw [outRec_modOut (h.wf hw)]
  split
  · rename_i e
    rw [hf, e, h.bearing hw]
  · exact h.bearing hw x

theorem alike_ite {c : Prop} [Decidable c] {a b : State} (ha : Alike s a) (hb : Alike s b) :
    Alike s (if c then a else b) := by
  split
  · exact ha
  · exact hb

theorem alike_foldl {α : Type} {g : State → α → State} (hg : ∀ {v : State} (x : α), Alike s v → Alike s (g v x))
    {xs : List α} (h : Alike s t) : Alike s (xs.foldl g t) := by
  induction xs generalizing t with
  | nil => exact h
  | cons x xs ih => exact ih (hg x h)

theorem alike_recordEntry (h : Alike s t) {ev : Ev} {a b : Nat} : Alike s (recordEntry ev a b t) :=
  have c := captures_recordEntry ev a b t
  h.of_eq c.outs c.tables (by rw [c.plant])

theorem alike_report (h : Alike s t) {r : Report} : Alike s (report r t) :=
  have c := captures_report r t
  h.of_eq c.outs c.tables (by rw [c.plant])

theorem alike_raise (h : Alike s t) {ev : Ev} {a b : Nat} : Alike s (raise ev a b t) := alike_report h

theorem alike_setAct (h : Alike s t) {a : Act} : Alike s (setAct o a t) := by
  have hm : Alike s (modOut o (fun r => { r with act := a }) t) := alike_modOut h
  have hj : ∀ m, (ringJoin m t.plant).hold = t.plant.hold := fun m => by
    unfold ringJoin
    split <;> rfl
  exact alike_ite hm (alike_ite (hm.of_eq rfl rfl (hj _)) (hm.of_eq rfl rfl rfl))

theorem alike_setQueue (h : Alike s t) {g : List QueueEntry → List QueueEntry} : Alike s (setQueue g t) :=
  h.of_eq rfl rfl rfl

theorem alike_tellRunner (h : Alike s t) {n : RunnerNotice} : Alike s (tellRunner n t) := h.of_eq rfl rfl rfl

theorem alike_tellMonitor (h : Alike s t) {n : MonitorNotice} : Alike s (tellMonitor n t) := h.of_eq rfl rfl rfl

theorem alike_dequeue (h : Alike s t) : Alike s (dequeue o t) := alike_setQueue h

theorem alike_enqueue (h : Alike s t) {c : Cmd} : Alike s (enqueue o c t) := alike_setAct (alike_setQueue h)

theorem alike_tellReserve (h : Alike s t) : Alike s (tellReserve o t) := by
  unfold tellReserve
  split
  · exact alike_tellMonitor h
  · exact h

theorem alike_settleRecord (h : Alike s t) : Alike s (settleRecord o t) := by
  have hs : Alike s (setAct o .settled (modOut o (fun r =>
    { r with fault := none, origin := none, timer := none, clean := false, slot := none }) t)) :=
    alike_setAct (alike_modOut h)
  exact alike_ite hs (alike_tellReserve (alike_tellRunner hs))

theorem alike_admitFan (h : Alike s t) : Alike s (admitFan o t) := by
  unfold admitFan
  split
  · exact h
  · exact alike_ite (alike_settleRecord (alike_modOut h)) (alike_enqueue (alike_modOut h))

theorem alike_examineTimes (h : Alike s t) {n b : Nat} : Alike s (examineTimes n b t) := by
  induction n generalizing t with
  | zero => exact h
  | succ n ih =>
    unfold examineTimes
    split
    · exact h
    · exact alike_ite (ih (alike_admitFan h)) h

theorem alike_examine (h : Alike s t) {b : Nat} : Alike s (examine b t) := alike_examineTimes h

theorem alike_examineFor (h : Alike s t) : Alike s (examineFor o t) := alike_ite (alike_examine h) h

theorem alike_forgetWait (h : Alike s t) : Alike s (forgetWait o t) := alike_modOut h

theorem alike_resumeWait (h : Alike s t) : Alike s (resumeWait o t) := alike_ite h (alike_forgetWait h)

theorem alike_warnHeld (h : Alike s t) : Alike s (warnHeld o t) := alike_ite (alike_raise (alike_modOut h)) h

theorem endWait_bearing (r : OutRec) : bearing (endWait r) = bearing r := by
  unfold endWait
  split <;> rfl

theorem alike_faultRecord (h : Alike s t) {code : FaultCode} {cause : Cause} : Alike s (faultRecord o code cause t) :=
  alike_setAct (alike_dequeue (alike_modOut (alike_modOut h endWait_bearing)))

theorem alike_toFault (h : Alike s t) {code : FaultCode} {cause : Cause} : Alike s (toFault o code cause t) :=
  alike_tellReserve (alike_tellRunner (alike_examineFor (alike_modOut (alike_report (alike_faultRecord h)))))

theorem alike_joinWait (h : Alike s t) : Alike s (joinWait o t) :=
  alike_warnHeld (alike_examineFor (alike_setAct (alike_modOut h)))

theorem alike_judgePath (h : Alike s t) : Alike s (judgePath o t) :=
  alike_ite h (alike_ite (alike_joinWait h) (alike_ite (alike_toFault h) h))

theorem alike_rejudge (h : Alike s t) : Alike s (rejudge o t) := alike_foldl (fun _ hu => alike_judgePath hu) h

theorem alike_settle (h : Alike s t) : Alike s (settle o t) :=
  alike_ite (alike_examineFor (alike_settleRecord h)) (alike_settleRecord h)

theorem alike_placeStart (h : Alike s t) {c : Cmd} : Alike s (placeStart o c t) :=
  alike_ite (alike_judgePath (alike_setAct h)) (alike_joinWait h)

theorem alike_place (h : Alike s t) : Alike s (place o t) := by
  unfold place
  dsimp only
  split
  · exact h
  · exact alike_ite (alike_ite (alike_toFault h) (alike_setAct h)) (alike_ite (alike_toFault h) (alike_ite (alike_toFault h)
      (alike_ite (alike_toFault h) (alike_ite (alike_settle h) (alike_ite (alike_placeStart (alike_resumeWait h))
        (alike_enqueue h))))))

theorem alike_requeueStart (h : Alike s t) : Alike s (requeueStart o t) := by
  unfold requeueStart
  dsimp only
  split
  · exact alike_ite (alike_place (alike_dequeue h)) h
  · exact h

theorem alike_onOutput {work : State → State} (h : Alike s (work t)) : Alike s (onOutput o work t) :=
  alike_ite (alike_rejudge (alike_requeueStart h)) (alike_requeueStart h)

theorem alike_placeFromWait (h : Alike s t) : Alike s (placeFromWait o t) :=
  alike_ite (alike_examineFor (alike_place h)) (alike_place h)

theorem alike_examineIfFallen (h : Alike s t) {n : Nat} : Alike s (examineIfFallen o n t) := alike_ite (alike_examineFor h) h

theorem bearing_inj {r r' : OutRec} : bearing r' = bearing r ↔
    layersOf r' = layersOf r ∧ r'.resolved = r.resolved ∧ r'.view = r.view ∧ r'.valid = r.valid ∧
      r'.unusable = r.unusable ∧ r'.retried = r.retried ∧ r'.busy = r.busy ∧ r'.superseded = r.superseded := by
  simp only [bearing, Prod.mk.injEq]

end Sys2Proof.Machine
end

section
/-! What the Output Resolver's work makes of an output record: exactly, where the output comes to rest or to FAULT, and up to
an admission where it waits. -/

namespace Sys2Proof.Machine

-- Elaborated one after another: the check bounds Lean's threads.
set_option Elab.async false

variable {s t : State} {o x d : Nat} {c : Cmd}

theorem outRec_setAct (hw : outsWf s) {a : Act} : outRec (setAct o a s) o = { outRec s o with act := a } := by
  have hm := outRec_modOut_same (o := o) (f := fun r => { r with act := a }) hw
  unfold setAct
  dsimp only
  split
  · exact hm
  · split <;> exact hm

theorem outRec_dequeue : outRec (dequeue d s) o = outRec s o := rfl

theorem outRec_tellRunner {n : RunnerNotice} : outRec (tellRunner n s) o = outRec s o := rfl

theorem outRec_tellReserve : outRec (tellReserve d s) o = outRec s o := outRec_congr outs_tellReserve o

theorem outRec_report {r : Report} : outRec (report r s) o = outRec s o := outRec_congr (captures_report r s).outs o

theorem outRec_recordEntry {ev : Ev} {a b : Nat} : outRec (recordEntry ev a b s) o = outRec s o :=
  outRec_congr (captures_recordEntry ev a b s).outs o

theorem outRec_enqueue (hw : outsWf s) : outRec (enqueue o c s) o = { outRec s o with act := .queued } :=
  outRec_setAct (s := setQueue _ s) hw

/-- R70: the record of an output that comes to SETTLED. -/
def settledRecord (r : OutRec) : OutRec :=
  { r with act := .settled, fault := none, origin := none, timer := none, clean := false, slot := none }

theorem outRec_settleRecord (hw : outsWf s) : outRec (settleRecord o s) o = settledRecord (outRec s o) := by
  have hs : outRec (setAct o .settled (modOut o (fun r =>
      { r with fault := none, origin := none, timer := none, clean := false, slot := none }) s)) o =
      settledRecord (outRec s o) := by
    rw [outRec_setAct (outsWf_modOut hw), outRec_modOut_same hw]
    rfl
  unfold settleRecord
  dsimp only
  split
  · exact hs
  · exact outRec_tellReserve.trans hs

/-! ### Examination -/

/-- R92: the record of a fan with its slot. -/
def slottedRecord (e : OutputEntry) (c : Cmd) (r : OutRec) : OutRec :=
  { r with slot := some ⟨startDemand e r.view c, .needed⟩, heldWarned := false, waitOpen := false }

/-- R73, R92, R97: the record of a fan that is admitted. -/
def admittedRecord (e : OutputEntry) (c : Cmd) (r : OutRec) : OutRec :=
  if agrees r c then settledRecord (slottedRecord e c r) else { slottedRecord e c r with act := .queued }

theorem admitFan_eq (hc : (outRec s o).resolved = some c) :
    admitFan o s =
      if agrees (outRec s o) c then settleRecord o (modOut o (slottedRecord (outEntry s o) c) s)
      else enqueue o c (modOut o (slottedRecord (outEntry s o) c) s) := by
  unfold admitFan
  rw [hc]
  rfl

theorem outRec_admitFan (hw : outsWf s) (hc : (outRec s o).resolved = some c) :
    outRec (admitFan o s) o = admittedRecord (outEntry s o) c (outRec s o) := by
  rw [admitFan_eq hc, admittedRecord]
  split
  · rw [outRec_settleRecord (outsWf_modOut hw), outRec_modOut_same hw]
  · rw [outRec_enqueue (outsWf_modOut hw), outRec_modOut_same hw]

/-- R85: the output may stand in a wait list. -/
def mayWait (s : State) (o : Nat) : Prop := (outRec s o).act = .waitStart ∧ isFan (outEntry s o) = true

theorem mayWait_of_mem {b : Nat} (h : o ∈ waitList s b) : mayWait s o := by
  refine ⟨act_of_mem_waitList h, ?_⟩
  have hf := List.mem_filter.1 (List.mem_filter.1 (mem_sortBy.1 h)).1
  exact (List.mem_filter.1 hf.1).2

/-- R90: an examination leaves a record, or admits its fan. -/
theorem outRec_examineTimes (hw : outsWf s) (n b o : Nat) :
    outRec (examineTimes n b s) o = outRec s o ∨
      (mayWait s o ∧ ∃ c, (outRec s o).resolved = some c ∧
        outRec (examineTimes n b s) o = admittedRecord (outEntry s o) c (outRec s o)) := by
  induction n generalizing s with
  | zero => exact .inl rfl
  | succ n ih =>
    unfold examineTimes
    split
    · exact .inl rfl
    rename_i f _ hl
    split
    case isFalse => exact .inl rfl
    rename_i ha
    have hwait := mayWait_of_mem (hl ▸ List.mem_cons_self : f ∈ waitList s b)
    have hk := alike_admitFan (o := f) (.refl s)
    have hi := ih (hk.wf hw)
    rw [hk.outEntry] at hi
    by_cases hf : o = f
    · subst hf
      obtain ⟨c, hc⟩ : ∃ c, (outRec s o).resolved = some c := by
        cases hr : (outRec s o).resolved with
        | none => simp [admissible, hr] at ha
        | some c => exact ⟨c, rfl⟩
      have hrec := outRec_admitFan hw hc
      refine .inr ⟨hwait, c, hc, ?_⟩
      rcases hi with hi | ⟨⟨hact, -⟩, -⟩
      · rw [hi, hrec]
      · rw [hrec, admittedRecord] at hact
        dsimp only at hact
        split at hact <;> cases hact
    · have hrec := outRec_admitFan_other (s := s) hf
      rw [hrec] at hi
      rcases hi with hi | ⟨⟨hact, hfan⟩, hi⟩
      · exact .inl hi
      · exact .inr ⟨⟨hrec ▸ hact, hk.outEntry o ▸ hfan⟩, hi⟩

theorem outRec_examineFor_or (hw : outsWf s) (x o : Nat) :
    outRec (examineFor x s) o = outRec s o ∨
      (mayWait s o ∧ ∃ c, (outRec s o).resolved = some c ∧
        outRec (examineFor x s) o = admittedRecord (outEntry s o) c (outRec s o)) := by
  unfold examineFor
  split
  · exact outRec_examineTimes hw _ _ o
  · exact .inl rfl

/-- R90: an examination leaves an output that waits in no list. -/
theorem outRec_examineFor_out (hw : outsWf s) (hm : ¬ mayWait s o) : outRec (examineFor x s) o = outRec s o :=
  (outRec_examineFor_or hw x o).resolve_right fun h => hm h.1

/-- R98: a warning sets the mark of a waiting fan. -/
theorem outRec_warnHeld (hw : outsWf s) (x o : Nat) :
    outRec (warnHeld x s) o = outRec s o ∨
      (mayWait s o ∧ outRec (warnHeld x s) o = { outRec s o with heldWarned := true }) := by
  unfold warnHeld
  split
  · rename_i hd
    rw [outRec_congr (captures_raise _ _ _ _).outs, outRec_modOut hw]
    split
    · rename_i e
      subst e
      simp only [warnDue, Bool.and_eq_true, beq_iff_eq] at hd
      exact .inr ⟨⟨hd.1.1.2, hd.1.1.1⟩, rfl⟩
    · exact .inl rfl
  · exact .inl rfl

theorem outRec_warnHeld_out (hw : outsWf s) (hm : ¬ mayWait s o) : outRec (warnHeld x s) o = outRec s o :=
  (outRec_warnHeld hw x o).resolve_right fun h => hm h.1

theorem not_mayWait_of_isDamper (hd : isDamper (outEntry s o) = true) : ¬ mayWait s o := by
  rintro ⟨-, hf⟩
  simp only [isDamper, beq_iff_eq] at hd
  simp [isFan, isFanSingle, isFanTwo, hd] at hf

theorem mayWait_congr (hr : outRec t o = outRec s o) (ht : t.tables = s.tables) : mayWait t o ↔ mayWait s o := by
  rw [mayWait, hr, outEntry_congr ht, mayWait]

/-! ### FAULT and SETTLED -/

/-- R77, steps 1 and 2: the record takes its fault. -/
def faultNoted (code : FaultCode) (cause : Cause) (r : OutRec) : OutRec :=
  { endWait r with fault := some ⟨code, cause⟩, origin := none, timer := none, clean := false }

theorem faultRecord_eq (hw : outsWf s) (o : Nat) (code : FaultCode) (cause : Cause) :
    faultRecord o code cause s = setAct o .fault (dequeue o (modOut o (faultNoted code cause) s)) :=
  congrArg (fun u => setAct o .fault (dequeue o u)) (modOut_modOut hw)

/-- R77: the record of an output that goes to FAULT. -/
def faultedRecord (code : FaultCode) (cause : Cause) (r : OutRec) : OutRec :=
  { faultNoted code cause r with act := .fault, slot := none }

theorem outRec_faultRecord (hw : outsWf s) {code : FaultCode} {cause : Cause} :
    outRec (faultRecord o code cause s) o = { faultNoted code cause (outRec s o) with act := .fault } := by
  have hm := outsWf_modOut (o := o) (f := faultNoted code cause) hw
  have hd : outsWf (dequeue o (modOut o (faultNoted code cause) s)) := hm
  rw [faultRecord_eq hw, outRec_setAct hd, outRec_dequeue, outRec_modOut_same hw]

theorem outRec_toFault (hw : outsWf s) {code : FaultCode} {cause : Cause} :
    outRec (toFault o code cause s) o = faultedRecord code cause (outRec s o) := by
  have hf : ∀ {r : Report}, outsWf (report r (faultRecord o code cause s)) :=
    (alike_report (alike_faultRecord (.refl s))).wf hw
  have ht : ∀ {r : Report}, outRec (modOut o (fun r => { r with slot := none })
      (report r (faultRecord o code cause s))) o = faultedRecord code cause (outRec s o) := fun {r} => by
    rw [outRec_modOut_same hf, outRec_report, outRec_faultRecord hw]
    rfl
  unfold toFault
  rw [outRec_tellReserve, outRec_tellRunner, outRec_examineFor, ht]
  rw [ht]
  exact fun h => nomatch h

theorem outRec_settle (hw : outsWf s) : outRec (settle o s) o = settledRecord (outRec s o) := by
  have hs := outRec_settleRecord (o := o) hw
  unfold settle
  dsimp only
  split
  · rw [outRec_examineFor (by rw [hs]; exact fun h => nomatch h), hs]
  · exact hs

/-! ### Work for another output -/

/-- An output that waits in no list, and work from `s` on that leaves it and its record. -/
structure Aside (o : Nat) (s t : State) : Prop where
  alike : Alike s t
  record : outsWf s → ¬ mayWait s o → outRec t o = outRec s o

theorem Aside.refl (o : Nat) (s : State) : Aside o s s := ⟨.refl s, fun _ _ => rfl⟩

/-- Further work leaves it, judged where that work begins. -/
theorem Aside.step (h : Aside o s t) {u : State} (k : Alike t u)
    (hr : outsWf t → ¬ mayWait t o → outRec u o = outRec t o) : Aside o s u := by
  refine ⟨h.alike.trans k, fun hw hm => ?_⟩
  have ht := h.record hw hm
  exact (hr (h.alike.wf hw) fun hu => hm ((mayWait_congr ht h.alike.tables).1 hu)).trans ht

theorem aside_modOut (h : Aside o s t) (hx : o ≠ x) {f : OutRec → OutRec}
    (hf : ∀ r, bearing (f r) = bearing r := by exact fun _ => rfl) : Aside o s (modOut x f t) :=
  h.step (alike_modOut (.refl t) hf) fun _ _ => outRec_modOut_other hx

theorem aside_setAct (h : Aside o s t) (hx : o ≠ x) {a : Act} : Aside o s (setAct x a t) :=
  h.step (alike_setAct (.refl t)) fun _ _ => outRec_setAct_other hx

theorem aside_examineFor (h : Aside o s t) : Aside o s (examineFor x t) :=
  h.step (alike_examineFor (.refl t)) outRec_examineFor_out

theorem aside_warnHeld (h : Aside o s t) : Aside o s (warnHeld x t) :=
  h.step (alike_warnHeld (.refl t)) outRec_warnHeld_out

theorem aside_ite {c : Prop} [Decidable c] {a b : State} (ha : Aside o s a) (hb : Aside o s b) :
    Aside o s (if c then a else b) := by
  split
  · exact ha
  · exact hb

theorem aside_joinWait (h : Aside o s t) (hx : o ≠ x) : Aside o s (joinWait x t) :=
  aside_warnHeld (aside_examineFor (aside_setAct (aside_modOut h hx) hx))

theorem aside_toFault (h : Aside o s t) (hx : o ≠ x) {code : FaultCode} {cause : Cause} :
    Aside o s (toFault x code cause t) := by
  have hf : Aside o s (faultRecord x code cause t) :=
    aside_setAct ((aside_modOut (aside_modOut h hx endWait_bearing) hx).step (alike_dequeue (.refl _))
      fun _ _ => outRec_dequeue) hx
  have hr : ∀ {r : Report}, Aside o s (report r (faultRecord x code cause t)) :=
    hf.step (alike_report (.refl _)) fun _ _ => outRec_report
  exact (aside_examineFor (aside_modOut hr hx)).step (alike_tellReserve (alike_tellRunner (.refl _))) fun _ _ =>
    outRec_tellReserve.trans outRec_tellRunner

/-- R72: the judging of another fan's path. -/
theorem aside_judgePath (h : Aside o s t) (hx : o ≠ x) : Aside o s (judgePath x t) :=
  aside_ite h (aside_ite (aside_joinWait h hx) (aside_ite (aside_toFault h hx) h))

theorem aside_foldl_judgePath {fs : List Nat} (h : Aside o s t) (hf : o ∉ fs) :
    Aside o s (fs.foldl (fun t f => judgePath f t) t) := by
  induction fs generalizing t with
  | nil => exact h
  | cons f fs ih =>
    obtain ⟨hof, hfs⟩ := not_or.1 (mt List.mem_cons.2 hf)
    exact ih (aside_judgePath h hof) hfs

/-- R72: the judging that a damper's change calls for leaves the damper. -/
theorem outRec_rejudge (hw : outsWf s) (hd : isDamper (outEntry s o) = true) : outRec (rejudge o s) o = outRec s o := by
  have hm := not_mayWait_of_isDamper hd
  refine (aside_foldl_judgePath (.refl o s) fun h => ?_).record hw hm
  have hf := (List.mem_filter.1 (List.mem_filter.1 h).1).2
  simp only [isDamper, beq_iff_eq] at hd
  simp [isFan, isFanSingle, isFanTwo, hd] at hf

/-- What is done for an output leaves it as requeueStart does (R92). -/
theorem outRec_onOutput {work : State → State} (hw : outsWf (work s)) (ht : (work s).tables = s.tables) :
    outRec (onOutput o work s) o = outRec (requeueStart o (work s)) o := by
  have hk := alike_requeueStart (o := o) (.refl (work s))
  unfold onOutput
  dsimp only
  split
  · rename_i h
    simp only [hk.outEntry, outEntry_congr ht, Bool.or_self, Bool.and_eq_true] at h
    exact outRec_rejudge (hk.wf hw) (by rw [hk.outEntry, outEntry_congr ht]; exact h.1)
  · rfl

/-- R92: what has the queued start of a fan placed afresh. -/
def mustRequeue (s : State) (o : Nat) (c : Cmd) : Prop :=
  (outRec s o).act = .queued ∧ needsSlot (outEntry s o) (outRec s o).view c = true ∧ (outRec s o).slot = none ∧
    s.plant.hold.state ≠ .held ∧ s.plant.hold.state ≠ .releasePending

theorem requeueStart_none (hc : (outRec s o).resolved = none) : requeueStart o s = s := by
  unfold requeueStart
  simp only [hc]

theorem mustRequeue_iff : mustRequeue s o c ↔
    (decide ((outRec s o).act = .queued) && needsSlot (outEntry s o) (outRec s o).view c && (outRec s o).slot.isNone &&
      !isHeld s.plant.hold.state) = true := by
  simp [mustRequeue, isHeld, and_assoc]

theorem requeueStart_place (hc : (outRec s o).resolved = some c) (h : mustRequeue s o c) :
    requeueStart o s = place o (dequeue o s) := by
  unfold requeueStart
  simp only [hc]
  exact if_pos (mustRequeue_iff.1 h)

theorem requeueStart_stays (hc : (outRec s o).resolved = some c) (h : ¬ mustRequeue s o c) : requeueStart o s = s := by
  unfold requeueStart
  simp only [hc]
  exact if_neg (mt mustRequeue_iff.2 h)

/-- R92: only a queued output can be placed afresh. -/
theorem requeueStart_of_act (h : (outRec s o).act ≠ .queued) : requeueStart o s = s := by
  cases hc : (outRec s o).resolved with
  | none => exact requeueStart_none hc
  | some c => exact requeueStart_stays hc fun hm => h hm.1

end Sys2Proof.Machine
end

section
/-! Where an output is placed for its command (R62, R72, R92), and what a start that is placed comes to. -/

namespace Sys2Proof.Machine

-- Elaborated one after another: the check bounds Lean's threads.
set_option Elab.async false

variable {s t : State} {o x d : Nat} {c : Cmd} {k : Option Nat}

/-! ### The cases of placement -/

theorem viewFault_eq_none {v : View} :
    viewFault v = none ↔ viewTrip v = false ∧ viewLocal v = false ∧ v ≠ .conflict := by
  unfold viewFault
  cases viewTrip v <;> cases viewLocal v <;> simp

theorem place_of (hc : (outRec s o).resolved = some c) :
    place o s =
      if !(outRec s o).valid then
        if (moduleRec s (outEntry s o).module).state = .missing then toFault o .noResponse .missing s
        else setAct o .unknown s
      else match viewFault (outRec s o).view with
        | some code => toFault o code .none s
        | none =>
          if agrees (outRec s o) c then settle o s
          else if needsSlot (outEntry s o) (outRec s o).view c then placeStart o c (resumeWait o s)
          else enqueue o c s := by
  unfold place
  simp only [hc, viewFault]
  split
  · rfl
  split
  · rfl
  split
  · rfl
  split <;> rfl

section
variable (hc : (outRec s o).resolved = some c)
include hc

theorem place_missing (hv : (outRec s o).valid = false) (hm : (moduleRec s (outEntry s o).module).state = .missing) :
    place o s = toFault o .noResponse .missing s := by
  simp [place_of hc, hv, hm]

theorem place_unknown (hv : (outRec s o).valid = false) (hm : (moduleRec s (outEntry s o).module).state ≠ .missing) :
    place o s = setAct o .unknown s := by
  simp [place_of hc, hv, hm]

theorem place_shown {code : FaultCode} (hv : (outRec s o).valid = true)
    (hf : viewFault (outRec s o).view = some code) : place o s = toFault o code .none s := by
  simp [place_of hc, hv, hf]

variable (hf : viewFault (outRec s o).view = none)
include hf

theorem place_agrees (ha : agrees (outRec s o) c = true) : place o s = settle o s := by
  have hv : (outRec s o).valid = true := (Bool.and_eq_true_iff.1 ha).1
  simp [place_of hc, hv, hf, ha]

variable (hv : (outRec s o).valid = true) (ha : agrees (outRec s o) c = false)
include hv ha

theorem place_move (hn : needsSlot (outEntry s o) (outRec s o).view c = false) : place o s = enqueue o c s := by
  simp [place_of hc, hv, hf, ha, hn]

theorem place_start (hn : needsSlot (outEntry s o) (outRec s o).view c = true) :
    place o s = placeStart o c (resumeWait o s) := by
  simp [place_of hc, hv, hf, ha, hn]

end

/-! ### Joining a wait list -/

/-- R89, R92: the fan waits from this time, or is queued with the slot of its start. -/
def joins (s : State) (o : Nat) (c : Cmd) (k : Option Nat) : Prop :=
  ((outRec s o).act = .waitStart ∧ (outRec s o).joinTime = k) ∨
    ((outRec s o).act = .queued ∧ (outRec s o).slot = some ⟨startDemand (outEntry s o) (outRec s o).view c, .needed⟩)

theorem joins_examineFor (hw : outsWf s) (hc : (outRec s o).resolved = some c) (ha : agrees (outRec s o) c = false)
    (h : joins s o c k) : joins (examineFor x s) o c k := by
  have ht := (alike_examineFor (o := x) (.refl s)).outEntry o
  unfold joins
  rw [ht]
  rcases outRec_examineFor_or hw x o with e | ⟨-, c', hc', e⟩
  · rw [e]
    exact h
  · obtain rfl : c = c' := Option.some.inj (hc.symm.trans hc')
    rw [e, admittedRecord, if_neg (by simp [ha])]
    exact .inr ⟨rfl, rfl⟩

theorem joins_warnHeld (hw : outsWf s) (h : joins s o c k) : joins (warnHeld x s) o c k := by
  have ht := (alike_warnHeld (o := x) (.refl s)).outEntry o
  unfold joins
  rw [ht]
  rcases outRec_warnHeld hw x o with e | ⟨-, e⟩ <;> rw [e] <;> exact h

/-- R89: the record of a fan that joins. -/
def joinRecord (now : Nat) (r : OutRec) : OutRec := { r with joinTime := some (r.joinTime.getD now), waitOpen := true }

theorem joins_joinWait (hw : outsWf s) (hc : (outRec s o).resolved = some c) (ha : agrees (outRec s o) c = false) :
    joins (joinWait o s) o c (some ((outRec s o).joinTime.getD s.uptime)) := by
  have hm := outsWf_modOut (o := o) (f := joinRecord s.uptime) hw
  have hk : Alike s (setAct o .waitStart (modOut o (joinRecord s.uptime) s)) := alike_setAct (alike_modOut (.refl s))
  have hrec : outRec (setAct o .waitStart (modOut o (joinRecord s.uptime) s)) o =
      { joinRecord s.uptime (outRec s o) with act := .waitStart } := by
    rw [outRec_setAct hm, outRec_modOut_same hw]
  have hj := joins_examineFor (x := o) (hk.wf hw) (c := c) (k := some ((outRec s o).joinTime.getD s.uptime))
    (by rw [hrec]; exact hc) (by rw [hrec]; exact ha) (.inl (by rw [hrec]; exact ⟨rfl, rfl⟩))
  exact joins_warnHeld ((alike_examineFor hk).wf hw) hj

/-! ### The path (R72) -/

/-- R72: a path damper that is open, its view valid and not in FAULT. -/
def isOpen (s : State) (d : Nat) : Prop :=
  (outRec s d).view = .atOpen ∧ (outRec s d).valid = true ∧ (outRec s d).act ≠ .fault

theorem pathOpen_iff (s : State) (d : Nat) : pathOpen s d = true ↔ isOpen s d := by
  simp only [pathOpen, isOpen, Bool.and_eq_true, beq_iff_eq, bne_iff_ne]
  tauto

/-- R72: the path passes. -/
def passes (s : State) (e : OutputEntry) : Prop :=
  listed e.path = [] ∨ (e.interlock = 0 ∧ ∀ d ∈ listed e.path, isOpen s d) ∨
    (e.interlock ≠ 0 ∧ ∃ d ∈ listed e.path, isOpen s d)

/-- R72: the path fails. -/
def fails (s : State) (e : OutputEntry) : Prop :=
  listed e.path ≠ [] ∧ ((e.interlock = 0 ∧ ∃ d ∈ listed e.path, (outRec s d).act = .fault) ∨
    (e.interlock ≠ 0 ∧ ∀ d ∈ listed e.path, (outRec s d).act = .fault))

theorem pathPasses_iff (s : State) (e : OutputEntry) : pathPasses s e = true ↔ passes s e := by
  unfold pathPasses passes
  by_cases hi : e.interlock = 0 <;> simp [hi, pathOpen_iff]

theorem pathFaults_iff (s : State) (e : OutputEntry) : pathFaults s e = true ↔ fails s e := by
  unfold pathFaults fails pathFailed
  by_cases hi : e.interlock = 0 <;> simp [hi]

/-- R72: the judging of a fan in WAIT_PATH. -/
theorem judgePath_of (ha : (outRec s o).act = .waitPath) :
    (passes s (outEntry s o) → judgePath o s = joinWait o s) ∧
    (¬ passes s (outEntry s o) → fails s (outEntry s o) → judgePath o s = toFault o .path .none s) ∧
    (¬ passes s (outEntry s o) → ¬ fails s (outEntry s o) → judgePath o s = s) := by
  have hj : judgePath o s = if pathPasses s (outEntry s o) then joinWait o s
      else if pathFaults s (outEntry s o) then toFault o .path .none s else s := if_neg fun h => h ha
  rw [hj, ← pathPasses_iff, ← pathFaults_iff]
  exact ⟨fun hp => if_pos hp, fun hp hf => (if_neg hp).trans (if_pos hf), fun hp hf => (if_neg hp).trans (if_neg hf)⟩

/-! ### A start -/

/-- R62, R72, R92: what placing a speed step, or a fan start by its path, comes to. -/
theorem placeStart_outcome (hw : outsWf s) (hc : (outRec s o).resolved = some c) (ha : agrees (outRec s o) c = false) :
    let k := some ((outRec s o).joinTime.getD s.uptime)
    let e := outEntry s o
    let waiting := setAct o .waitPath s
    let t := placeStart o c s
    (isFanStart e (outRec s o).view c = false → joins t o c k) ∧
    (isFanStart e (outRec s o).view c = true →
      (passes waiting e → joins t o c k) ∧
      (¬ passes waiting e → fails waiting e → outRec t o = faultedRecord .path .none (outRec waiting o)) ∧
      (¬ passes waiting e → ¬ fails waiting e → (outRec t o).act = .waitPath)) := by
  intro k e waiting t
  have hk : Alike s waiting := alike_setAct (.refl s)
  have hrec : outRec waiting o = { outRec s o with act := .waitPath } := outRec_setAct hw
  have he : outEntry waiting o = e := hk.outEntry o
  have hup : waiting.uptime = s.uptime := (work_setAct (.refl s)).uptime
  obtain ⟨hpass, hfail, hwait⟩ := judgePath_of (s := waiting) (o := o) (by rw [hrec])
  rw [he] at hpass hfail hwait
  refine ⟨fun hs => ?_, fun hs => ?_⟩
  · have ht : t = joinWait o s := if_neg (by simpa [e] using hs)
    rw [ht]
    exact joins_joinWait hw hc ha
  · have ht : t = judgePath o waiting := if_pos hs
    rw [ht]
    refine ⟨fun hp => ?_, fun hp hf => ?_, fun hp hf => ?_⟩
    · have hj := joins_joinWait (hk.wf hw) (c := c) (by rw [hrec]; exact hc) (by rw [hrec]; exact ha)
      rw [hpass hp]
      rw [hrec, hup] at hj
      exact hj
    · rw [hfail hp hf, outRec_toFault (hk.wf hw)]
    · rw [hwait hp hf, hrec]

/-- R62, R72, R92: what placing a start comes to. -/
def starts (s : State) (o : Nat) (c : Cmd) : Prop :=
  (outRec s o).act = .waitPath ∨ (∃ k, joins s o c k) ∨
    ((outRec s o).act = .fault ∧ (outRec s o).fault = some ⟨.path, .none⟩)

theorem starts_placeStart (hw : outsWf s) (hc : (outRec s o).resolved = some c) (ha : agrees (outRec s o) c = false) :
    starts (placeStart o c s) o c := by
  obtain ⟨hstep, hstart⟩ := placeStart_outcome hw hc ha
  cases hs : isFanStart (outEntry s o) (outRec s o).view c with
  | false => exact .inr (.inl ⟨_, hstep hs⟩)
  | true =>
    obtain ⟨hpass, hfail, hwait⟩ := hstart hs
    by_cases hp : passes (setAct o .waitPath s) (outEntry s o)
    · exact .inr (.inl ⟨_, hpass hp⟩)
    · by_cases hf : fails (setAct o .waitPath s) (outEntry s o)
      · have hu := hfail hp hf
        exact .inr (.inr ⟨congrArg OutRec.act hu, congrArg OutRec.fault hu⟩)
      · exact .inl (hwait hp hf)

theorem starts_place (hw : outsWf s) (hc : (outRec s o).resolved = some c) (hv : (outRec s o).valid = true)
    (hf : viewFault (outRec s o).view = none) (ha : agrees (outRec s o) c = false)
    (hn : needsSlot (outEntry s o) (outRec s o).view c = true) : starts (place o s) o c := by
  have hk := alike_resumeWait (o := o) (.refl s)
  obtain ⟨-, hres, hview, hvalid, -⟩ := bearing_inj.1 (hk.bearing hw o)
  rw [place_start hc hf hv ha hn]
  exact starts_placeStart (hk.wf hw) (hres.trans hc) (by rw [agrees, hview, hvalid]; exact ha)

end Sys2Proof.Machine
end

section
/-! The STATE of a poll is decoded (O50). -/

namespace Sys2Proof.Machine

-- Elaborated one after another: the check bounds Lean's threads.
set_option Elab.async false

variable {s t u : State} {o m : Nat} {c : Cmd} {f : OutRec → OutRec}

/-! ### The frame -/

/-- R133, R179: four readings, none with an indication or a speed that 12.5 does not have. -/
theorem decodable_iff (bs : List Byte) :
    decodable bs = true ↔
      bs.length = 4 ∧ ∀ b ∈ bs, b.toNat / 64 ≠ 3 ∧ ¬ (b.toNat / 64 = 2 ∧ b.toNat % 4 = 3) := by
  simp only [decodable, readingBad, readingFitted, Bool.and_eq_true, List.all_eq_true, beq_iff_eq, Bool.not_eq_true',
    Bool.or_eq_false_iff, Bool.and_eq_false_iff, beq_eq_false_iff_ne, ne_eq, not_and_or]

theorem stateTaken_inFlight {bs : List Byte} {sends : Nat} {f : Frame} {window : Option Nat}
    (hx : s.plant.exchange = some ⟨.ownPoll, f, sends, window⟩) :
    stateTaken bs s = if decodable bs then endStep (pollAnswered f.dest bs s) else countError s := by
  simp only [stateTaken, hx]

theorem stateTaken_stray {bs : List Byte}
    (hx : ∀ f sends window, s.plant.exchange ≠ some ⟨.ownPoll, f, sends, window⟩) :
    stateTaken bs s = countStray s := by
  unfold stateTaken
  split
  · rename_i f _ _ h
    exact absurd h (hx f _ _)
  · rfl

theorem modulePresent_eq (m : Nat) (s : State) :
    modulePresent m s =
      let t := setModule m { moduleRec s m with state := .present, missingStamp := none } s
      if (moduleRec s m).state = .missing then
        recordEntry .moduleRecovered m (capWord (secondsSince s ((moduleRec s m).missingStamp.getD s.uptime))) t
      else t := by
  unfold modulePresent
  simp only [raise_moduleRecovered]

/-! ### The readings and the return, channel by channel -/

/-- Two passes over the same outputs that agree wherever the tables stand. -/
theorem foldl_congr_of_tables {g h : State → Nat → State} (hg : ∀ t o, (g t o).tables = t.tables)
    (he : ∀ t o, t.tables = s.tables → g t o = h t o) (os : List Nat) : os.foldl g s = os.foldl h s := by
  have hf : ∀ t : State, t.tables = s.tables → os.foldl g t = os.foldl h t := by
    induction os with
    | nil => exact fun _ _ => rfl
    | cons o os ih =>
      intro t ht
      rw [List.foldl_cons, List.foldl_cons, ← he t o ht]
      exact ih _ ((hg t o).trans ht)
  exact hf s rfl

theorem outputsByChannel_eq (s : State) (m : Nat) :
    outputsByChannel s m = [1, 2, 3, 4].flatMap (fun channel =>
      (configured s).filter (fun o => (outEntry s o).channel == channel && (outEntry s o).module == m)) := by
  simp only [outputsByChannel, outputsOfModule, List.filter_filter]

theorem readingMatches_iff (e : OutputEntry) (b : Nat) :
    readingMatches e b = true ↔ (isDamper e = true ∧ b / 64 = 1) ∨ (isFan e = true ∧ b / 64 = 2) := by
  simp [readingMatches, readingFitted]

theorem takeReadings_eq (m : Nat) (bs : List Byte) (s : State) :
    takeReadings m bs s = (outputsByChannel s m).foldl (fun t o =>
      let b := byteAt bs ((outEntry t o).channel - 1)
      if (isDamper (outEntry t o) = true ∧ b / 64 = 1) ∨ (isFan (outEntry t o) = true ∧ b / 64 = 2) then
        takeReading o b t
      else takeUnusable o t) s := by
  refine foldl_congr_of_tables (fun t o => ?_) (fun t o ht => ?_) _
  · dsimp only
    split
    · exact (work_takeReading (.refl t)).tables
    · exact (work_takeUnusable (.refl t)).tables
  · simp only [outEntry_congr ht, readingMatches_iff]

theorem outputReturned_eq (o : Nat) (s : State) :
    outputReturned o s =
      if (outRec s o).act = .fault ∧ (outRec s o).fault = some ⟨.noResponse, .missing⟩ then
        onOutput o (fun u => place o (recordEntry .outputRecovered o 5
          (modOut o (fun r => { r with fault := none, retried := false, busy := 0 }) u))) s
      else s := by
  simp only [outputReturned, Bool.and_eq_true, decide_eq_true_eq]
  refine if_congr Iff.rfl (onOutput_congr ?_) rfl
  exact newAttempt_eq o .module s

/-! ### The view of a reading -/

/-- The views and their validity stand. -/
structure Sighted (s t : State) : Prop where
  wf : outsWf s → outsWf t
  view : outsWf s → ∀ o, (outRec t o).view = (outRec s o).view ∧ (outRec t o).valid = (outRec s o).valid

theorem Sighted.refl (s : State) : Sighted s s := ⟨id, fun _ _ => ⟨rfl, rfl⟩⟩

theorem Sighted.alike (h : Sighted s t) (k : Alike t u) : Sighted s u := by
  refine ⟨k.wf ∘ h.wf, fun hw o => ?_⟩
  obtain ⟨-, -, hv, ha, -⟩ := bearing_inj.1 (k.bearing (h.wf hw) o)
  rw [hv, ha]
  exact h.view hw o

theorem sighted_modOut (h : Sighted s t) (hf : ∀ r, (f r).view = r.view ∧ (f r).valid = r.valid := by
    exact fun _ => ⟨rfl, rfl⟩) : Sighted s (modOut o f t) := by
  refine ⟨fun hw => outsWf_modOut (h.wf hw), fun hw x => ?_⟩
  rw [outRec_modOut (h.wf hw)]
  split
  · rename_i e
    rw [(hf _).1, (hf _).2, e]
    exact h.view hw o
  · exact h.view hw x

theorem sighted_ite {c : Prop} [Decidable c] {a b : State} (ha : Sighted s a) (hb : Sighted s b) :
    Sighted s (if c then a else b) := by
  split
  · exact ha
  · exact hb

theorem sighted_newAttempt (h : Sighted s t) {way : Way} : Sighted s (newAttempt o way t) :=
  (sighted_modOut h).alike (alike_place (alike_raise (.refl _)))

theorem sighted_readInFault (h : Sighted s t) {old : OutRec} : Sighted s (readInFault o old c t) :=
  sighted_ite h (sighted_ite (h.alike (alike_settle (alike_raise (alike_modOut (.refl _)))))
    (sighted_ite (sighted_newAttempt h) h))

theorem sighted_depart (h : Sighted s t) : Sighted s (depart o c t) :=
  sighted_ite (h.alike (alike_enqueue (.refl t))) (sighted_ite ((sighted_modOut h).alike (alike_enqueue (.refl _)))
    (h.alike (alike_toFault (.refl t))))

theorem sighted_readInState (h : Sighted s t) {old : OutRec} : Sighted s (readInState o old c t) := by
  have hp : Sighted s (if agrees (outRec t o) c then settle o t
      else if (outRec t o).view ≠ old.view then modOut o (fun r => { r with clean := false }) t else t) :=
    sighted_ite (h.alike (alike_settle (.refl t))) (sighted_ite (sighted_modOut h) h)
  have hw : Sighted s (if viewSpeed (outRec t o).view ≠ viewSpeed old.view then placeFromWait o t else t) :=
    sighted_ite (h.alike (alike_placeFromWait (.refl t))) h
  unfold readInState
  dsimp only
  split
  case h_4 => exact sighted_ite h (sighted_depart h)
  case h_5 | h_6 => exact hw
  case h_7 => exact h
  all_goals exact hp

theorem sighted_afterReading (h : Sighted s t) {old : OutRec} : Sighted s (afterReading o old t) := by
  unfold afterReading
  split
  · exact h.alike (alike_settle (.refl t))
  · exact h.alike (alike_place (.refl t))
  · exact h
  · exact sighted_readInFault h
  · split
    · exact sighted_ite (h.alike (alike_toFault (.refl t))) (sighted_readInState h)
    · exact sighted_readInState h

theorem outsWf_takeView (hw : outsWf s) {v : View} {a b : Bool} : outsWf (takeView o v a b s) :=
  (kept_takeView (ps := []) (.refl [] s)).wf hw

/-- R59: the view that a reading leaves is the one it shows. -/
theorem view_takeReading (hw : outsWf s) (b : Nat) :
    (outRec (takeReading o b s) o).view = readingView (outEntry s o) b ∧
      (outRec (takeReading o b s) o).valid = true := by
  have hrec := outRec_takeView (o := o) (v := readingView (outEntry s o) b) (a := true) (b := false) hw
  have hv : outsWf (takeView o (readingView (outEntry s o) b) true false s) := outsWf_takeView hw
  have hs : Sighted (takeView o (readingView (outEntry s o) b) true false s) (takeReading o b s) :=
    ((sighted_afterReading (.refl _)).alike (alike_onOutput (work := fun s =>
      afterReading o (outRec s o) (takeView o (readingView (outEntry s o) b) true false s)) (.refl _))).alike
      (alike_examineIfFallen (.refl _))
  obtain ⟨h1, h2⟩ := hs.view hv o
  rw [h1, h2, hrec]
  exact ⟨rfl, rfl⟩

theorem damperView_eq (b : Nat) :
    damperView b =
      match b % 2, b / 2 % 2 with
      | 1, 0 => .atOpen
      | 0, 1 => .atClosed
      | 0, _ => .travel
      | _, _ => .conflict := by
  unfold damperView
  rcases Nat.mod_two_eq_zero_or_one b with h | h <;> rcases Nat.mod_two_eq_zero_or_one (b / 2) with h' | h' <;>
    rw [h, h'] <;> rfl

/-! ### An unusable reading -/

theorem takeUnusable_eq (o : Nat) (s : State) :
    takeUnusable o s =
      let w := modOut o (fun r => { r with valid := false, unusable := true }) s
      let seen :=
        if isFan (outEntry s o) = true ∧
            provenExtract (outEntry s o) (outRec s o) ≠ provenExtract (outEntry s o) (outRec w o) then
          tellMonitor (.extractChanged o) w
        else w
      examineIfFallen o (contribution (outEntry s o) (outRec s o)) (onOutput o (fun _ =>
        if (outRec s o).resolved = none then setAct o .unknown seen
        else if (outRec s o).act = .fault then seen
        else toFault o .noResponse .badChannel seen) s) := by
  unfold takeUnusable takeView
  refine congrArg (examineIfFallen o _) (onOutput_congr ?_)
  simp only [Option.isNone_iff_eq_none, Bool.and_eq_true, bne_iff_ne]
  rfl

/-- Settles O50: the frame by the exchange in flight, then the parts of its decoding. -/
theorem stateRepliesAreDecoded : Obligations.StateRepliesAreDecoded := by
  refine ⟨fun readings s hw => ⟨fun f sends window hx => ?_, fun hx => ?_⟩, fun m readings s => ⟨?_, ?_⟩,
    fun o s => ?_, fun o b s hc ho => ?_⟩
  · refine (acting_awake hw).trans (congrArg _ ((stateTaken_inFlight hx).trans ?_))
    refine if_congr (decodable_iff readings) (congrArg endStep ?_) rfl
    unfold pollAnswered stateDecoded
    rw [modulePresent_eq]
    rfl
  · exact (acting_awake hw).trans (congrArg _ (stateTaken_stray hx))
  · rw [takeReadings_eq, outputsByChannel_eq]
  · unfold outputsReturned
    simp only [outputsByChannel_eq, outputReturned_eq]
  · rw [takeUnusable_eq]
    rfl
  · obtain ⟨hview, hvalid⟩ := view_takeReading (o := o) hc.outs b
    refine ⟨hvalid, hview.trans ?_⟩
    unfold readingView
    rw [damperView_eq]
    rfl

end Sys2Proof.Machine
end

section
/-! Where an output is placed for its command, part by part (O46). -/

namespace Sys2Proof.Machine

-- Elaborated one after another: the check bounds Lean's threads.
set_option Elab.async false

variable {s t : State} {o x d : Nat} {c : Cmd}

/-! ### Views and commands (R56, R59) -/

theorem viewAgrees_iff (v : View) (c : Cmd) :
    viewAgrees v c = true ↔
      match c with
      | .opn => v = .atOpen
      | .cls => v = .atClosed
      | .stop => viewSpeed v = some .stopped
      | .low => viewSpeed v = some .low ∧ viewTrip v = false ∧ viewLocal v = false
      | .high => viewSpeed v = some .high ∧ viewTrip v = false ∧ viewLocal v = false := by
  cases c <;> simp [viewAgrees, and_assoc]

theorem isFanStart_iff (e : OutputEntry) (v : View) (c : Cmd) :
    isFanStart e v c = true ↔ (e.kind = 2 ∨ e.kind = 3) ∧ (c = .low ∨ c = .high) ∧ viewSpeed v = some .stopped := by
  simp [isFanStart, isFan, isFanSingle, isFanTwo, and_assoc]

theorem isSpeedStep_iff (e : OutputEntry) (v : View) (c : Cmd) :
    isSpeedStep e v c = true ↔ e.kind = 3 ∧ c = .high ∧ viewSpeed v = some .low := by
  simp [isSpeedStep, isFanTwo, and_assoc]

/-! ### The path of a start that is placed (R72) -/

/-- Placing a start resumes or ends its wait, which no path speaks of. -/
theorem path_resumeWait (hw : outsWf s) (e : OutputEntry) :
    (passes (setAct o .waitPath (resumeWait o s)) e ↔ passes (setAct o .waitPath s) e) ∧
      (fails (setAct o .waitPath (resumeWait o s)) e ↔ fails (setAct o .waitPath s) e) := by
  have hk := alike_resumeWait (o := o) (.refl s)
  have hb : ∀ d, bearing (outRec (setAct o .waitPath (resumeWait o s)) d) = bearing (outRec (setAct o .waitPath s) d) :=
    fun d => ((alike_setAct hk).bearing hw d).trans ((alike_setAct (.refl s)).bearing hw d).symm
  have hact : ∀ d, (outRec (setAct o .waitPath (resumeWait o s)) d).act = (outRec (setAct o .waitPath s) d).act := by
    intro d
    by_cases hd : d = o
    · rw [hd, outRec_setAct (hk.wf hw), outRec_setAct hw]
    · rw [outRec_setAct_other hd, outRec_setAct_other hd, resumeWait]
      split
      · rfl
      · exact congrArg OutRec.act (outRec_modOut_other hd)
  have hopen : ∀ d, isOpen (setAct o .waitPath (resumeWait o s)) d ↔ isOpen (setAct o .waitPath s) d := fun d => by
    obtain ⟨-, -, hview, hvalid, -⟩ := bearing_inj.1 (hb d)
    rw [isOpen, hview, hvalid, hact, isOpen]
  simp only [passes, fails, hopen, hact, true_and]

/-! ### The placing of a command that no view fault forestalls -/

/-- R89, R97: the join time of a fan that is placed with a start. -/
theorem joinTime_resumeWait (hw : outsWf s) :
    ((outRec (resumeWait o s) o).joinTime.getD s.uptime) =
      if (outRec s o).waitOpen = true then (outRec s o).joinTime.getD s.uptime else s.uptime := by
  unfold resumeWait
  split
  · rfl
  · rw [forgetWait, outRec_modOut_same hw]
    rfl

/-- R89, R92: the fan of record `r` waits from `k` on, or is queued with the slot of its start. -/
def joined (e : OutputEntry) (r : OutRec) (c : Cmd) (k : Option Nat) (u : OutRec) : Prop :=
  (u.act = .waitStart ∧ u.joinTime = k) ∨ (u.act = .queued ∧ u.slot = some ⟨startDemand e r.view c, .needed⟩)

theorem joins_iff {k : Option Nat} (hw : outsWf s) (h : Alike s t) :
    joins t o c k ↔ joined (outEntry s o) (outRec s o) c k (outRec t o) := by
  obtain ⟨-, -, hview, -⟩ := bearing_inj.1 (h.bearing hw o)
  rw [joins, h.outEntry, hview, joined]

theorem place_outcome (hw : outsWf s) (hc : (outRec s o).resolved = some c) (hv : (outRec s o).valid = true)
    (hf : viewFault (outRec s o).view = none) (ha : agrees (outRec s o) c = false)
    (hn : needsSlot (outEntry s o) (outRec s o).view c = true) :
    let e := outEntry s o
    let r := outRec s o
    let u := outRec (place o s) o
    let k := some (if r.waitOpen = true then r.joinTime.getD s.uptime else s.uptime)
    let waiting := setAct o .waitPath s
    (isFanStart e r.view c = false → joined e r c k u) ∧
    (isFanStart e r.view c = true →
      (passes waiting e → joined e r c k u) ∧
      (¬ passes waiting e → fails waiting e → u.act = .fault ∧ u.fault = some ⟨.path, .none⟩) ∧
      (¬ passes waiting e → ¬ fails waiting e → u.act = .waitPath)) := by
  intro e r u k waiting
  have hk := alike_resumeWait (o := o) (.refl s)
  obtain ⟨-, hres, hview, hvalid, -⟩ := bearing_inj.1 (hk.bearing hw o)
  have ht : place o s = placeStart o c (resumeWait o s) := place_start hc hf hv ha hn
  have hj : ∀ {k}, joins (place o s) o c k ↔ joined e r c k u := joins_iff hw (alike_place (.refl s))
  obtain ⟨hstep, hstart⟩ := placeStart_outcome (hk.wf hw) (hres.trans hc) (by rw [agrees, hview, hvalid]; exact ha)
  rw [hk.outEntry, hview, (work_resumeWait (.refl s)).uptime, joinTime_resumeWait hw, ← ht, hj] at hstep hstart
  obtain ⟨hp, hq⟩ := path_resumeWait (o := o) hw e
  rw [hp, hq] at hstart
  refine ⟨hstep, fun hs => ?_⟩
  obtain ⟨hpass, hfail, hwait⟩ := hstart hs
  refine ⟨hpass, fun h h' => ?_, hwait⟩
  have hu : u = _ := hfail h h'
  rw [hu]
  exact ⟨rfl, rfl⟩

/-! ### What goes with FAULT and SETTLED -/

theorem modOut_congr {f g : OutRec → OutRec} (h : f (outRec s o) = g (outRec s o)) : modOut o f s = modOut o g s := by
  unfold modOut
  rw [h]

/-- R42, R77, R110: the report to the Runner, and to the Monitor of a reserve. -/
theorem tellReserve_tellRunner (n : RunnerNotice) (o : Nat) (s : State) :
    tellReserve o (tellRunner n s) = { s with
      runnerIn := s.runnerIn ++ [n]
      monitorIn := match (outRec s o).engaged with
        | .reserveFor _ => s.monitorIn ++ [.reserveOutcome o]
        | _ => s.monitorIn } := by
  unfold tellReserve
  rw [outRec_tellRunner]
  cases (outRec s o).engaged <;> rfl

theorem cleanOf_eq (r : OutRec) :
    cleanOf r =
      if r.act = .moving ∨ r.act = .starting ∨ r.act = .stopping then (if r.clean then .set else .clear) else .none := by
  unfold cleanOf
  cases r.act <;> simp [proving]

/-- R89, R97: the record of an output whose wait ends, if it waits. -/
theorem endWait_eq (r : OutRec) :
    endWait r =
      let ends := r.act = .waitPath ∨ r.act = .waitStart ∨ r.waitOpen = true
      { r with
        joinTime := if ends then none else r.joinTime
        heldWarned := if ends then false else r.heldWarned
        waitOpen := false } := by
  have hi : (inWait r.act || r.waitOpen) = true ↔ r.act = .waitPath ∨ r.act = .waitStart ∨ r.waitOpen = true := by
    simp [inWait, or_assoc]
  unfold endWait
  dsimp only
  by_cases h : r.act = .waitPath ∨ r.act = .waitStart ∨ r.waitOpen = true
  · rw [if_pos (hi.2 h), if_pos h, if_pos h]
    rfl
  · have hw : r.waitOpen = false := by simpa using fun e => h (.inr (.inr e))
    rw [if_neg (mt hi.1 h), if_neg h, if_neg h, ← hw]

/-- R77: the output stands in FAULT, reported, its slot given up. -/
def faultFreed (o : Nat) (code : FaultCode) (cause : Cause) (s : State) : State :=
  modOut o (fun r => { r with slot := none })
    (report
      { event := .outputFault, subject := o, detail := faultCodeOf code * 256 + causeCode cause
        clean := cleanOf (outRec s o), facts := some (faultFacts s o) }
      (setAct o .fault (dequeue o (modOut o (faultNoted code cause) s))))

theorem faultNoted_bearing (code : FaultCode) (cause : Cause) (r : OutRec) :
    bearing (faultNoted code cause r) = bearing r := endWait_bearing r

theorem alike_faultFreed (o : Nat) (code : FaultCode) (cause : Cause) (s : State) :
    Alike s (faultFreed o code cause s) :=
  alike_modOut (alike_report (alike_setAct (alike_dequeue (alike_modOut (.refl s) (faultNoted_bearing code cause)))))

theorem toFault_eq (hw : outsWf s) (o : Nat) (code : FaultCode) (cause : Cause) :
    toFault o code cause s = tellReserve o (tellRunner (.fault o code)
      (if isFan (outEntry s o) = true then examine (outEntry s o).board (faultFreed o code cause s)
      else faultFreed o code cause s)) := by
  rw [toFault, faultRecord_eq hw, examineFor, ← (alike_faultFreed o code cause s).outEntry o]
  rfl

/-- R70: the output stands at SETTLED. -/
def settledAt (o : Nat) (s : State) : State :=
  setAct o .settled
    (modOut o (fun r => { r with fault := none, origin := none, timer := none, clean := false, slot := none }) s)

theorem settleRecord_eq (o : Nat) (s : State) :
    settleRecord o s =
      if (outRec s o).act = .settled then settledAt o s
      else { settledAt o s with
        runnerIn := (settledAt o s).runnerIn ++ [.settled o]
        monitorIn := match (outRec (settledAt o s) o).engaged with
          | .reserveFor _ => (settledAt o s).monitorIn ++ [.reserveOutcome o]
          | _ => (settledAt o s).monitorIn } := by
  rw [← tellReserve_tellRunner]
  rfl

/-- R70, R93: a slot or a place in the list that is given up has the board examined. -/
theorem settle_eq (o : Nat) (s : State) :
    settle o s =
      if ((outRec s o).slot ≠ none ∨ (outRec s o).act = .waitStart) ∧
          isFan (outEntry (settleRecord o s) o) = true then
        examine (outEntry (settleRecord o s) o).board (settleRecord o s)
      else settleRecord o s := by
  have hs : ((outRec s o).slot.isSome || (outRec s o).act == .waitStart) = true ↔
      (outRec s o).slot ≠ none ∨ (outRec s o).act = .waitStart := by
    simp [Option.isSome_iff_ne_none]
  unfold settle examineFor
  dsimp only
  simp only [hs]
  by_cases h : (outRec s o).slot ≠ none ∨ (outRec s o).act = .waitStart
  · simp only [h, true_and, if_true]
  · simp only [h, false_and, if_false]

/-! ### What follows the work for one output -/

theorem onOutput_fan (work : State → State) (s : State) (hs : isDamper (outEntry s o) = false)
    (ht : isDamper (outEntry (work s) o) = false) : onOutput o work s = requeueStart o (work s) := by
  have hk := alike_requeueStart (o := o) (.refl (work s))
  unfold onOutput
  dsimp only
  rw [hs, hk.outEntry, ht]
  rfl

/-- A damper's command is never a start. -/
theorem needsSlot_of_isDamper {e : OutputEntry} (h : isDamper e = true) (v : View) (c : Cmd) :
    needsSlot e v c = false := by
  simp only [isDamper, beq_iff_eq] at h
  simp [needsSlot, isFanStart, isSpeedStep, isFan, isFanSingle, isFanTwo, h]

theorem requeueStart_damper (h : isDamper (outEntry s o) = true) : requeueStart o s = s := by
  cases hc : (outRec s o).resolved with
  | none => exact requeueStart_none hc
  | some c =>
    refine requeueStart_stays hc fun hm => ?_
    have hn := hm.2.1
    rw [needsSlot_of_isDamper h] at hn
    cases hn

theorem onOutput_damper (work : State → State) (s : State) (hs : isDamper (outEntry s o) = true)
    (ht : isDamper (outEntry (work s) o) = true) :
    onOutput o work s =
      if (outRec s o).act = (outRec (work s) o).act ∧ (outRec s o).view = (outRec (work s) o).view ∧
          (outRec s o).valid = (outRec (work s) o).valid then work s
      else rejudge o (work s) := by
  unfold onOutput
  rw [requeueStart_damper ht]
  dsimp only
  rw [hs]
  by_cases h : (outRec s o).act = (outRec (work s) o).act ∧ (outRec s o).view = (outRec (work s) o).view ∧
      (outRec s o).valid = (outRec (work s) o).valid
  · rw [if_pos h]
    simp [h]
  · rw [if_neg h]
    refine if_pos ?_
    simp only [Bool.true_or, Bool.true_and, Bool.or_eq_true, bne_iff_ne]
    tauto

theorem requeueStart_eq (o : Nat) (s : State) :
    requeueStart o s =
      match (outRec s o).resolved with
      | some c =>
        if (outRec s o).act = .queued ∧ needsSlot (outEntry s o) (outRec s o).view c = true ∧
            (outRec s o).slot = none ∧ s.plant.hold.state ≠ .held ∧ s.plant.hold.state ≠ .releasePending then
          place o (dequeue o s)
        else s
      | none => s := by
  cases hc : (outRec s o).resolved with
  | none => exact requeueStart_none hc
  | some c =>
    by_cases hm : mustRequeue s o c
    · rw [requeueStart_place hc hm]
      exact (if_pos hm).symm
    · rw [requeueStart_stays hc hm]
      exact (if_neg hm).symm

theorem queue_setAct (o : Nat) (a : Act) (s : State) : (setAct o a s).queue = s.queue := by
  unfold setAct
  dsimp only
  split
  · rfl
  · split <;> rfl

theorem queue_enqueue (o : Nat) (c : Cmd) (s : State) : (enqueue o c s).queue = s.queue ++ [⟨o, c⟩] := queue_setAct _ _ _

/-- A speed step is no fan start. -/
theorem not_isFanStart_of_isSpeedStep {e : OutputEntry} {v : View} (h : isSpeedStep e v c = true) :
    isFanStart e v c = false := by
  obtain ⟨-, -, hv⟩ := (isSpeedStep_iff e v c).1 h
  simp [isFanStart, hv]

theorem joined_weaken {e : OutputEntry} {r u : OutRec} {k : Option Nat} (h : joined e r c k u) :
    u.act = .waitStart ∨ (u.act = .queued ∧ ∃ hold, u.slot = some ⟨startDemand e r.view c, hold⟩) :=
  h.imp And.left fun h => ⟨h.1, _, h.2⟩

/-- R89: a fan that waits after its placing waits from its join time. -/
theorem joined_waits {e : OutputEntry} {r u : OutRec} {k : Option Nat} (h : joined e r c k u)
    (hu : u.act = .waitStart) : u.joinTime = k :=
  h.elim And.right fun h => absurd (hu.symm.trans h.1) (fun h => nomatch h)

/-- Settles O46: the views and commands, the cases of placement, and what goes with each state. -/
theorem outputsArePlacedForTheirCommand : Obligations.OutputsArePlacedForTheirCommand := by
  refine ⟨fun e v c => ⟨viewAgrees_iff v c, isFanStart_iff e v c, isSpeedStep_iff e v c, rfl⟩, fun o c s hw ho hc => ?_,
    fun f s ha => judgePath_of ha, fun o code cause s hw => ?_, fun o s => ?_, fun o work s hs ht => ?_,
    fun d work s hs ht => ?_⟩
  · have hf : ∀ {code cause}, outRec (toFault o code cause s) o = faultedRecord code cause (outRec s o) :=
      outRec_toFault hw.outs
    dsimp only
    refine ⟨fun hv hm => ?_, fun hv hm => ?_, fun hv h => ?_, fun hv h h' => ?_, fun hv h => ?_,
      fun hv h1 h2 h3 => ⟨fun ha => ?_, fun ha => ?_⟩⟩
    · rw [place_missing hc hv hm, hf]
      exact ⟨rfl, rfl⟩
    · rw [place_unknown hc hv hm, outRec_setAct hw.outs]
    · rw [place_shown hc hv (code := .tripped) (by simp [viewFault, h]), hf]
      exact ⟨rfl, rfl⟩
    · rw [place_shown hc hv (code := .localControl) (by simp [viewFault, h, h']), hf]
      exact ⟨rfl, rfl⟩
    · rw [place_shown hc hv (code := .conflict) (by simp [viewFault, h, viewTrip, viewLocal]), hf]
      exact ⟨rfl, rfl⟩
    · rw [place_agrees hc (viewFault_eq_none.2 ⟨h1, h2, h3⟩) (by rw [agrees, hv, ha]; rfl), outRec_settle hw.outs]
      rfl
    · have hn := viewFault_eq_none.2 ⟨h1, h2, h3⟩
      have hna : agrees (outRec s o) c = false := by rw [agrees, ha, Bool.and_false]
      have hout := fun h => place_outcome hw.outs hc hv hn hna h
      refine ⟨fun h => ?_, fun h => ?_, fun h hu => ?_, fun h => ?_⟩
      · rw [place_move hc hn hv hna h, outRec_enqueue hw.outs]
        exact ⟨rfl, queue_enqueue o c s⟩
      · exact joined_weaken ((hout (by rw [needsSlot, h, Bool.or_true])).1 (not_isFanStart_of_isSpeedStep h))
      · obtain ⟨hstep, hstart⟩ := hout h
        cases hfs : isFanStart (outEntry s o) (outRec s o).view c with
        | false => exact joined_waits (hstep hfs) hu
        | true =>
          obtain ⟨hpass, hfail, hwait⟩ := hstart hfs
          by_cases hp : passes (setAct o .waitPath s) (outEntry s o)
          · exact joined_waits (hpass hp) hu
          · by_cases hq : fails (setAct o .waitPath s) (outEntry s o)
            · exact absurd (hu.symm.trans (hfail hp hq).1) (fun h => nomatch h)
            · exact absurd (hu.symm.trans (hwait hp hq)) (fun h => nomatch h)
      · obtain ⟨-, hstart⟩ := hout (by rw [needsSlot, h, Bool.true_or])
        obtain ⟨hpass, hfail, hwait⟩ := hstart h
        exact ⟨fun hp => joined_weaken (hpass hp), hfail, hwait⟩
  · rw [toFault_eq hw.outs, tellReserve_tellRunner]
    unfold faultFreed
    rw [cleanOf_eq, modOut_congr (g := faultNoted code cause) rfl]
    unfold faultNoted
    simp only [endWait_eq] <;> rfl
  · rw [settle_eq, settleRecord_eq]
    rfl
  · rw [onOutput_fan work s hs ht, requeueStart_eq]
    rfl
  · rw [onOutput_damper work s hs ht]
    rfl

end Sys2Proof.Machine
end

section
/-! What a reading does to an output's state (O51): what it does at first, by the state and the view, and what the work that
follows for the output leaves of that. -/

namespace Sys2Proof.Machine

-- Elaborated one after another: the check bounds Lean's threads.
set_option Elab.async false

variable {s t : State} {o x b : Nat} {c : Cmd}

/-! ### The view is taken -/

/-- R59: the view that the reading forms is in the record. -/
def readingSeen (o b : Nat) (s : State) : State := takeView o (readingView (outEntry s o) b) true false s

/-- R59: the record with the view of a reading. -/
def seenRecord (v : View) (r : OutRec) : OutRec := { r with view := v, valid := true, unusable := false }

theorem outRec_readingSeen (hw : outsWf s) :
    outRec (readingSeen o b s) o = seenRecord (readingView (outEntry s o) b) (outRec s o) := outRec_takeView hw

theorem outsWf_readingSeen (hw : outsWf s) : outsWf (readingSeen o b s) := outsWf_takeView hw

theorem outEntry_readingSeen : outEntry (readingSeen o b s) x = outEntry s x :=
  outEntry_congr (kept_takeView (ps := []) (.refl [] s)).tables x

theorem hold_readingSeen : (readingSeen o b s).plant.hold = s.plant.hold := by
  unfold readingSeen takeView
  dsimp only
  split <;> rfl

/-- R59, R107: the Monitor hears of a change of proven extract. -/
theorem readingSeen_eq (hw : outsWf s) :
    readingSeen o b s =
      let v := readingView (outEntry s o) b
      let w := modOut o (fun r => { r with view := v, valid := true, unusable := false }) s
      if isFan (outEntry s o) = true ∧ provenExtract (outEntry s o) (outRec s o) ≠
          provenExtract (outEntry s o) { outRec s o with view := v, valid := true } then
        { w with monitorIn := w.monitorIn ++ [.extractChanged o] }
      else w := by
  unfold readingSeen takeView
  dsimp only
  rw [outRec_modOut_same hw]
  simp only [Bool.and_eq_true, bne_iff_ne]
  rfl

/-! ### What a reading does at first -/

/-- R70, R71, R75, R76, R78: what a reading does at first to the output's state. -/
def readingTaken (o b : Nat) (s : State) : State := afterReading o (outRec s o) (readingSeen o b s)

theorem tables_readingTaken : (readingTaken o b s).tables = s.tables :=
  (kept_afterReading (List.mem_singleton_self o) (kept_takeView (.refl [o] s))).tables

theorem outsWf_readingTaken (hw : outsWf s) : outsWf (readingTaken o b s) :=
  (kept_afterReading (List.mem_singleton_self o) (kept_takeView (.refl [o] s))).wf hw

theorem takeReading_eq (o b : Nat) (s : State) :
    takeReading o b s = examineIfFallen o (contribution (outEntry s o) (outRec s o))
      (onOutput o (fun _ => readingTaken o b s) s) := congrArg (examineIfFallen o _) (onOutput_congr rfl)

/-- R91: the work for the output, and the examination for a fallen contribution. -/
theorem takeReading_moved {w : State} (h : readingTaken o b s = w) :
    takeReading o b s =
      let t := onOutput o (fun _ => w) s
      if contribution (outEntry s o) (outRec t o) < contribution (outEntry s o) (outRec s o) then
        (if isFan (outEntry s o) = true then examine (outEntry s o).board t else t)
      else t := by
  have he : ∀ x, outEntry (onOutput o (fun _ => readingTaken o b s) s) x = outEntry s x := fun x =>
    ((alike_onOutput (s := readingTaken o b s) (.refl _)).outEntry x).trans (outEntry_congr tables_readingTaken x)
  rw [takeReading_eq, ← h]
  unfold examineIfFallen examineFor
  rw [he]

/-- A record that nothing further is called for is as the reading left it at first. -/
theorem outRec_takeReading (hw : outsWf s) (hq : requeueStart o (readingTaken o b s) = readingTaken o b s)
    (hx : (outRec (readingTaken o b s) o).act ≠ .waitStart ∨ (outRec (readingTaken o b s) o).resolved = none ∨
      ¬ contribution (outEntry s o) (outRec (readingTaken o b s) o) < contribution (outEntry s o) (outRec s o)) :
    outRec (takeReading o b s) o = outRec (readingTaken o b s) o := by
  have hwt := outsWf_readingTaken (o := o) (b := b) hw
  have hk : Alike (readingTaken o b s) (onOutput o (fun _ => readingTaken o b s) s) :=
    alike_onOutput (work := fun _ => readingTaken o b s) (t := s) (.refl _)
  have hon : outRec (onOutput o (fun _ => readingTaken o b s) s) o = outRec (readingTaken o b s) o := by
    rw [outRec_onOutput (work := fun _ => readingTaken o b s) hwt tables_readingTaken, hq]
  rw [takeReading_eq]
  unfold examineIfFallen
  rw [hk.outEntry, outEntry_congr tables_readingTaken]
  split
  · rename_i hlt
    rw [hon] at hlt
    rcases outRec_examineFor_or (hk.wf hwt) o o with e | ⟨⟨ha, -⟩, c, hc, -⟩
    · exact e.trans hon
    · rw [hon] at ha hc
      rcases hx with hx | hx | hx
      · exact absurd ha hx
      · rw [hx] at hc
        cases hc
      · exact absurd hlt hx
  · exact hon

/-! ### A start goes on as it was placed -/

theorem starts_congr (hr : outRec t o = outRec s o) (ht : outEntry t o = outEntry s o) :
    starts t o c ↔ starts s o c := by
  unfold starts joins
  rw [hr, ht]

theorem starts_examineFor (hw : outsWf s) (hc : (outRec s o).resolved = some c) (ha : agrees (outRec s o) c = false)
    (h : starts s o c) : starts (examineFor x s) o c := by
  have he := (alike_examineFor (o := x) (.refl s)).outEntry o
  rcases h with h | ⟨k, h⟩ | h
  · exact (starts_congr (outRec_examineFor (by rw [h]; exact fun h => nomatch h)) he).2 (.inl h)
  · exact .inr (.inl ⟨k, joins_examineFor hw hc ha h⟩)
  · exact (starts_congr (outRec_examineFor (by rw [h.1]; exact fun h => nomatch h)) he).2 (.inr (.inr h))

/-- R92: a start that is queued has its slot. -/
theorem requeueStart_starts (hc : (outRec s o).resolved = some c) (h : starts s o c) : requeueStart o s = s := by
  refine requeueStart_stays hc fun ⟨hq, _, hs, _⟩ => ?_
  rcases h with h | ⟨k, h | h⟩ | h
  · exact absurd (hq.symm.trans h) (fun h => nomatch h)
  · exact absurd (hq.symm.trans h.1) (fun h => nomatch h)
  · exact absurd (hs.symm.trans h.2) (fun h => nomatch h)
  · exact absurd (hq.symm.trans h.1) (fun h => nomatch h)

theorem starts_takeReading (hw : outsWf s) (hc : (outRec (readingTaken o b s) o).resolved = some c)
    (ha : agrees (outRec (readingTaken o b s) o) c = false) (h : starts (readingTaken o b s) o c) :
    starts (takeReading o b s) o c := by
  have hwt := outsWf_readingTaken (o := o) (b := b) hw
  have hk : Alike (readingTaken o b s) (onOutput o (fun _ => readingTaken o b s) s) :=
    alike_onOutput (work := fun _ => readingTaken o b s) (t := s) (.refl _)
  have hon : outRec (onOutput o (fun _ => readingTaken o b s) s) o = outRec (readingTaken o b s) o := by
    rw [outRec_onOutput (work := fun _ => readingTaken o b s) hwt tables_readingTaken, requeueStart_starts hc h]
  have ht := (starts_congr hon (hk.outEntry o)).2 h
  rw [takeReading_eq]
  unfold examineIfFallen
  split
  · exact starts_examineFor (hk.wf hwt) (hon ▸ hc) (hon ▸ ha) ht
  · exact ht

/-! ### What the reading does at first, by the state -/

theorem readingTaken_none (hc : (outRec s o).resolved = none) :
    readingTaken o b s = if (outRec s o).act = .unknown then settle o (readingSeen o b s) else readingSeen o b s := by
  unfold readingTaken afterReading
  rw [hc]
  cases (outRec s o).act <;> rfl

theorem readingTaken_unknown (hc : (outRec s o).resolved = some c) (ha : (outRec s o).act = .unknown) :
    readingTaken o b s = place o (readingSeen o b s) := by
  unfold readingTaken afterReading
  rw [hc, ha]

theorem readingTaken_fault (hc : (outRec s o).resolved = some c) (ha : (outRec s o).act = .fault) :
    readingTaken o b s = readInFault o (outRec s o) c (readingSeen o b s) := by
  unfold readingTaken afterReading
  rw [hc, ha]

theorem readingTaken_other (hw : outsWf s) (hc : (outRec s o).resolved = some c) (hu : (outRec s o).act ≠ .unknown)
    (hf : (outRec s o).act ≠ .fault) :
    readingTaken o b s =
      match viewFault (readingView (outEntry s o) b) with
      | some code =>
        if readingView (outEntry s o) b ≠ (outRec s o).view then toFault o code .none (readingSeen o b s)
        else readInState o (outRec s o) c (readingSeen o b s)
      | none => readInState o (outRec s o) c (readingSeen o b s) := by
  have hv : (outRec (readingSeen o b s) o).view = readingView (outEntry s o) b := by rw [outRec_readingSeen hw]; rfl
  unfold readingTaken afterReading
  rw [hc, ← hv]
  cases ha : (outRec s o).act with
  | unknown => exact absurd ha hu
  | fault => exact absurd ha hf
  | _ => rfl

/-- R75: a change of view that shows a trip, a local flag or a conflict. -/
theorem readingTaken_shown (hw : outsWf s) (hc : (outRec s o).resolved = some c) (hu : (outRec s o).act ≠ .unknown)
    (hf : (outRec s o).act ≠ .fault) {code : FaultCode} (hs : viewFault (readingView (outEntry s o) b) = some code)
    (hv : readingView (outEntry s o) b ≠ (outRec s o).view) :
    readingTaken o b s = toFault o code .none (readingSeen o b s) := by
  rw [readingTaken_other hw hc hu hf, hs]
  exact if_pos hv

/-- R70, R72, R76: a reading that shows no fault of R75, or the view as it was. -/
theorem readingTaken_state (hw : outsWf s) (hc : (outRec s o).resolved = some c) (hu : (outRec s o).act ≠ .unknown)
    (hf : (outRec s o).act ≠ .fault)
    (hv : viewFault (readingView (outEntry s o) b) = none ∨ readingView (outEntry s o) b = (outRec s o).view) :
    readingTaken o b s = readInState o (outRec s o) c (readingSeen o b s) := by
  rw [readingTaken_other hw hc hu hf]
  split
  · rename_i h
    exact if_neg (not_not.2 (hv.resolve_left (by simp [h])))
  · rfl

/-! ### The record, by the state -/

section
variable (hw : outsWf s)
include hw

theorem act_readingSeen : (outRec (readingSeen o b s) o).act = (outRec s o).act := by
  rw [outRec_readingSeen hw]
  rfl

theorem resolved_readingTaken : (outRec (readingTaken o b s) o).resolved = (outRec s o).resolved :=
  (kept_afterReading (List.mem_singleton_self o) (kept_takeView (.refl [o] s))).resolved hw o

/-- R59: a view formed by a reading is valid, and agrees by itself. -/
theorem agrees_readingSeen : agrees (outRec (readingSeen o b s) o) c = viewAgrees (readingView (outEntry s o) b) c := by
  rw [outRec_readingSeen hw]
  rfl

end

/-- R70: the outcome of a reading that comes to rest as `r`. -/
theorem outRec_takeReading_rest (hw : outsWf s) {r : OutRec} (h : outRec (readingTaken o b s) o = r)
    (hq : r.act ≠ .queued) (hx : r.act ≠ .waitStart) : outRec (takeReading o b s) o = r := by
  rw [outRec_takeReading hw (requeueStart_of_act (by rw [h]; exact hq)) (.inl (by rw [h]; exact hx)), h]

/-- A reading that changes the view alone. -/
theorem outRec_takeReading_seen (hw : outsWf s) (h : readingTaken o b s = readingSeen o b s)
    (hq : (outRec s o).act ≠ .queued) (hx : (outRec s o).act ≠ .waitStart) :
    outRec (takeReading o b s) o = seenRecord (readingView (outEntry s o) b) (outRec s o) :=
  outRec_takeReading_rest hw (by rw [h, outRec_readingSeen hw]) hq hx

theorem outRec_takeReading_settle (hw : outsWf s) {w : State} (hww : outsWf w)
    (h : readingTaken o b s = settle o w) : outRec (takeReading o b s) o = settledRecord (outRec w o) :=
  outRec_takeReading_rest hw (by rw [h, outRec_settle hww]) (fun h => nomatch h) (fun h => nomatch h)

theorem outRec_takeReading_toFault (hw : outsWf s) {w : State} (hww : outsWf w) {code : FaultCode} {cause : Cause}
    (h : readingTaken o b s = toFault o code cause w) :
    outRec (takeReading o b s) o = faultedRecord code cause (outRec w o) :=
  outRec_takeReading_rest hw (by rw [h, outRec_toFault hww]) (fun h => nomatch h) (fun h => nomatch h)

/-- R76: an output that is queued, and that nothing has placed afresh. -/
theorem outRec_takeReading_queued (hw : outsWf s) (hc : (outRec s o).resolved = some c) {r : OutRec}
    (h : outRec (readingTaken o b s) o = r) (ha : r.act = .queued)
    (hm : ¬ mustRequeue (readingTaken o b s) o c) : outRec (takeReading o b s) o = r := by
  have hq := requeueStart_stays ((resolved_readingTaken (b := b) hw).trans hc) hm
  rw [outRec_takeReading hw hq (.inl (by rw [h, ha]; exact fun h => nomatch h)), h]

/-! ### An output that the reading places -/

/-- R62, R72: the reading places the output; a fan that left its wait list has its board examined (R91). -/
def placedByReading (o b : Nat) (s : State) : Prop :=
  readingTaken o b s = place o (readingSeen o b s) ∨ readingTaken o b s = examineFor o (place o (readingSeen o b s))

theorem outRec_placedByReading (hp : placedByReading o b s)
    (ha : (outRec (place o (readingSeen o b s)) o).act ≠ .waitStart) :
    outRec (readingTaken o b s) o = outRec (place o (readingSeen o b s)) o := by
  rcases hp with hp | hp
  · rw [hp]
  · rw [hp, outRec_examineFor ha]

section
variable (hw : outsWf s) (hc : (outRec s o).resolved = some c) (hp : placedByReading o b s)
include hw hc hp

omit hc in
theorem placed_rest {r : OutRec} (h : outRec (place o (readingSeen o b s)) o = r) (hq : r.act ≠ .queued)
    (hx : r.act ≠ .waitStart) : outRec (takeReading o b s) o = r :=
  outRec_takeReading_rest hw ((outRec_placedByReading hp (by rw [h]; exact hx)).trans h) hq hx

theorem placed_shown {code : FaultCode} (hs : viewFault (readingView (outEntry s o) b) = some code) :
    outRec (takeReading o b s) o =
      faultedRecord code .none (seenRecord (readingView (outEntry s o) b) (outRec s o)) := by
  have hrec := outRec_readingSeen (o := o) (b := b) hw
  refine placed_rest hw hp ?_ (fun h => nomatch h) (fun h => nomatch h)
  rw [place_shown (code := code) (c := c) (by rw [hrec]; exact hc) (by rw [hrec]; rfl) (by rw [hrec]; exact hs),
    outRec_toFault (outsWf_readingSeen hw), hrec]

variable (hs : viewFault (readingView (outEntry s o) b) = none)
include hs

theorem placed_agrees (ha : viewAgrees (readingView (outEntry s o) b) c = true) :
    outRec (takeReading o b s) o = settledRecord (seenRecord (readingView (outEntry s o) b) (outRec s o)) := by
  have hrec := outRec_readingSeen (o := o) (b := b) hw
  refine placed_rest hw hp ?_ (fun h => nomatch h) (fun h => nomatch h)
  rw [place_agrees (c := c) (by rw [hrec]; exact hc) (by rw [hrec]; exact hs) (by rw [hrec]; exact ha),
    outRec_settle (outsWf_readingSeen hw), hrec]

variable (ha : viewAgrees (readingView (outEntry s o) b) c = false)
include ha

theorem placed_moves (hn : needsSlot (outEntry s o) (readingView (outEntry s o) b) c = false) :
    outRec (takeReading o b s) o =
      { seenRecord (readingView (outEntry s o) b) (outRec s o) with act := .queued } := by
  have hrec := outRec_readingSeen (o := o) (b := b) hw
  have hpl : outRec (place o (readingSeen o b s)) o =
      { seenRecord (readingView (outEntry s o) b) (outRec s o) with act := .queued } := by
    rw [place_move (c := c) (by rw [hrec]; exact hc) (by rw [hrec]; exact hs) (by rw [hrec]; rfl)
      (by rw [hrec]; exact ha) (by rw [hrec, outEntry_readingSeen]; exact hn), outRec_enqueue (outsWf_readingSeen hw), hrec]
  have ht := (outRec_placedByReading hp (by rw [hpl]; exact fun h => nomatch h)).trans hpl
  refine outRec_takeReading_queued hw hc ht rfl fun ⟨_, hm, _⟩ => ?_
  rw [ht, outEntry_congr tables_readingTaken] at hm
  exact absurd (hn.symm.trans hm) (by decide)

theorem placed_starts (hn : needsSlot (outEntry s o) (readingView (outEntry s o) b) c = true) :
    starts (takeReading o b s) o c := by
  have hrec := outRec_readingSeen (o := o) (b := b) hw
  have hws := outsWf_readingSeen (o := o) (b := b) hw
  have hst : starts (place o (readingSeen o b s)) o c :=
    starts_place hws (by rw [hrec]; exact hc) (by rw [hrec]; rfl) (by rw [hrec]; exact hs) (by rw [hrec]; exact ha)
      (by rw [hrec, outEntry_readingSeen]; exact hn)
  have hk : Alike (readingSeen o b s) (place o (readingSeen o b s)) := alike_place (.refl _)
  have hkt : Alike (readingSeen o b s) (readingTaken o b s) := by
    rcases hp with hp | hp <;> rw [hp]
    · exact hk
    · exact alike_examineFor hk
  have bear : ∀ {t}, Alike (readingSeen o b s) t → (outRec t o).resolved = some c ∧ agrees (outRec t o) c = false := by
    intro t k
    obtain ⟨-, hres, hview, hvalid, -⟩ := bearing_inj.1 (k.bearing hws o)
    rw [agrees, hres, hview, hvalid, hrec]
    exact ⟨hc, ha⟩
  refine starts_takeReading hw (bear hkt).1 (bear hkt).2 ?_
  rcases hp with hp | hp <;> rw [hp]
  · exact hst
  · exact starts_examineFor (hk.wf hws) (bear hk).1 (bear hk).2 hst

end

/-- What a start that the reading placed comes to, by the view. -/
theorem starts_takeReading_iff (hw : outsWf s) :
    starts (takeReading o b s) o c →
      (outRec (takeReading o b s) o).act = .waitPath ∨ (outRec (takeReading o b s) o).act = .waitStart ∨
      ((outRec (takeReading o b s) o).act = .fault ∧ (outRec (takeReading o b s) o).fault = some ⟨.path, .none⟩) ∨
      ((outRec (takeReading o b s) o).act = .queued ∧ (outRec (takeReading o b s) o).slot =
        some ⟨startDemand (outEntry s o) (readingView (outEntry s o) b) c, .needed⟩) := by
  have he : outEntry (takeReading o b s) o = outEntry s o := outEntry_congr (work_takeReading (.refl s)).tables o
  unfold starts joins
  rw [he, (view_takeReading hw b).1]
  rintro (h | ⟨k, h | h⟩ | h)
  · exact .inl h
  · exact .inr (.inl h.1)
  · exact .inr (.inr (.inr h))
  · exact .inr (.inr (.inl h))

end Sys2Proof.Machine
end

section
/-! What a reading does to an output's state, case by case (O51). -/

namespace Sys2Proof.Machine

-- Elaborated one after another: the check bounds Lean's threads.
set_option Elab.async false

variable {s t : State} {o x b : Nat} {c : Cmd} {old : OutRec}

/-! ### A reading that shows no fault of R75, by the state -/

theorem readInState_proving (ha : proving (outRec t o).act = true) :
    readInState o old c t =
      if agrees (outRec t o) c then settle o t
      else if (outRec t o).view ≠ old.view then modOut o (fun r => { r with clean := false }) t
      else t := by
  unfold readInState
  dsimp only
  split
  case h_1 | h_2 | h_3 => rfl
  all_goals simp_all [proving]

theorem readInState_settled (ha : (outRec t o).act = .settled) :
    readInState o old c t = if agrees (outRec t o) c then t else depart o c t := by
  simp only [readInState, ha]

theorem readInState_wait (ha : inWait (outRec t o).act = true) :
    readInState o old c t =
      if viewSpeed (outRec t o).view ≠ viewSpeed old.view then placeFromWait o t else t := by
  unfold readInState
  dsimp only
  split
  case h_5 | h_6 => rfl
  all_goals simp_all [inWait]

theorem readInState_other (ha : (outRec t o).act = .sent ∨ (outRec t o).act = .queued) :
    readInState o old c t = t := by
  rcases ha with ha | ha <;> simp only [readInState, ha]

/-! ### The cases of the statement -/

section
variable (hw : outsWf s) (hc : (outRec s o).resolved = some c)
include hw hc

/-- R75: a change of view that shows a trip, a local flag or a conflict faults the output. -/
theorem reading_shown (hu : (outRec s o).act ≠ .unknown) (hf : (outRec s o).act ≠ .fault) {code : FaultCode}
    (hs : viewFault (readingView (outEntry s o) b) = some code)
    (hv : readingView (outEntry s o) b ≠ (outRec s o).view) :
    (outRec (takeReading o b s) o).act = .fault ∧ (outRec (takeReading o b s) o).fault = some ⟨code, .none⟩ := by
  rw [outRec_takeReading_toFault hw (outsWf_readingSeen hw) (readingTaken_shown hw hc hu hf hs hv)]
  exact ⟨rfl, rfl⟩

variable (hv : viewFault (readingView (outEntry s o) b) = none ∨ readingView (outEntry s o) b = (outRec s o).view)
include hv

/-- R70: an output MOVING, STARTING or STOPPING. -/
theorem reading_proving (ha : proving (outRec s o).act = true) :
    outRec (takeReading o b s) o =
      if viewAgrees (readingView (outEntry s o) b) c = true then
        settledRecord (seenRecord (readingView (outEntry s o) b) (outRec s o))
      else if readingView (outEntry s o) b ≠ (outRec s o).view then
        { seenRecord (readingView (outEntry s o) b) (outRec s o) with clean := false }
      else seenRecord (readingView (outEntry s o) b) (outRec s o) := by
  have hrec := outRec_readingSeen (o := o) (b := b) hw
  have hws := outsWf_readingSeen (o := o) (b := b) hw
  have hu : (outRec s o).act ≠ .unknown := fun h => by rw [h] at ha; cases ha
  have hf : (outRec s o).act ≠ .fault := fun h => by rw [h] at ha; cases ha
  have hq : (outRec s o).act ≠ .queued := fun h => by rw [h] at ha; cases ha
  have hx : (outRec s o).act ≠ .waitStart := fun h => by rw [h] at ha; cases ha
  have ht := readingTaken_state hw hc hu hf hv
  rw [readInState_proving (by rw [act_readingSeen hw]; exact ha), agrees_readingSeen hw] at ht
  split
  · rename_i hag
    rw [if_pos hag] at ht
    rw [outRec_takeReading_settle hw hws ht, hrec]
  · rename_i hag
    rw [if_neg hag, hrec] at ht
    split
    · rename_i hne
      exact outRec_takeReading_rest hw (by rw [ht.trans (if_pos hne), outRec_modOut_same hws, hrec]) hq hx
    · rename_i hne
      exact outRec_takeReading_seen hw (ht.trans (if_neg hne)) hq hx

/-- R76: a SETTLED output that its command still proves. -/
theorem reading_settled (ha : (outRec s o).act = .settled) (hag : viewAgrees (readingView (outEntry s o) b) c = true) :
    (outRec (takeReading o b s) o).act = .settled := by
  have ht := readingTaken_state hw hc (by rw [ha]; decide) (by rw [ha]; decide) hv
  rw [readInState_settled (by rw [act_readingSeen hw]; exact ha), agrees_readingSeen hw, if_pos hag] at ht
  rw [outRec_takeReading_seen hw ht (by rw [ha]; decide) (by rw [ha]; decide)]
  exact ha

theorem readingTaken_departs (ha : (outRec s o).act = .settled)
    (hag : viewAgrees (readingView (outEntry s o) b) c = false) :
    readingTaken o b s =
      if s.plant.hold.state = .held then enqueue o c (readingSeen o b s)
      else if isDamper (outEntry s o) = true ∧ (outRec s o).retried = false then
        enqueue o c (modOut o (fun r => { r with retried := true }) (readingSeen o b s))
      else toFault o .lostProof .none (readingSeen o b s) := by
  rw [readingTaken_state hw hc (by rw [ha]; decide) (by rw [ha]; decide) hv,
    readInState_settled (by rw [act_readingSeen hw]; exact ha), agrees_readingSeen hw, if_neg (by simp [hag])]
  unfold depart
  rw [hold_readingSeen, outEntry_readingSeen, outRec_readingSeen hw]
  simp only [Bool.and_eq_true, Bool.not_eq_true']
  rfl

/-- R76: a SETTLED output that departs is queued during a hold. -/
theorem reading_departs_held (ha : (outRec s o).act = .settled)
    (hag : viewAgrees (readingView (outEntry s o) b) c = false) (hh : s.plant.hold.state = .held) :
    outRec (takeReading o b s) o = { seenRecord (readingView (outEntry s o) b) (outRec s o) with act := .queued } := by
  have ht := (readingTaken_departs hw hc hv ha hag).trans (if_pos hh)
  refine outRec_takeReading_queued hw hc (by rw [ht, outRec_enqueue (outsWf_readingSeen hw), outRec_readingSeen hw]) rfl ?_
  rintro ⟨-, -, -, hn, -⟩
  rw [ht, (alike_enqueue (.refl _)).hold, hold_readingSeen] at hn
  exact hn hh

/-- R76: a damper that departs is queued once. -/
theorem reading_departs_damper (ha : (outRec s o).act = .settled)
    (hag : viewAgrees (readingView (outEntry s o) b) c = false) (hh : s.plant.hold.state ≠ .held)
    (hd : isDamper (outEntry s o) = true) (hr : (outRec s o).retried = false) :
    outRec (takeReading o b s) o =
      { seenRecord (readingView (outEntry s o) b) (outRec s o) with act := .queued, retried := true } := by
  have hws := outsWf_readingSeen (o := o) (b := b) hw
  have ht := (readingTaken_departs hw hc hv ha hag).trans ((if_neg hh).trans (if_pos ⟨hd, hr⟩))
  refine outRec_takeReading_queued hw hc (by
    rw [ht, outRec_enqueue (outsWf_modOut hws), outRec_modOut_same hws, outRec_readingSeen hw]) rfl ?_
  rintro ⟨-, hn, -⟩
  rw [outEntry_congr tables_readingTaken, needsSlot_of_isDamper hd] at hn
  cases hn

/-- R76: any other output that departs faults LOST_PROOF. -/
theorem reading_departs (ha : (outRec s o).act = .settled)
    (hag : viewAgrees (readingView (outEntry s o) b) c = false) (hh : s.plant.hold.state ≠ .held)
    (hn : isDamper (outEntry s o) = false ∨ (outRec s o).retried = true) :
    (outRec (takeReading o b s) o).act = .fault ∧ (outRec (takeReading o b s) o).fault = some ⟨.lostProof, .none⟩ := by
  have hn' : ¬ (isDamper (outEntry s o) = true ∧ (outRec s o).retried = false) := by
    rintro ⟨hd, hr⟩
    rcases hn with hn | hn
    · exact absurd (hd.symm.trans hn) (by decide)
    · exact absurd (hr.symm.trans hn) (by decide)
  rw [outRec_takeReading_toFault hw (outsWf_readingSeen hw)
    ((readingTaken_departs hw hc hv ha hag).trans ((if_neg hh).trans (if_neg hn')))]
  exact ⟨rfl, rfl⟩

/-- R75: a reading leaves a SENT output SENT. -/
theorem reading_sent (ha : (outRec s o).act = .sent) : (outRec (takeReading o b s) o).act = .sent := by
  have ht := readingTaken_state hw hc (by rw [ha]; decide) (by rw [ha]; decide) hv
  rw [readInState_other (by rw [act_readingSeen hw]; exact .inl ha)] at ht
  rw [outRec_takeReading_seen hw ht (by rw [ha]; decide) (by rw [ha]; decide)]
  exact ha

/-- R92: a queued output stays so where its command is no start, or its slot stands. -/
theorem reading_queued (ha : (outRec s o).act = .queued)
    (hn : (outRec s o).slot ≠ none ∨ needsSlot (outEntry s o) (readingView (outEntry s o) b) c = false) :
    (outRec (takeReading o b s) o).act = .queued := by
  have ht := readingTaken_state hw hc (by rw [ha]; decide) (by rw [ha]; decide) hv
  rw [readInState_other (by rw [act_readingSeen hw]; exact .inr ha)] at ht
  have hrec : outRec (readingTaken o b s) o = seenRecord (readingView (outEntry s o) b) (outRec s o) := by
    rw [ht, outRec_readingSeen hw]
  rw [outRec_takeReading_queued hw hc hrec ha]
  · exact ha
  · rintro ⟨-, hm, hs, -⟩
    rw [hrec, outEntry_congr tables_readingTaken] at hm
    rw [hrec] at hs
    rcases hn with hn | hn
    · exact hn hs
    · exact absurd (hn.symm.trans hm) (by decide)

theorem readingTaken_wait (ha : inWait (outRec s o).act = true) :
    readingTaken o b s =
      if viewSpeed (readingView (outEntry s o) b) ≠ viewSpeed (outRec s o).view then
        (if (outRec s o).act = .waitStart then examineFor o (place o (readingSeen o b s)) else place o (readingSeen o b s))
      else readingSeen o b s := by
  rw [readingTaken_state hw hc (fun h => by rw [h] at ha; cases ha) (fun h => by rw [h] at ha; cases ha) hv,
    readInState_wait (by rw [act_readingSeen hw]; exact ha)]
  unfold placeFromWait
  rw [outRec_readingSeen hw]
  rfl

end

/-- R87: a reading of the speed as it was does not let a contribution fall. -/
theorem contribution_seenRecord (e : OutputEntry) (v : View) (r : OutRec) (h : viewSpeed v = viewSpeed r.view) :
    contribution e r ≤ contribution e (seenRecord v r) := by
  unfold contribution seenRecord
  dsimp only
  rw [h]
  split
  · rfl
  · split
    · exact Nat.zero_le _
    · rfl

/-- R72: a waiting fan whose running speed has not changed waits on. -/
theorem reading_waits (hw : outsWf s) (hc : (outRec s o).resolved = some c)
    (hv : viewFault (readingView (outEntry s o) b) = none ∨ readingView (outEntry s o) b = (outRec s o).view)
    (ha : inWait (outRec s o).act = true)
    (hs : viewSpeed (readingView (outEntry s o) b) = viewSpeed (outRec s o).view) :
    (outRec (takeReading o b s) o).act = (outRec s o).act := by
  have ht := (readingTaken_wait hw hc hv ha).trans (if_neg (not_not.2 hs))
  have hrec : outRec (readingTaken o b s) o = seenRecord (readingView (outEntry s o) b) (outRec s o) := by
    rw [ht, outRec_readingSeen hw]
  rw [outRec_takeReading hw (requeueStart_of_act ?_) (.inr (.inr ?_)), hrec]
  · rfl
  · rw [hrec]
    exact (not_queued_of_inWait ha).1
  · rw [hrec]
    exact Nat.not_lt.2 (contribution_seenRecord _ _ _ hs)

/-! ### An output in FAULT -/

theorem flagFault_iff (r : OutRec) (w : View) :
    flagFault r w = true ↔ (r.fault.map (fun f => f.code) = some .tripped ∧ viewTrip w = true) ∨
      (r.fault.map (fun f => f.code) = some .localControl ∧ viewLocal w = true) := by
  unfold flagFault
  cases r.fault with
  | none => simp
  | some f =>
    obtain ⟨code, cause⟩ := f
    cases code <;> simp

section
variable (hw : outsWf s) (hc : (outRec s o).resolved = some c) (ha : (outRec s o).act = .fault)
include hw hc ha

theorem readingTaken_in_fault :
    readingTaken o b s =
      if (outRec s o).fault = some ⟨.noResponse, .missing⟩ then readingSeen o b s
      else if viewAgrees (readingView (outEntry s o) b) c = true ∧
          ¬ (((outRec s o).valid = true ∧ viewAgrees (outRec s o).view c = true) ∧
            flagFault (outRec s o) (outRec s o).view = true) then
        settle o (recordEntry .outputRecovered o 1 (modOut o (fun r => { r with fault := none }) (readingSeen o b s)))
      else if flagFault (outRec s o) (outRec s o).view = true ∧
          ¬ flagFault (outRec s o) (readingView (outEntry s o) b) = true then
        place o (recordEntry .outputRecovered o 4
          (modOut o (fun r => { r with fault := none, retried := false, busy := 0 }) (readingSeen o b s)))
      else readingSeen o b s := by
  rw [readingTaken_fault hc ha]
  unfold readInFault
  dsimp only
  rw [agrees_readingSeen hw, newAttempt_eq, raise_outputRecovered, outRec_readingSeen hw]
  refine if_congr Iff.rfl rfl (if_congr ?_ rfl (if_congr ?_ rfl rfl))
  · simp only [agrees, Bool.and_eq_true, Bool.not_eq_true', ← Bool.not_eq_true]
  · simp [seenRecord]

omit hc in
theorem act_takeReading_in_fault (h : readingTaken o b s = readingSeen o b s) :
    (outRec (takeReading o b s) o).act = .fault ∧ (outRec (takeReading o b s) o).fault = (outRec s o).fault := by
  rw [outRec_takeReading_seen hw h (by rw [ha]; decide) (by rw [ha]; decide)]
  exact ⟨ha, rfl⟩

omit hw hc ha in
/-- R71, R78: what follows a new attempt keeps its counts. -/
theorem counts_takeReading {w : State} (hww : outsWf w) (h : readingTaken o b s = place o w) :
    (outRec (takeReading o b s) o).retried = (outRec w o).retried ∧
      (outRec (takeReading o b s) o).busy = (outRec w o).busy := by
  have hk : Alike w (takeReading o b s) := by
    rw [takeReading_eq, h]
    exact alike_examineIfFallen (alike_onOutput (work := fun _ => place o w) (alike_place (.refl w)))
  obtain ⟨-, -, -, -, -, hr, hb, -⟩ := bearing_inj.1 (hk.bearing hww o)
  exact ⟨hr, hb⟩

end

/-! ### The statement -/

/-- An output whose command is NONE. -/
theorem reading_none (hw : outsWf s) (hn : (outRec s o).resolved = none) :
    (outRec (takeReading o b s) o).act = if (outRec s o).act = .unknown then .settled else (outRec s o).act := by
  have hws := outsWf_readingSeen (o := o) (b := b) hw
  have hr := (resolved_readingTaken (o := o) (b := b) hw).trans hn
  rw [outRec_takeReading hw (requeueStart_none hr) (.inr (.inl hr)), readingTaken_none hn]
  split
  · rw [outRec_settle hws]
    rfl
  · exact act_readingSeen hw

/-- Settles O51: by the command, the state and the view, each case by its lemma. -/
theorem readingsMoveTheOutput : Obligations.ReadingsMoveTheOutput := by
  intro o b s hcan ho
  have hw : outsWf s := hcan.outs
  have hws : outsWf (readingSeen o b s) := outsWf_readingSeen hw
  have hseen := readingSeen_eq (o := o) (b := b) hw
  refine ⟨fun hn => reading_none hw hn, fun c hc => ⟨fun code hs hv hf hu => reading_shown hw hc hu hf hs hv,
    fun ha => ?_, fun hv => ?_, fun ha => ?_⟩⟩
  · have hp : placedByReading o b s := .inl (readingTaken_unknown hc ha)
    refine ⟨fun code hs => ?_, fun hs hag => ?_, fun hs hag hn => ?_, fun hs hag hn => ?_, ?_⟩
    · rw [placed_shown hw hc hp hs]
      exact ⟨rfl, rfl⟩
    · rw [placed_agrees hw hc hp hs hag]
      rfl
    · rw [placed_moves hw hc hp hs (Bool.eq_false_iff.2 hag) hn]
    · exact starts_takeReading_iff hw (placed_starts hw hc hp hs (Bool.eq_false_iff.2 hag) hn)
    · exact takeReading_moved ((readingTaken_unknown hc ha).trans (congrArg (place o) hseen))
  · refine ⟨fun ha => ?_, fun ha => ⟨fun hag => reading_settled hw hc hv ha hag, fun hag hh => ?_,
      fun hag hh hd hr => ?_, fun hag hh hn => reading_departs hw hc hv ha (Bool.eq_false_iff.2 hag) hh hn⟩,
      fun ha => reading_sent hw hc hv ha, fun ha hn => reading_queued hw hc hv ha hn, fun ha => ?_⟩
    · have h := reading_proving hw hc hv (by rcases ha with ha | ha | ha <;> rw [ha] <;> rfl)
      refine ⟨fun hag => ?_, fun hag => ?_⟩
      · rw [h, if_pos hag]
        exact ⟨rfl, rfl, rfl, rfl, rfl⟩
      · rw [h, if_neg hag]
        by_cases hne : readingView (outEntry s o) b = (outRec s o).view
        · rw [if_neg (not_not.2 hne)]
          exact ⟨rfl, rfl, (if_pos hne).symm⟩
        · rw [if_pos hne]
          exact ⟨rfl, rfl, (if_neg hne).symm⟩
    · rw [reading_departs_held hw hc hv ha (Bool.eq_false_iff.2 hag) hh]
      exact ⟨rfl, rfl⟩
    · rw [reading_departs_damper hw hc hv ha (Bool.eq_false_iff.2 hag) hh hd hr]
      exact ⟨rfl, rfl⟩
    · have hi : inWait (outRec s o).act = true := by rcases ha with ha | ha <;> rw [ha] <;> rfl
      have ht := readingTaken_wait hw hc hv hi
      have hp : viewSpeed (readingView (outEntry s o) b) ≠ viewSpeed (outRec s o).view → placedByReading o b s := by
        intro hne
        rw [placedByReading, ht.trans (if_pos hne)]
        split
        · exact .inr rfl
        · exact .inl rfl
      refine ⟨fun hs => reading_waits hw hc hv hi hs, fun hne hs hag => ?_, fun hne hs hag hn => ?_,
        fun hne hs hag hn =>
          starts_takeReading_iff hw (placed_starts hw hc (hp hne) hs (Bool.eq_false_iff.2 hag) hn),
        fun hne => ?_⟩
      · rw [placed_agrees hw hc (hp hne) hs hag]
        rfl
      · rw [placed_moves hw hc (hp hne) hs (Bool.eq_false_iff.2 hag) hn]
      · refine takeReading_moved ((ht.trans (if_pos hne)).trans ?_)
        unfold examineFor
        rw [(alike_place (.refl _)).outEntry, outEntry_readingSeen, hseen]
  · have ht := readingTaken_in_fault hw hc ha (b := b)
    simp only [flagFault_iff] at ht
    refine ⟨fun hl => act_takeReading_in_fault hw ha (ht.trans (if_pos hl)), fun hl hcome => ?_,
      fun hl hcome hclear => ?_,
      fun hl hcome hclear => act_takeReading_in_fault hw ha
        (ht.trans ((if_neg hl).trans ((if_neg hcome).trans (if_neg hclear))))⟩
    · have he := ht.trans ((if_neg hl).trans (if_pos hcome))
      have hu := outRec_takeReading_settle hw (alike_recordEntry (alike_modOut (.refl _)) |>.wf hws) he
      rw [outRec_recordEntry, outRec_modOut_same hws, outRec_readingSeen hw] at hu
      rw [hseen] at he
      rw [hu]
      exact ⟨rfl, rfl, rfl, rfl, takeReading_moved he⟩
    · have he := ht.trans ((if_neg hl).trans ((if_neg hcome).trans (if_pos hclear)))
      obtain ⟨hr, hbusy⟩ := counts_takeReading ((alike_recordEntry (.refl _)).wf (outsWf_modOut hws)) he
      rw [outRec_recordEntry, outRec_modOut_same hws] at hr hbusy
      rw [hseen] at he
      exact ⟨hr, hbusy, takeReading_moved he⟩

end Sys2Proof.Machine
end

section
/-! A superseded output (O47): the command queue grows at its tail alone while other outputs are seen to, and a start that is
placed has nothing left of an earlier proof. -/

namespace Sys2Proof.Machine

-- Elaborated one after another: the check bounds Lean's threads.
set_option Elab.async false

variable {s t : State} {o x : Nat} {c : Cmd} {R : Run → Tables → Prop} {ps : List Nat}

/-! ### The queue grows -/

theorem grows_ite {q : List QueueEntry} {p : Prop} [Decidable p] {a b : State} (ha : q <+: a.queue) (hb : q <+: b.queue) :
    q <+: (if p then a else b).queue := by
  split
  · exact ha
  · exact hb

theorem grows_enqueue {q : List QueueEntry} (h : q <+: s.queue) : q <+: (enqueue o c s).queue := by
  rw [queue_enqueue]
  exact h.trans (List.prefix_append _ _)

theorem queue_tellReserve : (tellReserve o s).queue = s.queue := by
  unfold tellReserve
  split <;> rfl

theorem queue_settleRecord : (settleRecord o s).queue = s.queue := by
  have hs := queue_setAct o .settled
    (modOut o (fun r => { r with fault := none, origin := none, timer := none, clean := false, slot := none }) s)
  unfold settleRecord
  dsimp only
  split
  · exact hs
  · exact queue_tellReserve.trans hs

theorem grows_admitFan {q : List QueueEntry} (h : q <+: s.queue) : q <+: (admitFan o s).queue := by
  unfold admitFan
  split
  · exact h
  · exact grows_ite (by rw [queue_settleRecord]; exact h) (grows_enqueue h)

theorem grows_examineTimes {q : List QueueEntry} (h : q <+: s.queue) (n b : Nat) : q <+: (examineTimes n b s).queue := by
  induction n generalizing s with
  | zero => exact h
  | succ n ih =>
    unfold examineTimes
    split
    · exact h
    · exact grows_ite (ih (grows_admitFan h)) h

/-- R66, R90: an examination adds to the queue at its tail. -/
theorem grows_examineFor {q : List QueueEntry} (h : q <+: s.queue) : q <+: (examineFor o s).queue :=
  grows_ite (grows_examineTimes h _ _) h

theorem grows_warnHeld {q : List QueueEntry} (h : q <+: s.queue) : q <+: (warnHeld o s).queue :=
  grows_ite (by rw [(captures_raise _ _ _ _).queue]; exact h) h

theorem grows_joinWait {q : List QueueEntry} (h : q <+: s.queue) : q <+: (joinWait o s).queue :=
  grows_warnHeld (grows_examineFor (by rw [queue_setAct]; exact h))

/-- R77: a fault of an output that is not in the queue leaves what is queued. -/
theorem grows_toFault {q : List QueueEntry} (h : q <+: s.queue) (ho : ¬ inQueue s o) {code : FaultCode} {cause : Cause} :
    q <+: (toFault o code cause s).queue := by
  have hd : (dequeue o s).queue = s.queue := by
    refine List.filter_eq_self.2 fun y hy => ?_
    simp only [bne_iff_ne]
    exact fun e => ho (List.mem_map.2 ⟨y, hy, e⟩)
  have hf : (faultRecord o code cause s).queue = s.queue := (queue_setAct _ _ _).trans hd
  have hr : ∀ r : Report, q <+: (report r (faultRecord o code cause s)).queue := fun r => by
    rw [(captures_report _ _).queue, hf]
    exact h
  unfold toFault
  rw [queue_tellReserve]
  exact grows_examineFor (s := modOut o _ _) (hr _)

theorem grows_judgePath {q : List QueueEntry} (h : q <+: s.queue) (hr : Res [] ps R s) : q <+: (judgePath o s).queue := by
  unfold judgePath
  split
  · exact h
  · rename_i ha
    exact grows_ite (grows_joinWait h)
      (grows_ite (grows_toFault h (hr.not_inQueue (by rw [not_not.1 ha]; exact fun h => nomatch h))) h)

theorem grows_foldl_judgePath {q : List QueueEntry} {fs : List Nat} (h : q <+: s.queue) (hr : Res [] ps R s) :
    q <+: (fs.foldl (fun t f => judgePath f t) s).queue := by
  induction fs generalizing s with
  | nil => exact h
  | cons f fs ih => exact ih (grows_judgePath h hr) (res_judgePath hr)

/-- R66, R72: where nothing is placed afresh, work for an output is followed by additions to the queue alone. -/
theorem grows_onOutput {q : List QueueEntry} {work : State → State} (h : q <+: (work s).queue)
    (hq : requeueStart o (work s) = work s) (hr : Res [] ps R (work s)) : q <+: (onOutput o work s).queue := by
  unfold onOutput
  rw [hq]
  exact grows_ite (grows_foldl_judgePath h hr) h

/-! ### Nothing left of a proof -/

/-- R63: no origin feedback, no proof timer and no clean flag. -/
def unproven (r : OutRec) : Prop := r.origin = none ∧ r.timer = none ∧ r.clean = false

theorem unproven_admittedRecord {e : OutputEntry} {r : OutRec} (h : unproven r) : unproven (admittedRecord e c r) := by
  unfold admittedRecord
  split
  · exact ⟨rfl, rfl, rfl⟩
  · exact h

theorem unproven_examineFor (hw : outsWf s) (h : unproven (outRec s o)) : unproven (outRec (examineFor x s) o) := by
  rcases outRec_examineFor_or hw x o with e | ⟨-, c, -, e⟩ <;> rw [e]
  · exact h
  · exact unproven_admittedRecord h

theorem unproven_warnHeld (hw : outsWf s) (h : unproven (outRec s o)) : unproven (outRec (warnHeld x s) o) := by
  rcases outRec_warnHeld hw x o with e | ⟨-, e⟩ <;> rw [e] <;> exact h

theorem unproven_setAct (hw : outsWf s) (h : unproven (outRec s o)) {a : Act} : unproven (outRec (setAct o a s) o) := by
  rw [outRec_setAct hw]
  exact h

theorem unproven_joinWait (hw : outsWf s) (h : unproven (outRec s o)) : unproven (outRec (joinWait o s) o) := by
  have hm := outsWf_modOut (o := o) (f := joinRecord s.uptime) hw
  have hj : unproven (outRec (modOut o (joinRecord s.uptime) s) o) := by
    rw [outRec_modOut_same hw]
    exact h
  have hk : Alike s (setAct o .waitStart (modOut o (joinRecord s.uptime) s)) := alike_setAct (alike_modOut (.refl s))
  exact unproven_warnHeld ((alike_examineFor hk).wf hw) (unproven_examineFor (hk.wf hw) (unproven_setAct hm hj))

theorem unproven_placeStart (hw : outsWf s) (h : unproven (outRec s o)) : unproven (outRec (placeStart o c s) o) := by
  have hk : Alike s (setAct o .waitPath s) := alike_setAct (.refl s)
  have hs := unproven_setAct hw h (a := .waitPath)
  unfold placeStart
  split
  · unfold judgePath
    split
    · exact hs
    split
    · exact unproven_joinWait (hk.wf hw) hs
    split
    · rw [outRec_toFault (hk.wf hw)]
      exact ⟨rfl, rfl, rfl⟩
    · exact hs
  · exact unproven_joinWait hw h

/-! ### The superseded output -/

theorem slotFits_iff (e : OutputEntry) (r : OutRec) (c : Cmd) :
    slotFits e r c = true ↔
      needsSlot e r.view c = true ∧ ∃ hold, r.slot = some ⟨startDemand e r.view c, hold⟩ := by
  unfold slotFits
  rcases r.slot with _ | ⟨d, hold⟩ <;> simp

/-- R65: what becomes of the slot of a superseded output. -/
theorem slotAfter_eq (e : OutputEntry) (r : OutRec) (c : Cmd) (h : slotFits e r c = false) :
    slotAfter e r c =
      match r.slot, r.act with
      | none, _ => none
      | some ⟨_, .needed⟩, .queued => none
      | some ⟨d, .needed⟩, .sent => some ⟨d, .untilExchangeEnds⟩
      | some ⟨d, .needed⟩, .starting => some ⟨d, .untilReplaced⟩
      | some sl, _ => some sl := by
  unfold slotAfter
  rw [h]
  rcases r.slot with _ | ⟨d, _ | _ | _⟩ <;> cases r.act <;> rfl

theorem slotAfter_fits (e : OutputEntry) (r : OutRec) (c : Cmd) (h : slotFits e r c = true) :
    slotAfter e r c = some ⟨startDemand e r.view c, .needed⟩ := by
  obtain ⟨-, hold, hs⟩ := (slotFits_iff e r c).1 h
  unfold slotAfter
  rw [hs, h]
  rfl

/-- R65: only a QUEUED output loses a slot at once. -/
theorem slot_of_slotAfter {e : OutputEntry} {r : OutRec} (h : (r.slot.isSome && (slotAfter e r c).isNone) = true) :
    r.act = .queued := by
  cases hf : slotFits e r c with
  | true => simp [slotAfter_fits e r c hf] at h
  | false =>
    rw [slotAfter_eq e r c hf] at h
    revert h
    rcases r.slot with _ | ⟨d, _ | _ | _⟩ <;> cases r.act <;> simp

/-- A command that needs a slot is one that the view does not agree with. -/
theorem not_agrees_of_needsSlot {e : OutputEntry} {r : OutRec} (h : needsSlot e r.view c = true) : agrees r c = false := by
  simp only [needsSlot, Bool.or_eq_true, isFanStart_iff, isSpeedStep_iff] at h
  rcases h with ⟨-, rfl | rfl, hv⟩ | ⟨-, rfl, hv⟩ <;> simp [agrees, viewAgrees, hv]

/-- R63, R65: the superseded output with the slot that it keeps, its board examined where it lost one. -/
def slotDecided (o : Nat) (c : Cmd) (s : State) : State :=
  let t := modOut o (supersedeRecord (slotAfter (outEntry s o) (outRec s o) c)) s
  if (outRec s o).slot.isSome && (slotAfter (outEntry s o) (outRec s o) c).isNone then examineFor o t else t

theorem supersede_eq (o : Nat) (c : Cmd) (s : State) :
    supersede o c s =
      if needsSlot (outEntry s o) (outRec s o).view c && !slotFits (outEntry s o) (outRec s o) c then
        placeStart o c (forgetWait o (dequeue o (slotDecided o c s)))
      else if (outRec s o).act = .queued then requeueInPlace o c (slotDecided o c s)
      else enqueue o c (slotDecided o c s) := rfl

section
variable (hw : outsWf s)
include hw

theorem outsWf_slotDecided : outsWf (slotDecided o c s) := by
  have hm := outsWf_modOut (o := o) (f := supersedeRecord (slotAfter (outEntry s o) (outRec s o) c)) hw
  unfold slotDecided
  dsimp only
  split
  · exact (alike_examineFor (.refl _)).wf hm
  · exact hm

theorem outRec_slotDecided (ha : (outRec s o).act ≠ .waitStart) :
    outRec (slotDecided o c s) o = supersedeRecord (slotAfter (outEntry s o) (outRec s o) c) (outRec s o) := by
  have hm := outRec_modOut_same (o := o) (f := supersedeRecord (slotAfter (outEntry s o) (outRec s o) c)) hw
  unfold slotDecided
  dsimp only
  split
  · rw [outRec_examineFor (by rw [hm]; exact ha), hm]
  · exact hm

omit hw in
theorem grows_slotDecided : s.queue <+: (slotDecided o c s).queue :=
  grows_ite (grows_examineFor (List.prefix_refl _)) (List.prefix_refl _)

omit hw in
/-- R65: no board is examined where the output was not QUEUED. -/
theorem queue_slotDecided (ha : (outRec s o).act ≠ .queued) : (slotDecided o c s).queue = s.queue := by
  unfold slotDecided
  dsimp only
  split
  · rename_i h
    exact absurd (slot_of_slotAfter h) ha
  · rfl

end

end Sys2Proof.Machine
end

section
/-! What a recomputation does to an output (O47). -/

namespace Sys2Proof.Machine

-- Elaborated one after another: the check bounds Lean's threads.
set_option Elab.async false

variable {s t : State} {o x : Nat} {c : Cmd}

/-! ### The outcome of a supersede (R63, R65) -/

/-- R65: the new command is a start that the output's slot is not for. -/
def startsAfresh (e : OutputEntry) (r : OutRec) (c : Cmd) : Prop := needsSlot e r.view c = true ∧ slotFits e r c = false

theorem supersede_start (h : startsAfresh (outEntry s o) (outRec s o) c) :
    supersede o c s = placeStart o c (forgetWait o (dequeue o (slotDecided o c s))) := by
  rw [supersede_eq, if_pos (by rw [h.1, h.2]; rfl)]

theorem supersede_queued (h : ¬ startsAfresh (outEntry s o) (outRec s o) c) :
    supersede o c s =
      if (outRec s o).act = .queued then requeueInPlace o c (slotDecided o c s) else enqueue o c (slotDecided o c s) := by
  rw [supersede_eq, if_neg]
  simpa [startsAfresh] using h

section
variable (hw : outsWf s) (hc : (outRec s o).resolved = some c) (ha : (outRec s o).act ≠ .waitStart)
include hw hc ha

theorem starts_supersede (h : startsAfresh (outEntry s o) (outRec s o) c) :
    starts (supersede o c s) o c ∧ unproven (outRec (supersede o c s) o) ∧
      (outRec (supersede o c s) o).superseded = min 255 ((outRec s o).superseded + 1) ∧
      (outRec (supersede o c s) o).retried = false ∧ (outRec (supersede o c s) o).view = (outRec s o).view := by
  have hwd : outsWf (dequeue o (slotDecided o c s)) := outsWf_slotDecided hw
  have hd : outRec (dequeue o (slotDecided o c s)) o = _ := outRec_slotDecided hw ha
  have hf : outRec (forgetWait o (dequeue o (slotDecided o c s))) o =
      noWait (supersedeRecord (slotAfter (outEntry s o) (outRec s o) c) (outRec s o)) := by
    rw [forgetWait, outRec_modOut_same hwd, hd]
  have hwf : outsWf (forgetWait o (dequeue o (slotDecided o c s))) := outsWf_modOut hwd
  have hb := (alike_placeStart (o := o) (c := c) (.refl (forgetWait o (dequeue o (slotDecided o c s))))).bearing hwf o
  obtain ⟨-, -, hview, -, -, hretried, -, hsup⟩ := bearing_inj.1 hb
  rw [supersede_start h, hretried, hsup, hview, hf]
  have hag : agrees (outRec s o) c = false := not_agrees_of_needsSlot h.1
  exact ⟨starts_placeStart hwf (by rw [hf]; exact hc) (by rw [hf]; exact hag),
    unproven_placeStart hwf (by rw [hf]; exact ⟨rfl, rfl, rfl⟩), rfl, rfl, rfl⟩

omit hc in
theorem outRec_supersede (h : ¬ startsAfresh (outEntry s o) (outRec s o) c) :
    outRec (supersede o c s) o =
      { supersedeRecord (slotAfter (outEntry s o) (outRec s o) c) (outRec s o) with act := .queued } := by
  have hd := outRec_slotDecided (c := c) hw ha
  rw [supersede_queued h]
  split
  · rename_i hq
    refine Eq.trans (b := outRec (slotDecided o c s) o) rfl (hd.trans ?_)
    rw [← hq]
    rfl
  · rw [outRec_enqueue (outsWf_slotDecided hw), hd]

theorem requeueStart_supersede : requeueStart o (supersede o c s) = supersede o c s := by
  have hk := kept_supersede (ps := [o]) (List.mem_singleton_self o) (.refl [o] s) (c := c)
  have hr : (outRec (supersede o c s) o).resolved = some c := (hk.resolved hw o).trans hc
  by_cases h : startsAfresh (outEntry s o) (outRec s o) c
  · exact requeueStart_starts hr (starts_supersede hw hc ha h).1
  · refine requeueStart_stays hr fun ⟨_, hn, hs, _⟩ => h ?_
    rw [outRec_supersede hw ha h, outEntry_congr hk.tables] at hn
    rw [outRec_supersede hw ha h] at hs
    refine ⟨hn, ?_⟩
    cases hf : slotFits (outEntry s o) (outRec s o) c with
    | false => rfl
    | true => exact absurd ((slotAfter_fits _ _ _ hf).symm.trans hs) (fun h => nomatch h)

end

/-! ### The command is taken -/

/-- R60, R62, R63, R89: the record under a new command. -/
def takenRecord (n : Option Cmd) (r : OutRec) : OutRec :=
  { endWait r with resolved := n, retried := false, act := unwaited r.act }

theorem takeCommand_eq (hw : outsWf s) (o : Nat) :
    takeCommand o s = modOut o (takenRecord (resolve (outEntry s o) (outRec s o))) s := by
  refine (modOut_modOut hw).trans (modOut_congr ?_)
  have hr : resolve (outEntry s o) (endWait (outRec s o)) = resolve (outEntry s o) (outRec s o) :=
    resolve_congr (endWait_layers _)
  rw [endWait_act, ← hr]
  rfl

theorem outRec_takeCommand (hw : outsWf s) :
    outRec (takeCommand o s) o = takenRecord (resolve (outEntry s o) (outRec s o)) (outRec s o) := by
  rw [takeCommand_eq hw, outRec_modOut_same hw]

/-! ### One recomputation -/

theorem commandChanged_iff (ho : isConfigured (outEntry s o) = true) :
    commandChanged s o = true ↔ resolve (outEntry s o) (outRec s o) ≠ (outRec s o).resolved := by
  simp [commandChanged, ho]

theorem recompute_same (h : resolve (outEntry s o) (outRec s o) = (outRec s o).resolved) :
    recompute o s = if (outRec s o).act = .waitStart then examineFor o s else s := by
  have hn : commandChanged s o = false := by simp [commandChanged, h]
  simp [recompute, recomputeAll, hn]

theorem recompute_changed (ho : isConfigured (outEntry s o) = true)
    (h : resolve (outEntry s o) (outRec s o) ≠ (outRec s o).resolved) :
    recompute o s = onOutput o (actOnCommand (outRec s o).act o) (takeCommand o s) := by
  have hn : commandChanged s o = true := (commandChanged_iff ho).2 h
  simp [recompute, recomputeAll, hn]

/-! ### A command that becomes NONE (R64) -/

theorem outRec_toNone (hw : outsWf s) {was : Act} :
    outRec (toNone was o s) o =
      { noneRecord (outRec s o) with act := if (outRec s o).valid = true then .settled else .unknown } := by
  have hwm : outsWf (modOut o noneRecord (dequeue o s)) := outsWf_modOut (s := dequeue o s) hw
  have hm : outRec (modOut o noneRecord (dequeue o s)) o = noneRecord (outRec s o) :=
    outRec_modOut_same (s := dequeue o s) hw
  obtain ⟨u, hu, hwu, hru⟩ : ∃ u, u = (if (outRec s o).act = .fault then raise .outputRecovered o (wayCode .command)
      (modOut o noneRecord (dequeue o s)) else modOut o noneRecord (dequeue o s)) ∧ outsWf u ∧
      outRec u o = noneRecord (outRec s o) := by
    refine ⟨_, rfl, ?_⟩
    split
    · exact ⟨(alike_raise (.refl _)).wf hwm, outRec_report.trans hm⟩
    · exact ⟨hwm, hm⟩
  obtain ⟨v, hv, hrv⟩ : ∃ v, v = (if (outRec s o).valid = true then settleRecord o u else setAct o .unknown u) ∧
      outRec v o = { noneRecord (outRec s o) with act := if (outRec s o).valid = true then .settled else .unknown } := by
    refine ⟨_, rfl, ?_⟩
    split
    · rw [outRec_settleRecord hwu, hru]
      rfl
    · rw [outRec_setAct hwu, hru]
  have ht : toNone was o s = if (outRec s o).slot.isSome || was == .waitStart then examineFor o v else v := by
    rw [hv, hu]
    rfl
  rw [ht]
  split
  · rw [outRec_examineFor, hrv]
    rw [hrv]
    dsimp only
    split <;> exact fun h => nomatch h
  · exact hrv

/-! ### A change of command -/

section
variable (hw : outsWf s) (ho : isConfigured (outEntry s o) = true)
  (h : resolve (outEntry s o) (outRec s o) ≠ (outRec s o).resolved)
include hw ho h

/-- The record that a change of command leaves is that of the action on it, but for a queued start placed afresh. -/
theorem outRec_recompute :
    outRec (recompute o s) o =
      outRec (requeueStart o (actOnCommand (outRec s o).act o (takeCommand o s))) o := by
  have hk := kept_actOnCommand (ps := [o]) (List.mem_singleton_self o) (.refl [o] (takeCommand o s))
    (was := (outRec s o).act)
  rw [recompute_changed ho h]
  exact outRec_onOutput (hk.wf (outsWf_takeCommand hw)) hk.tables

theorem recompute_none (hn : resolve (outEntry s o) (outRec s o) = none) :
    outRec (recompute o s) o = { noneRecord (outRec (takeCommand o s) o) with
      act := if (outRec (takeCommand o s) o).valid = true then .settled else .unknown } := by
  have hr : (outRec (takeCommand o s) o).resolved = none := by
    rw [outRec_takeCommand hw, hn]
    rfl
  have ha : actOnCommand (outRec s o).act o (takeCommand o s) = toNone (outRec s o).act o (takeCommand o s) := by
    unfold actOnCommand
    rw [hr]
  have ht := outRec_toNone (o := o) (outsWf_takeCommand hw (o := o)) (was := (outRec s o).act)
  rw [outRec_recompute hw ho h, ha, requeueStart_none, ht]
  rw [ht]
  exact hr

omit ho h in
/-- The action on a new command, by the state that the output was in. -/
theorem actOnCommand_some (hn : resolve (outEntry s o) (outRec s o) = some c) :
    actOnCommand (outRec s o).act o (takeCommand o s) =
      match (outRec s o).act with
      | .fault => newAttempt o .command (takeCommand o s)
      | .queued | .sent | .moving | .starting | .stopping => supersede o c (takeCommand o s)
      | .waitStart => examineFor o (place o (takeCommand o s))
      | .waitPath | .unknown | .settled => place o (takeCommand o s) := by
  have hr : (outRec (takeCommand o s) o).resolved = some c := by
    rw [outRec_takeCommand hw, hn]
    rfl
  unfold actOnCommand
  rw [hr] <;> rfl

end

/-! ### The record under a new command -/

theorem endWait_slot (r : OutRec) : (endWait r).slot = r.slot := by
  unfold endWait
  split <;> rfl

theorem unwaited_eq (a : Act) : unwaited a = if a = .waitPath ∨ a = .waitStart then .unknown else a := by
  cases a <;> rfl

/-- R63: an output QUEUED or outstanding. -/
def isBusy (a : Act) : Prop := a = .queued ∨ a = .sent ∨ a = .moving ∨ a = .starting ∨ a = .stopping

theorem unwaited_of_isBusy {a : Act} (h : isBusy a) : unwaited a = a := by
  rcases h with rfl | rfl | rfl | rfl | rfl <;> rfl

/-- R62, R89: the record under a new command, written out. -/
theorem takeCommand_written (hw : outsWf s) (o : Nat) :
    takeCommand o s =
      let r := outRec s o
      let waits := r.act = .waitPath ∨ r.act = .waitStart
      let ends := waits ∨ r.waitOpen = true
      modOut o (fun r => { r with
        resolved := resolve (outEntry s o) (outRec s o), retried := false, act := if waits then .unknown else r.act
        joinTime := if ends then none else r.joinTime
        heldWarned := if ends then false else r.heldWarned
        waitOpen := false }) s := by
  rw [takeCommand_eq hw]
  refine modOut_congr ?_
  unfold takenRecord
  rw [endWait_eq, unwaited_eq]
  simp only [or_assoc]

theorem startsAfresh_congr {e : OutputEntry} {r r' : OutRec} (hv : r'.view = r.view) (hs : r'.slot = r.slot) :
    startsAfresh e r' c ↔ startsAfresh e r c := by
  unfold startsAfresh slotFits
  rw [hv, hs]

theorem slotAfter_congr {e : OutputEntry} {r r' : OutRec} (hv : r'.view = r.view) (hs : r'.slot = r.slot)
    (ha : r'.act = r.act) : slotAfter e r' c = slotAfter e r c := by
  unfold slotAfter slotFits
  rw [hv, hs, ha]

/-! ### A supersede by a recomputation -/

section
variable (hw : outsWf s) (ho : isConfigured (outEntry s o) = true)
  (h : resolve (outEntry s o) (outRec s o) ≠ (outRec s o).resolved)
  (hn : resolve (outEntry s o) (outRec s o) = some c) (hb : isBusy (outRec s o).act)
include hw hn hb

/-- What is superseded is the record of the output under its new command. -/
theorem taken_busy :
    (outRec (takeCommand o s) o).resolved = some c ∧ (outRec (takeCommand o s) o).act = (outRec s o).act ∧
      (outRec (takeCommand o s) o).view = (outRec s o).view ∧ (outRec (takeCommand o s) o).slot = (outRec s o).slot ∧
      (outRec (takeCommand o s) o).superseded = (outRec s o).superseded := by
  obtain ⟨-, -, hv, -, -, -, -, hs⟩ := bearing_inj.1 (endWait_bearing (outRec s o))
  rw [outRec_takeCommand hw, hn]
  exact ⟨rfl, unwaited_of_isBusy hb, hv, endWait_slot _, hs⟩

theorem taken_busy_act : (outRec (takeCommand o s) o).act ≠ .waitStart := by
  rw [(taken_busy hw hn hb).2.1]
  rcases hb with e | e | e | e | e <;> rw [e] <;> exact fun h => nomatch h

theorem actOnCommand_busy :
    actOnCommand (outRec s o).act o (takeCommand o s) = supersede o c (takeCommand o s) := by
  rw [actOnCommand_some hw hn]
  rcases hb with e | e | e | e | e <;> rw [e]

include ho h

theorem outRec_recompute_busy : outRec (recompute o s) o = outRec (supersede o c (takeCommand o s)) o := by
  rw [outRec_recompute hw ho h, actOnCommand_busy hw hn hb,
    requeueStart_supersede (outsWf_takeCommand hw) (taken_busy hw hn hb).1 (taken_busy_act hw hn hb)]

end

end Sys2Proof.Machine
end

section
/-! A recomputation by the state that it finds the output in (O47). -/

namespace Sys2Proof.Machine

-- Elaborated one after another: the check bounds Lean's threads.
set_option Elab.async false

variable {s t : State} {o x : Nat} {c : Cmd}

/-! ### An output that is superseded -/

section
variable (hr : Res [] [] RunOk s) (ho : isConfigured (outEntry s o) = true)
  (h : resolve (outEntry s o) (outRec s o) ≠ (outRec s o).resolved)
  (hn : resolve (outEntry s o) (outRec s o) = some c) (hb : isBusy (outRec s o).act)
include hr ho h hn hb

omit ho h in
theorem startsAfresh_taken :
    startsAfresh (outEntry (takeCommand o s) o) (outRec (takeCommand o s) o) c ↔
      startsAfresh (outEntry s o) (outRec s o) c := by
  obtain ⟨-, -, hv, hs, -⟩ := taken_busy hr.wf hn hb
  exact startsAfresh_congr hv hs

/-- R63: the count, the flags and the proof of a superseded output. -/
theorem recompute_busy_counts :
    (outRec (recompute o s) o).superseded = min 255 ((outRec s o).superseded + 1) ∧
      (outRec (recompute o s) o).retried = false ∧ unproven (outRec (recompute o s) o) := by
  obtain ⟨hres, -, -, -, hsup⟩ := taken_busy hr.wf hn hb
  have ha := taken_busy_act hr.wf hn hb
  have hw := outsWf_takeCommand (o := o) hr.wf
  rw [outRec_recompute_busy hr.wf ho h hn hb, ← hsup]
  by_cases hs : startsAfresh (outEntry (takeCommand o s) o) (outRec (takeCommand o s) o) c
  · obtain ⟨-, hu, hsup, hret, -⟩ := starts_supersede hw hres ha hs
    exact ⟨hsup, hret, hu⟩
  · rw [outRec_supersede hw ha hs]
    exact ⟨rfl, rfl, rfl, rfl, rfl⟩

/-- R62, R65: a start that the output's slot is not for is placed. -/
theorem recompute_busy_starts (hs : startsAfresh (outEntry s o) (outRec s o) c) :
    (outRec (recompute o s) o).act = .waitPath ∨ (outRec (recompute o s) o).act = .waitStart ∨
      ((outRec (recompute o s) o).act = .fault ∧ (outRec (recompute o s) o).fault = some ⟨.path, .none⟩) ∨
      ((outRec (recompute o s) o).act = .queued ∧ (outRec (recompute o s) o).slot =
        some ⟨startDemand (outEntry s o) (outRec s o).view c, .needed⟩) := by
  obtain ⟨hres, -, hv, -, -⟩ := taken_busy hr.wf hn hb
  have hst := starts_supersede (outsWf_takeCommand hr.wf) hres (taken_busy_act hr.wf hn hb)
    ((startsAfresh_taken hr hn hb).2 hs)
  obtain ⟨hst, -, -, -, hview⟩ := hst
  have he : outEntry (supersede o c (takeCommand o s)) o = outEntry s o :=
    outEntry_congr (kept_supersede (ps := [o]) (List.mem_singleton_self o) (.refl [o] (takeCommand o s))).tables o
  unfold starts joins at hst
  rw [he, hview, hv] at hst
  rw [outRec_recompute_busy hr.wf ho h hn hb]
  rcases hst with hst | ⟨k, hst | hst⟩ | hst
  · exact .inl hst
  · exact .inr (.inl hst.1)
  · exact .inr (.inr (.inr hst))
  · exact .inr (.inr (.inl hst))

variable (hs : ¬ startsAfresh (outEntry s o) (outRec s o) c)
include hs

/-- R63, R65: any other command is queued, with the slot that R65 leaves. -/
theorem recompute_busy_queued :
    (outRec (recompute o s) o).act = .queued ∧
      (outRec (recompute o s) o).slot = slotAfter (outEntry s o) (outRec s o) c := by
  obtain ⟨-, hact, hv, hsl, -⟩ := taken_busy hr.wf hn hb
  have hs' := mt (startsAfresh_taken hr hn hb).1 hs
  rw [outRec_recompute_busy hr.wf ho h hn hb,
    outRec_supersede (outsWf_takeCommand hr.wf) (taken_busy_act hr.wf hn hb) hs', ← slotAfter_congr hv hsl hact]
  exact ⟨rfl, rfl⟩

/-- R63: the entry is replaced in place, or the output joins the queue at the tail. -/
theorem queue_recompute_busy :
    (if (outRec s o).act = .queued then s.queue.map (fun q => if q.output = o then ⟨o, c⟩ else q)
      else s.queue ++ [⟨o, c⟩]) <+: (recompute o s).queue := by
  obtain ⟨hres, hact, -⟩ := taken_busy hr.wf hn hb
  have ha := taken_busy_act hr.wf hn hb
  have hw := outsWf_takeCommand (o := o) hr.wf
  have hsup : Res [] [o] RunOk (supersede o c (takeCommand o s)) :=
    res_supersede (res_takeCommand hr) (by rw [hres]; exact fun h => nomatch h) ha
  have hg : (if (outRec s o).act = .queued then s.queue.map (fun q => if q.output = o then ⟨o, c⟩ else q)
      else s.queue ++ [⟨o, c⟩]) <+: (supersede o c (takeCommand o s)).queue := by
    rw [supersede_queued (mt (startsAfresh_taken hr hn hb).1 hs), hact]
    split
    · have hp : s.queue <+: (slotDecided o c (takeCommand o s)).queue :=
        grows_slotDecided (s := takeCommand o s)
      have hm : (requeueInPlace o c (slotDecided o c (takeCommand o s))).queue =
          (slotDecided o c (takeCommand o s)).queue.map (fun q => if q.output = o then ⟨o, c⟩ else q) := by
        simp only [requeueInPlace, setQueue, beq_iff_eq]
      rw [hm]
      exact hp.map _
    · rename_i hq
      rw [queue_enqueue, queue_slotDecided (by rw [hact]; exact hq)]
      exact List.prefix_refl _
  rw [recompute_changed ho h]
  refine grows_onOutput (R := RunOk) (ps := [o]) ?_ ?_ ?_ <;> rw [actOnCommand_busy hr.wf hn hb]
  · exact hg
  · exact requeueStart_supersede hw hres ha
  · exact hsup

end

/-! ### An output that is placed -/

theorem superseded_takeCommand (hw : outsWf s) :
    (outRec (takeCommand o s) o).superseded = (outRec s o).superseded := by
  obtain ⟨-, -, -, -, -, -, -, h⟩ := bearing_inj.1 (endWait_bearing (outRec s o))
  rw [outRec_takeCommand hw]
  exact h

theorem valid_takeCommand (hw : outsWf s) : (outRec (takeCommand o s) o).valid = (outRec s o).valid := by
  obtain ⟨-, -, -, h, -⟩ := bearing_inj.1 (endWait_bearing (outRec s o))
  rw [outRec_takeCommand hw]
  exact h

/-- R78: an output in FAULT makes a new attempt from here. -/
def recoveredAt (o way : Nat) (s : State) : State :=
  recordEntry .outputRecovered o way (modOut o (fun r => { r with fault := none, retried := false, busy := 0 }) s)

theorem outRec_recoveredAt (hw : outsWf s) {way : Nat} :
    outRec (recoveredAt o way s) o = { outRec s o with fault := none, retried := false, busy := 0 } := by
  rw [recoveredAt, outRec_recordEntry, outRec_modOut_same hw]

theorem outsWf_recoveredAt (hw : outsWf s) {way : Nat} : outsWf (recoveredAt o way s) :=
  (alike_recordEntry (.refl _)).wf (outsWf_modOut hw)

section
variable (hw : outsWf s) (ho : isConfigured (outEntry s o) = true)
  (h : resolve (outEntry s o) (outRec s o) ≠ (outRec s o).resolved)
  (hn : resolve (outEntry s o) (outRec s o) = some c)
include hw ho h hn

/-- R62: the output is placed for its new command. -/
theorem recompute_placed (ha : (outRec s o).act = .settled ∨ (outRec s o).act = .unknown ∨ (outRec s o).act = .waitPath) :
    recompute o s = onOutput o (place o) (takeCommand o s) := by
  rw [recompute_changed ho h]
  refine onOutput_congr ?_
  rw [actOnCommand_some hw hn]
  rcases ha with ha | ha | ha <;> rw [ha]

/-- R62, R91: a fan that waited is placed, and the list that it left is examined. -/
theorem recompute_waitStart (ha : (outRec s o).act = .waitStart) :
    recompute o s = onOutput o (fun v => examineFor o (place o v)) (takeCommand o s) := by
  rw [recompute_changed ho h]
  refine onOutput_congr ?_
  rw [actOnCommand_some hw hn, ha]

/-- R78: an output in FAULT makes a new attempt. -/
theorem recompute_fault (ha : (outRec s o).act = .fault) :
    recompute o s = onOutput o (fun v => place o (recoveredAt o 2 v)) (takeCommand o s) := by
  rw [recompute_changed ho h]
  refine onOutput_congr ?_
  rw [actOnCommand_some hw hn, ha]
  exact newAttempt_eq o .command _

/-- R62, R78: what an output in FAULT starts anew with. -/
theorem recompute_fault_counts (ha : (outRec s o).act = .fault) :
    (outRec (recompute o s) o).retried = false ∧ (outRec (recompute o s) o).busy = 0 ∧
      (outRec (recompute o s) o).superseded = (outRec s o).superseded := by
  have hwt := outsWf_takeCommand (o := o) hw
  have hk : Alike (recoveredAt o 2 (takeCommand o s)) (recompute o s) := by
    rw [recompute_fault hw ho h hn ha]
    exact alike_onOutput (work := fun v => place o (recoveredAt o 2 v)) (alike_place (.refl _))
  obtain ⟨-, -, -, -, -, hret, hbusy, hsup⟩ := bearing_inj.1 (hk.bearing (outsWf_recoveredAt hwt) o)
  rw [hret, hbusy, hsup, outRec_recoveredAt hwt]
  exact ⟨rfl, rfl, superseded_takeCommand hw⟩

theorem superseded_recompute (hb : ¬ isBusy (outRec s o).act) :
    (outRec (recompute o s) o).superseded = (outRec s o).superseded := by
  have placed : Alike (takeCommand o s) (recompute o s) →
      (outRec (recompute o s) o).superseded = (outRec s o).superseded := fun hk => by
    obtain ⟨-, -, -, -, -, -, -, hsup⟩ := bearing_inj.1 (hk.bearing (outsWf_takeCommand hw) o)
    rw [hsup, superseded_takeCommand hw]
  cases ha : (outRec s o).act with
  | fault => exact (recompute_fault_counts hw ho h hn ha).2.2
  | waitStart =>
    rw [recompute_waitStart hw ho h hn ha] at placed ⊢
    exact placed (alike_onOutput (work := fun v => examineFor o (place o v)) (alike_examineFor (alike_place (.refl _))))
  | settled | unknown | waitPath =>
    rw [recompute_placed hw ho h hn (by simp [ha])] at placed ⊢
    exact placed (alike_onOutput (work := place o) (alike_place (.refl _)))
  | queued | sent | moving | starting | stopping => exact absurd (by simp [isBusy, ha]) hb

end

/-! ### The statement -/

/-- Settles O47: an unchanged command, a change to NONE, and a change to another by the state of the output. -/
theorem changedCommandsSupersede : Obligations.ChangedCommandsSupersede := by
  intro o s hcan hl ho
  have hw : outsWf s := hcan.outs
  have hr := ListsOk.res hcan hl
  have hcfg := isConfigured_of_mem hcan.tables.outputs ho
  refine ⟨fun he ha => (recompute_same he).trans (if_neg ha), fun he ha => (recompute_same he).trans (if_pos ha),
    fun hne => ?_, fun hn hne => ?_, fun c hn hne => ⟨superseded_recompute hw hcfg hne hn, fun ha => ?_, fun ha => ?_,
      fun ha => ?_, fun hb => ?_, fun hb hs hf => ?_, fun hb hs => ?_⟩⟩
  · have hk : Kept [o] (takeCommand o s) (recompute o s) := by
      rw [recompute_changed hcfg hne]
      exact kept_onOutput (List.mem_singleton_self o) (.refl _ _) fun hu =>
        kept_actOnCommand (List.mem_singleton_self o) hu
    refine (hk.resolved (outsWf_takeCommand hw) o).trans ?_
    rw [outRec_takeCommand hw]
    rfl
  · have hu := recompute_none hw hcfg hne hn
    rw [valid_takeCommand hw] at hu
    have hq := (res_recompute (o := o) hr).not_inQueue (o := o) (by
      rw [hu]
      dsimp only
      split <;> exact fun h => nomatch h)
    rw [hu]
    exact ⟨rfl, hq, rfl, rfl, rfl, rfl, rfl, rfl, rfl⟩
  · rw [recompute_placed hw hcfg hne hn ha, takeCommand_written hw]
  · rw [recompute_waitStart hw hcfg hne hn ha, takeCommand_written hw]
    refine onOutput_congr ?_
    unfold examineFor
    rw [(alike_place (.refl _)).outEntry]
    rfl
  · obtain ⟨hret, hbusy, -⟩ := recompute_fault_counts hw hcfg hne hn ha
    refine ⟨hret, hbusy, ?_⟩
    rw [recompute_fault hw hcfg hne hn ha, takeCommand_written hw]
    rfl
  · obtain ⟨hsup, hret, hun⟩ := recompute_busy_counts hr hcfg hne hn hb
    refine ⟨hsup.trans ?_, hret, hun⟩
    split <;> omega
  · exact recompute_busy_starts hr hcfg hne hn hb ⟨hs, by
      simpa using mt (slotFits_iff _ _ _).1 hf⟩
  · have hs' : ¬ startsAfresh (outEntry s o) (outRec s o) c := by
      rintro ⟨hneeds, hf⟩
      rcases hs with hs | hs
      · exact absurd (hs.symm.trans hneeds) (by decide)
      · exact absurd (hf.symm.trans ((slotFits_iff _ _ _).2 hs)) (by decide)
    obtain ⟨hact, hslot⟩ := recompute_busy_queued hr hcfg hne hn hb hs'
    have hq := List.prefix_iff_eq_take.1 (queue_recompute_busy hr hcfg hne hn hb hs')
    refine ⟨hact, fun ha => ?_, fun ha => ?_, fun hf => ?_, fun hf => ?_⟩
    · rw [if_pos ha, List.length_map] at hq
      exact hq.symm
    · rw [if_neg ha, List.length_append] at hq
      exact hq.symm
    · rw [hslot]
      exact slotAfter_fits _ _ _ ((slotFits_iff _ _ _).2 hf)
    · exact hslot.trans (slotAfter_eq _ _ _ (by simpa using mt (slotFits_iff _ _ _).1 hf))

end Sys2Proof.Machine
end

section
/-! The start slots of a board (O11): which fans hold them, and that the operations of the Output Resolver and the Start
Scheduler keep them within their board. But for an admission, which R90 tests, none of these takes a slot. -/

namespace Sys2Proof.Machine

-- Elaborated one after another: the check bounds Lean's threads.
set_option Elab.async false

variable {s t : State} {o x b : Nat} {c : Cmd} {f : OutRec → OutRec}

/-! ### The fans and the slot holders of a board -/

theorem mem_fansOn : o ∈ fansOn s b ↔ isFan (outEntry s o) = true ∧ (outEntry s o).board = b := by
  simp only [fansOn, List.mem_filter, mem_fans, beq_iff_eq]
  refine ⟨fun ⟨⟨_, hf⟩, hb⟩ => ⟨hf, hb⟩, fun ⟨hf, hb⟩ => ⟨⟨mem_configured ?_, hf⟩, hb⟩⟩
  simp [isConfigured, hf]

theorem fansOn_nodup (h : outputsWf s) : (fansOn s b).Nodup := ((configured_nodup h).filter _).filter _

theorem fansOn_congr (h : t.tables.outputs = s.tables.outputs) (b : Nat) : fansOn t b = fansOn s b := by
  simp only [fansOn, fans, configured, configuredOutputs, outEntry, outputOf, h]

theorem mem_slotHolders : o ∈ slotHolders s b ↔ o ∈ fansOn s b ∧ (outRec s o).slot.isSome = true := List.mem_filter

theorem slotHolders_nodup (h : outputsWf s) : (slotHolders s b).Nodup := (fansOn_nodup h).filter _

/-- A sum of figures over different numbers, each of which the greater sum counts at least as high. -/
theorem sum_map_le {xs ys : List Nat} {g g' : Nat → Nat} (hn : xs.Nodup) (hs : xs ⊆ ys) (hg : ∀ x ∈ xs, g x ≤ g' x) :
    (xs.map g).sum ≤ (ys.map g').sum := by
  obtain ⟨l, hp, hl⟩ := hn.subperm hs
  calc (xs.map g).sum ≤ (xs.map g').sum := List.sum_le_sum hg
    _ = (l.map g').sum := (hp.map g').sum_eq.symm
    _ ≤ (ys.map g').sum := (hl.map g').sum_le_sum fun _ _ => Nat.zero_le _

/-! ### One board's slots -/

/-- R90: the slot holders of one board. SlotsOk says it of every board. -/
def BoardSlotsOk (s : State) (b : Nat) : Prop :=
  (slotHolders s b).length ≤ (boardEntry s b).startLimit ∧
    ((slotHolders s b).map (fun f => slotDemand (outRec s f))).sum ≤ capacity s b

/-- A slot holder of a board holds its slot there as in `s`, and the board has the entry and the source that it had. -/
structure HeldAs (s t : State) (b o : Nat) : Prop where
  holder : o ∈ slotHolders s b
  demand : slotDemand (outRec t o) = slotDemand (outRec s o)
  entry : boardEntry t b = boardEntry s b
  source : boardSource t b = boardSource s b

/-- A board on which no slot is taken stays within its limits; one without slot holders is within any. -/
theorem BoardSlotsOk.of_held (h : BoardSlotsOk s b) (he : outputsWf t) (hk : ∀ o ∈ slotHolders t b, HeldAs s t b o) :
    BoardSlotsOk t b := by
  have hn : (slotHolders t b).Nodup := slotHolders_nodup he
  have hs : slotHolders t b ⊆ slotHolders s b := fun o ho => (hk o ho).holder
  rcases hl : slotHolders t b with _ | ⟨o, os⟩
  · simp [BoardSlotsOk, hl]
  · have ho := hk o (hl ▸ List.mem_cons_self)
    have hc : capacity t b = capacity s b := by simp only [capacity, ho.entry, ho.source]
    refine ⟨(hn.subperm hs).length_le.trans (ho.entry ▸ h.1), ?_⟩
    rw [hc]
    exact (sum_map_le hn hs fun x hx => (hk x hx).demand.le).trans h.2

/-- The tables and records are in canonical form, and every board's slots are within it. -/
structure Staged (s : State) : Prop where
  entries : outputsWf s
  stored : sparseWf blankOutput s.nv.outputs = true
  wf : outsWf s
  slots : ∀ b, BoardSlotsOk s b

/-- A record's slot, if it has one, is that of the earlier record, perhaps with another hold (R65). -/
def SlotFrom (r r' : OutRec) : Prop := ∀ sl, r'.slot = some sl → ∃ sl₀, r.slot = some sl₀ ∧ sl₀.demand = sl.demand

theorem SlotFrom.of_eq {r r' : OutRec} (h : r'.slot = r.slot) : SlotFrom r r' := fun sl hs => ⟨sl, h ▸ hs, rfl⟩

theorem SlotFrom.of_none {r r' : OutRec} (h : r'.slot = none) : SlotFrom r r' := fun _ hs => nomatch h.symm.trans hs

theorem SlotFrom.isSome {r r' : OutRec} (h : SlotFrom r r') (hs : r'.slot.isSome = true) :
    r.slot.isSome = true ∧ slotDemand r' = slotDemand r := by
  obtain ⟨sl, hs⟩ := Option.isSome_iff_exists.1 hs
  obtain ⟨sl₀, h₀, hd⟩ := h sl hs
  exact ⟨by rw [h₀]; rfl, by simp only [slotDemand, hs, h₀, hd]⟩

/-- No slot is taken, and tables and sources stand. -/
theorem Staged.of_slots (h : Staged s) (hw : outsWf t) (hr : ∀ x, SlotFrom (outRec s x) (outRec t x))
    (ho : t.tables.outputs = s.tables.outputs) (hb : t.tables.boards = s.tables.boards) (hn : t.nv = s.nv)
    (hs : t.boards = s.boards) : Staged t := by
  have he : outputsWf t := by
    unfold outputsWf
    rw [ho]
    exact h.entries
  refine ⟨he, hn ▸ h.stored, hw, fun b => (h.slots b).of_held he fun o hm => ?_⟩
  obtain ⟨hf, hsl⟩ := mem_slotHolders.1 hm
  obtain ⟨hsl, hd⟩ := (hr o).isSome hsl
  exact ⟨mem_slotHolders.2 ⟨fansOn_congr ho b ▸ hf, hsl⟩, hd, by simp only [boardEntry, boardOf, hb],
    by simp only [boardSource, hs]⟩

/-- A change of parts that the law does not speak of. -/
theorem Staged.of_eq (h : Staged s) (ho : t.outs = s.outs := by rfl)
    (he : t.tables.outputs = s.tables.outputs := by rfl) (hb : t.tables.boards = s.tables.boards := by rfl)
    (hn : t.nv = s.nv := by rfl) (hs : t.boards = s.boards := by rfl) : Staged t :=
  h.of_slots (by unfold outsWf; rw [ho]; exact h.wf) (fun x => .of_eq (by rw [outRec_congr ho])) he hb hn hs

/-! ### The named writes and the Fault Capture Unit -/

theorem staged_modOut (h : Staged s) (hf : SlotFrom (outRec s o) (f (outRec s o)) := by exact .of_eq rfl) :
    Staged (modOut o f s) := by
  refine h.of_slots (outsWf_modOut h.wf) (fun x => ?_) rfl rfl rfl rfl
  rw [outRec_modOut h.wf]
  split
  · rename_i e
    exact e ▸ hf
  · exact .of_eq rfl

/-- R93: a slot is released. -/
theorem staged_release (h : Staged s) : Staged (modOut o (fun r => { r with slot := none }) s) :=
  staged_modOut h (.of_none rfl)

theorem staged_ite {p : Prop} [Decidable p] {v w : State} (hv : Staged v) (hw : Staged w) :
    Staged (if p then v else w) := by
  split
  · exact hv
  · exact hw

theorem staged_foldl {α : Type} {g : State → α → State} (hg : ∀ {v : State} (x : α), Staged v → Staged (g v x))
    {xs : List α} (h : Staged s) : Staged (xs.foldl g s) := by
  induction xs generalizing s with
  | nil => exact h
  | cons x xs ih => exact ih (hg x h)

theorem staged_report (h : Staged s) {r : Report} : Staged (report r s) := by
  have k := captures_report r s
  exact h.of_eq k.outs (by rw [k.tables]) (by rw [k.tables]) (work_report (.refl s)).nv (boards_report r s)

theorem staged_raise (h : Staged s) {ev : Ev} {n m : Nat} : Staged (raise ev n m s) := staged_report h

theorem staged_setAct (h : Staged s) {a : Act} : Staged (setAct o a s) := by
  have hm : Staged (modOut o (fun r => { r with act := a }) s) := staged_modOut h
  exact staged_ite hm (staged_ite hm.of_eq hm.of_eq)

theorem staged_dequeue (h : Staged s) : Staged (dequeue o s) := h.of_eq

theorem staged_setQueue {g : List QueueEntry → List QueueEntry} (h : Staged s) : Staged (setQueue g s) := h.of_eq

theorem staged_enqueue (h : Staged s) : Staged (enqueue o c s) := staged_setAct (staged_setQueue h)

/-! ### Admission (R90) -/

theorem staged_tellReserve (h : Staged s) : Staged (tellReserve o s) := by
  unfold tellReserve
  split
  · exact h.of_eq
  · exact h

theorem staged_settleRecord (h : Staged s) : Staged (settleRecord o s) := by
  have hs : Staged (setAct o .settled (modOut o (fun r =>
      { r with fault := none, origin := none, timer := none, clean := false, slot := none }) s)) :=
    staged_setAct (staged_modOut h (.of_none rfl))
  exact staged_ite hs (staged_tellReserve (s := tellRunner (.settled o) _) hs.of_eq)

/-- R87: a slot holder contributes its demand. -/
theorem slotDemand_le_contribution (e : OutputEntry) (r : OutRec) : slotDemand r ≤ contribution e r := by
  unfold slotDemand contribution
  cases r.slot with
  | none => exact Nat.zero_le _
  | some sl => exact Nat.le_refl _

/-- R90: what the test of the head asks. -/
theorem admissible_iff (hc : (outRec s o).resolved = some c) :
    admissible s b o = true ↔ boardSource s b ≠ .dead ∧ (slotHolders s b).length < (boardEntry s b).startLimit ∧
      contributions s ((fansOn s b).filter (fun x => x != o)) + startDemand (outEntry s o) (outRec s o).view c ≤
        capacity s b := by
  simp [admissible, hc, and_assoc]

theorem exists_resolved_of_admissible (h : admissible s b o = true) : ∃ c, (outRec s o).resolved = some c := by
  cases hr : (outRec s o).resolved with
  | none => simp [admissible, hr] at h
  | some c => exact ⟨c, rfl⟩

/-- Another fan's slot stands through a write of one record. -/
theorem heldAs_modOut (hx : x ≠ o) (h : x ∈ slotHolders (modOut o f s) b) : HeldAs s (modOut o f s) b x := by
  obtain ⟨hf, hs⟩ := mem_slotHolders.1 h
  rw [outRec_modOut_other hx] at hs
  exact ⟨mem_slotHolders.2 ⟨hf, hs⟩, by rw [outRec_modOut_other hx], rfl, rfl⟩

/-- R90: the demands on a board are within the other fans' contributions and the new contribution of the fan itself. -/
theorem demands_modOut_le (he : outputsWf s) (hw : outsWf s) (o b : Nat) :
    ((slotHolders (modOut o f s) b).map (fun x => slotDemand (outRec (modOut o f s) x))).sum ≤
      contribution (outEntry s o) (f (outRec s o)) + contributions s ((fansOn s b).filter (fun x => x != o)) := by
  have hs : slotHolders (modOut o f s) b ⊆ o :: (fansOn s b).filter (fun x => x != o) := fun x hx => by
    by_cases hxo : x = o
    · exact hxo ▸ List.mem_cons_self
    · exact List.mem_cons_of_mem o (List.mem_filter.2 ⟨(mem_slotHolders.1 hx).1, by simpa using hxo⟩)
  refine (sum_map_le (g' := fun x => contribution (outEntry s x) (outRec (modOut o f s) x))
    (slotHolders_nodup (s := modOut o f s) he) hs fun x _ => slotDemand_le_contribution _ _).trans (le_of_eq ?_)
  rw [List.map_cons, List.sum_cons, outRec_modOut_same hw, contributions]
  refine congrArg (_ + List.sum ·) (List.map_congr_left fun x hx => ?_)
  rw [outRec_modOut_other (by simpa using (List.mem_filter.1 hx).2)]

/-- R90: the slot that an admission takes fits beside the others. -/
theorem staged_slotted (h : Staged s) (hm : o ∈ fansOn s b) (hc : (outRec s o).resolved = some c)
    (ha : admissible s b o = true) : Staged (modOut o (slottedRecord (outEntry s o) c) s) := by
  obtain ⟨-, hfree, hload⟩ := (admissible_iff hc).1 ha
  refine ⟨h.entries, h.stored, outsWf_modOut h.wf, fun b' => ?_⟩
  by_cases hb : b' = b
  · subst hb
    refine ⟨?_, (demands_modOut_le h.entries h.wf o b').trans ?_⟩
    · have hs : slotHolders (modOut o (slottedRecord (outEntry s o) c) s) b' ⊆ o :: slotHolders s b' := fun x hx => by
        by_cases hxo : x = o
        · exact hxo ▸ List.mem_cons_self
        · exact List.mem_cons_of_mem o (heldAs_modOut hxo hx).holder
      exact (((slotHolders_nodup (s := modOut o _ s) h.entries).subperm hs).length_le).trans hfree
    · rw [Nat.add_comm]
      exact hload
  · refine (h.slots b').of_held h.entries fun x hx => heldAs_modOut ?_ hx
    rintro rfl
    exact hb ((mem_fansOn.1 (mem_slotHolders.1 hx).1).2.symm.trans (mem_fansOn.1 hm).2)

/-- R92: the head of a wait list is admitted. -/
theorem staged_admitFan (h : Staged s) (hm : o ∈ fansOn s b) (ha : admissible s b o = true) : Staged (admitFan o s) := by
  obtain ⟨c, hc⟩ := exists_resolved_of_admissible ha
  have hs := staged_slotted h hm hc ha
  rw [admitFan_eq hc]
  exact staged_ite (staged_settleRecord hs) (staged_enqueue hs)

theorem mem_waitList : o ∈ waitList s b ↔ o ∈ fansOn s b ∧ (outRec s o).act = .waitStart := by
  simp [waitList, mem_sortBy]

theorem staged_examineTimes {n : Nat} (h : Staged s) : Staged (examineTimes n b s) := by
  induction n generalizing s with
  | zero => exact h
  | succ n ih =>
    unfold examineTimes
    split
    · exact h
    · rename_i f _ hl
      split
      · rename_i ha
        exact ih (staged_admitFan h (mem_waitList.1 (hl ▸ List.mem_cons_self)).1 ha)
      · exact h

theorem staged_examine (h : Staged s) : Staged (examine b s) := staged_examineTimes h

theorem staged_examineFor (h : Staged s) : Staged (examineFor o s) := staged_ite (staged_examine h) h

theorem staged_releaseSlot (h : Staged s) : Staged (releaseSlot o s) :=
  staged_ite (staged_examineFor (staged_release h)) h

theorem staged_forgetWait (h : Staged s) : Staged (forgetWait o s) := staged_modOut h

theorem staged_warnHeld (h : Staged s) : Staged (warnHeld o s) := staged_ite (staged_raise (staged_modOut h)) h

theorem staged_examineAndWarn (h : Staged s) : Staged (examineAndWarn b s) :=
  staged_foldl (fun _ hv => staged_warnHeld hv) (staged_examine h)

/-! ### FAULT, the path interlock and placement -/

theorem staged_toFault {code : FaultCode} {cause : Cause} (h : Staged s) : Staged (toFault o code cause s) := by
  have he : Staged (modOut o endWait s) := staged_modOut h (.of_eq (by unfold endWait; split <;> rfl))
  have hf : Staged (faultRecord o code cause s) := staged_setAct (staged_dequeue (staged_modOut he))
  have ht : ∀ {r}, Staged (tellRunner (.fault o code) (examineFor o (modOut o (fun r => { r with slot := none })
      (report r (faultRecord o code cause s))))) :=
    (staged_examineFor (staged_release (staged_report hf))).of_eq
  exact staged_tellReserve ht

theorem staged_joinWait (h : Staged s) : Staged (joinWait o s) :=
  staged_warnHeld (staged_examineFor (staged_setAct (staged_modOut h)))

theorem staged_judgePath (h : Staged s) : Staged (judgePath o s) :=
  staged_ite h (staged_ite (staged_joinWait h) (staged_ite (staged_toFault h) h))

theorem staged_rejudge (h : Staged s) : Staged (rejudge o s) := staged_foldl (fun _ hv => staged_judgePath hv) h

theorem staged_settle (h : Staged s) : Staged (settle o s) :=
  staged_ite (staged_examineFor (staged_settleRecord h)) (staged_settleRecord h)

theorem staged_placeStart (h : Staged s) : Staged (placeStart o c s) :=
  staged_ite (staged_judgePath (staged_setAct h)) (staged_joinWait h)

theorem staged_place (h : Staged s) : Staged (place o s) := by
  have hr : Staged (resumeWait o s) := staged_ite h (staged_forgetWait h)
  unfold place
  dsimp only
  split
  · exact h
  · exact staged_ite (staged_ite (staged_toFault h) (staged_setAct h)) (staged_ite (staged_toFault h)
      (staged_ite (staged_toFault h) (staged_ite (staged_toFault h) (staged_ite (staged_settle h)
        (staged_ite (staged_placeStart hr) (staged_enqueue h))))))

theorem staged_placeFromWait (h : Staged s) : Staged (placeFromWait o s) :=
  staged_ite (staged_examineFor (staged_place h)) (staged_place h)

theorem staged_newAttempt {way : Way} (h : Staged s) : Staged (newAttempt o way s) :=
  staged_place (staged_raise (staged_modOut h))

theorem staged_requeueStart (h : Staged s) : Staged (requeueStart o s) := by
  unfold requeueStart
  dsimp only
  split
  · exact staged_ite (staged_place (staged_dequeue h)) h
  · exact h

theorem staged_onOutput {work : State → State} (h : Staged (work s)) : Staged (onOutput o work s) :=
  staged_ite (staged_rejudge (staged_requeueStart h)) (staged_requeueStart h)

/-! ### A new resolved command (R62 to R65) -/

/-- R65: a slot that is kept through a change of command keeps its demand. -/
theorem slotFrom_slotAfter (e : OutputEntry) (r : OutRec) (c : Cmd) :
    SlotFrom r (supersedeRecord (slotAfter e r c) r) := by
  intro sl hs
  have hs : slotAfter e r c = some sl := hs
  unfold slotAfter at hs
  split at hs
  · cases hs
  · rename_i sl₀ hr
    refine ⟨sl₀, hr, ?_⟩
    split at hs
    · cases hs
      rfl
    · split at hs <;> cases hs <;> rfl

theorem staged_supersede (h : Staged s) : Staged (supersede o c s) := by
  have hm : Staged (modOut o (supersedeRecord (slotAfter (outEntry s o) (outRec s o) c)) s) :=
    staged_modOut h (slotFrom_slotAfter _ _ _)
  have hd : Staged (slotDecided o c s) := staged_ite (staged_examineFor hm) hm
  exact staged_ite (staged_placeStart (staged_forgetWait (staged_dequeue hd))) (staged_ite hd.of_eq (staged_enqueue hd))

theorem staged_toNone {was : Act} (h : Staged s) : Staged (toNone was o s) := by
  have hm : Staged (modOut o noneRecord (dequeue o s)) := staged_modOut (staged_dequeue h) (.of_none rfl)
  have hr : Staged (if (outRec s o).act = .fault then raise .outputRecovered o (wayCode .command)
      (modOut o noneRecord (dequeue o s)) else modOut o noneRecord (dequeue o s)) := staged_ite (staged_raise hm) hm
  have hs := staged_ite (p := (outRec s o).valid = true) (staged_settleRecord (o := o) hr)
    (staged_setAct (o := o) (a := .unknown) hr)
  exact staged_ite (staged_examineFor hs) hs

theorem staged_actOnCommand {was : Act} (h : Staged s) : Staged (actOnCommand was o s) := by
  unfold actOnCommand
  split
  · exact staged_toNone h
  · cases was with
    | fault => exact staged_newAttempt h
    | queued | sent | moving | starting | stopping => exact staged_supersede h
    | waitStart => exact staged_examineFor (staged_place h)
    | waitPath | unknown | settled => exact staged_place h

theorem staged_takeCommand (h : Staged s) : Staged (takeCommand o s) :=
  staged_modOut (staged_modOut h (.of_eq (endWait_slot _)))

theorem staged_recomputeAll {os : List Nat} (h : Staged s) : Staged (recomputeAll os s) :=
  staged_foldl (g := actOnOne s (os.filter (commandChanged s)))
    (fun _ hv => staged_ite (staged_onOutput (staged_actOnCommand hv)) (staged_ite (staged_examineFor hv) hv))
    (staged_foldl (fun _ hv => staged_takeCommand hv) h)

theorem staged_changeLayers {w : Nat → OutRec → OutRec} {os : List Nat} (hw : LayerWrite w) (h : Staged s) :
    Staged (changeLayers w os s) := by
  refine staged_recomputeAll (staged_foldl (fun {v} o hv => staged_modOut hv (.of_eq ?_)) h)
  obtain ⟨ff, fire, safe, bld, e⟩ := hw o (outRec v o)
  rw [e]

/-! ### Endings of exchanges, proof, readings and modules -/

theorem staged_acceptCommand (h : Staged s) : Staged (acceptCommand o c s) := by
  have hs : Staged (setAct o (acceptedAct (outEntry s o) (outRec s o).view c) (modOut o (acceptRecord (outRec s o).view
      (proofTime (outEntry s o) (acceptedAct (outEntry s o) (outRec s o).view c))) s)) := staged_setAct (staged_modOut h)
  unfold acceptCommand
  dsimp only
  split
  · exact staged_ite (staged_releaseSlot hs) hs
  · exact hs

theorem staged_sentEnding {a : Ack} (h : Staged s) : Staged (sentEnding o a s) := by
  unfold sentEnding
  dsimp only
  split
  · exact h
  · cases a with
    | accepted => exact staged_acceptCommand h
    | busy => exact staged_ite (staged_toFault (staged_modOut h)) (staged_enqueue (staged_modOut h))
    | refusedLocal => exact staged_toFault (staged_modOut h)
    | badChannel => exact staged_toFault h

/-- R65, R68: a slot that outlives an exchange keeps its demand. -/
theorem demand_slotAfterExchange {a : Bool} {sl sl' : Slot} (h : slotAfterExchange a sl = some sl') :
    sl.demand = sl'.demand := by
  unfold slotAfterExchange at h
  split at h
  · cases h
    rfl
  · split at h <;> cases h
    rfl
  · split at h <;> cases h
    rfl

theorem staged_supersededEnding {a : Ack} (h : Staged s) : Staged (supersededEnding o a s) := by
  unfold supersededEnding
  split
  · exact h
  · rename_i sl hsl
    split
    · exact staged_releaseSlot h
    · rename_i sl' he
      refine staged_modOut h fun x hx => ⟨sl, hsl, ?_⟩
      cases hx
      exact demand_slotAfterExchange he

theorem staged_exchangeEnded {a : Ack} (h : Staged s) : Staged (exchangeEnded o a s) := by
  refine staged_onOutput ?_
  split
  · exact staged_sentEnding h
  · exact staged_supersededEnding h

theorem staged_proofExpired (h : Staged s) : Staged (proofExpired o s) := by
  unfold proofExpired
  dsimp only
  refine staged_onOutput ?_
  split
  · exact staged_enqueue (staged_modOut h)
  · exact staged_toFault h

theorem staged_takeView {v : View} {a n : Bool} (h : Staged s) : Staged (takeView o v a n s) := by
  have hm : Staged (modOut o (fun r => { r with view := v, valid := a, unusable := n }) s) := staged_modOut h
  exact staged_ite hm.of_eq hm

theorem staged_readInFault {old : OutRec} (h : Staged s) : Staged (readInFault o old c s) :=
  staged_ite h (staged_ite (staged_settle (staged_raise (staged_modOut h))) (staged_ite (staged_newAttempt h) h))

theorem staged_depart (h : Staged s) : Staged (depart o c s) :=
  staged_ite (staged_enqueue h) (staged_ite (staged_enqueue (staged_modOut h)) (staged_toFault h))

theorem staged_readInState {old : OutRec} (h : Staged s) : Staged (readInState o old c s) := by
  unfold readInState
  dsimp only
  split
  case h_4 => exact staged_ite h (staged_depart h)
  case h_5 | h_6 => exact staged_ite (staged_placeFromWait h) h
  case h_7 => exact h
  all_goals exact staged_ite (staged_settle h) (staged_ite (staged_modOut h) h)

theorem staged_afterReading {old : OutRec} (h : Staged s) : Staged (afterReading o old s) := by
  unfold afterReading
  split
  · exact staged_settle h
  · exact staged_place h
  · exact h
  · exact staged_readInFault h
  · split
    · exact staged_ite (staged_toFault h) (staged_readInState h)
    · exact staged_readInState h

theorem staged_examineIfFallen {n : Nat} (h : Staged s) : Staged (examineIfFallen o n s) :=
  staged_ite (staged_examineFor h) h

theorem staged_takeReading {n : Nat} (h : Staged s) : Staged (takeReading o n s) :=
  staged_examineIfFallen (staged_onOutput (staged_afterReading (staged_takeView h)))

theorem staged_takeUnusable (h : Staged s) : Staged (takeUnusable o s) :=
  staged_examineIfFallen (staged_onOutput (staged_ite (staged_setAct (staged_takeView h))
    (staged_ite (staged_takeView h) (staged_toFault (staged_takeView h)))))

theorem staged_outputLost (h : Staged s) : Staged (outputLost o s) :=
  staged_onOutput (staged_ite (staged_takeView h) (staged_ite (staged_setAct (staged_takeView h))
    (staged_toFault (staged_takeView h))))

theorem staged_outputReturned (h : Staged s) : Staged (outputReturned o s) :=
  staged_ite (staged_onOutput (staged_newAttempt h)) h

theorem staged_replaceQueued (h : Staged s) : Staged (replaceQueued o s) := by
  unfold replaceQueued
  dsimp only
  split
  · exact staged_ite (staged_onOutput (staged_place (staged_dequeue h))) h
  · exact h

theorem staged_reassertOutput (h : Staged s) : Staged (reassertOutput o s) := by
  unfold reassertOutput
  dsimp only
  split
  · exact staged_ite (staged_onOutput (staged_place h)) h
  · exact h

end Sys2Proof.Machine
end

section
/-! The start slots of a board (O11) where the limits themselves change: a source change and a board write release every slot of
the board, an output write releases the slot of a fan whose board or loads change, and a start leaves no slot. -/

namespace Sys2Proof.Machine

-- Elaborated one after another: the check bounds Lean's threads.
set_option Elab.async false

variable {s t : State} {o x b : Nat} {f : OutRec → OutRec}

/-! ### Source changes and board writes (R95, R99) -/

/-- Writes to records change the records alone. -/
theorem foldl_modOut_eq (w : Nat → OutRec → OutRec) (os : List Nat) (s : State) :
    ∃ m, os.foldl (fun t o => modOut o (w o) t) s = { s with outs := m } := by
  induction os generalizing s with
  | nil => exact ⟨s.outs, rfl⟩
  | cons o os ih =>
    obtain ⟨m, hm⟩ := ih (modOut o (w o) s)
    exact ⟨m, hm⟩

/-- R95, step 2: every slot on the board is released. -/
def slotsReleased (b : Nat) (s : State) : State :=
  (fansOn s b).foldl (fun t f => modOut f (fun r => { r with slot := none }) t) s

theorem restageBoard_eq (b : Nat) (s : State) :
    restageBoard b s =
      ((fansOn s b).filter (fun f => returnable (outRec s f))).foldl (fun t f => returnToWait f t) (slotsReleased b s) :=
  rfl

theorem slotsReleased_eq (b : Nat) (s : State) : ∃ m, slotsReleased b s = { s with outs := m } :=
  foldl_modOut_eq (fun _ r => { r with slot := none }) _ s

theorem outRec_slotsReleased (he : outputsWf s) (hw : outsWf s) (b x : Nat) :
    outRec (slotsReleased b s) x = if x ∈ fansOn s b then { outRec s x with slot := none } else outRec s x :=
  outRec_foldl_modOut (w := fun _ r => { r with slot := none }) (fansOn_nodup he) hw x

theorem outsWf_slotsReleased (hw : outsWf s) (b : Nat) : outsWf (slotsReleased b s) :=
  (still_foldl (fun u o => still_modOut o (fun r => { r with slot := none }) u) (fansOn s b) s).wf hw

/-- R95: with every slot on the board released, the board's entry and source may be any. -/
theorem staged_slotsReleased (h : Staged s) (ho : t.outs = s.outs) (ht : t.tables.outputs = s.tables.outputs)
    (hn : t.nv = s.nv) (hb : ∀ x, x ≠ b → boardEntry t x = boardEntry s x ∧ boardSource t x = boardSource s x) :
    Staged (slotsReleased b t) := by
  have he : outputsWf t := by unfold outputsWf; rw [ht]; exact h.entries
  have hw : outsWf t := by unfold outsWf; rw [ho]; exact h.wf
  have hrec := outRec_slotsReleased he hw b
  have hwf := outsWf_slotsReleased hw b
  obtain ⟨m, hm⟩ := slotsReleased_eq b t
  rw [hm] at hrec hwf ⊢
  refine ⟨he, hn ▸ h.stored, hwf, fun b' => (h.slots b').of_held he fun x hx => ?_⟩
  obtain ⟨hf, hs⟩ := mem_slotHolders.1 hx
  have hf : x ∈ fansOn t b' := hf
  rw [hrec] at hs
  have hxb : x ∉ fansOn t b := fun hxb => by
    rw [if_pos hxb] at hs
    cases hs
  have hb' : b' ≠ b := fun e => hxb (e ▸ hf)
  rw [if_neg hxb, outRec_congr ho] at hs
  exact ⟨mem_slotHolders.2 ⟨fansOn_congr ht b' ▸ hf, hs⟩, by rw [hrec, if_neg hxb, outRec_congr ho], (hb b' hb').1,
    (hb b' hb').2⟩

theorem staged_returnToWait (h : Staged s) : Staged (returnToWait o s) :=
  staged_setAct (staged_dequeue (staged_modOut h))

theorem staged_restageBoard (h : Staged (slotsReleased b s)) : Staged (restageBoard b s) :=
  staged_foldl (fun _ hv => staged_returnToWait hv) h

theorem staged_sourceChange {src : BoardSource} (h : Staged s) : Staged (sourceChange b src s) :=
  staged_examineAndWarn (staged_raise (staged_restageBoard (staged_slotsReleased (t := setBoardSource b src s) h rfl rfl
    rfl fun _ hx => ⟨rfl, sget_sput_other hx⟩)))

theorem staged_boardWritten {new : BoardEntry} (h : Staged s) :
    Staged (boardWritten b { s with tables := { s.tables with boards := sput blankBoard b new s.tables.boards } }) :=
  staged_examineAndWarn (staged_restageBoard (staged_slotsReleased h rfl rfl rfl fun _ hx => ⟨sget_sput_other hx, rfl⟩))

/-! ### Output writes (R81, R99) -/

/-- One output's entry and record may have changed, and nothing else that the law speaks of. -/
structure ApartFrom (o : Nat) (s t : State) : Prop where
  entries : outputsWf t
  nv : t.nv = s.nv
  wf : outsWf t
  entry : ∀ x, x ≠ o → outEntry t x = outEntry s x
  record : ∀ x, x ≠ o → outRec t x = outRec s x
  boards : t.tables.boards = s.tables.boards
  sources : t.boards = s.boards

/-- The law holds of the others, so it holds where this output has no slot, or its slot on the board that it had. -/
theorem Staged.apart (h : Staged s) (k : ApartFrom o s t)
    (ho : (outRec t o).slot = none ∨ outRec t o = outRec s o ∧ ∀ b, o ∈ fansOn t b → o ∈ fansOn s b) : Staged t := by
  refine ⟨k.entries, k.nv ▸ h.stored, k.wf, fun b => (h.slots b).of_held k.entries fun x hx => ?_⟩
  obtain ⟨hf, hs⟩ := mem_slotHolders.1 hx
  have hxs : x ∈ fansOn s b ∧ outRec t x = outRec s x := by
    by_cases hxo : x = o
    · subst hxo
      rcases ho with hn | ⟨he, hb⟩
      · rw [hn] at hs
        cases hs
      · exact ⟨hb b hf, he⟩
    · rw [mem_fansOn, k.entry x hxo] at hf
      exact ⟨mem_fansOn.2 hf, k.record x hxo⟩
  rw [hxs.2] at hs
  exact ⟨mem_slotHolders.2 ⟨hxs.1, hs⟩, by rw [hxs.2], by simp only [boardEntry, boardOf, k.boards],
    by simp only [boardSource, k.sources]⟩

theorem ApartFrom.dequeue (k : ApartFrom o s t) : ApartFrom o s (dequeue o t) := { k with }

theorem ApartFrom.modOut (k : ApartFrom o s t) : ApartFrom o s (modOut o f t) :=
  { k with
    wf := outsWf_modOut k.wf
    record := fun x hx => (outRec_modOut_other hx).trans (k.record x hx) }

/-- The output's record is made one without a slot. -/
theorem Staged.remade (h : Staged s) (k : ApartFrom o s t) (hf : (f (outRec t o)).slot = none) : Staged (modOut o f t) :=
  h.apart k.modOut (.inl (by rw [outRec_modOut_same k.wf, hf]))

theorem putOutput_eq (o : Nat) (new : OutputEntry) (s : State) :
    putOutput o new s =
      if samePlace (outEntry s o) new then
        { s with tables := { s.tables with outputs := sput blankOutput o new s.tables.outputs } }
      else { setAct o .unknown s with
        tables := { s.tables with outputs := sput blankOutput o new s.tables.outputs } } := by
  have ht : (setAct o .unknown s).tables = s.tables := (work_setAct (.refl s)).tables
  unfold putOutput
  dsimp only
  split
  · rfl
  · rw [ht]

theorem apartFrom_putOutput {new : OutputEntry} (h : Staged s) : ApartFrom o s (putOutput o new s) := by
  have hk : Kept [o] s (setAct o .unknown s) := kept_setAct (.refl _ s) (.mem (List.mem_singleton_self o))
  have hb : (setAct o .unknown s).boards = s.boards := by
    unfold setAct
    dsimp only
    split
    · rfl
    · split <;> rfl
  rw [putOutput_eq]
  split
  · exact ⟨sparseWf_sput h.entries, rfl, h.wf, fun x hx => sget_sput_other hx, fun _ _ => rfl, rfl, rfl⟩
  · exact ⟨sparseWf_sput h.entries, (work_setAct (.refl s)).nv, hk.wf h.wf, fun x hx => sget_sput_other hx,
      fun x hx => outRec_setAct_other hx, rfl, hb⟩

theorem outEntry_putOutput_same {new : OutputEntry} (h : outputsWf s) : outEntry (putOutput o new s) o = new := by
  rw [putOutput_eq]
  split <;> exact sget_sput_same h

/-- R81, R99: the record against the entry as just written. -/
theorem staged_rebuildRecord {new : OutputEntry} (h : Staged s) :
    Staged (rebuildRecord o (outEntry s o) (putOutput o new s)) := by
  have k : ApartFrom o s (putOutput o new s) := apartFrom_putOutput h
  have hnew : outEntry (putOutput o new s) o = new := outEntry_putOutput_same h.entries
  have hslot : Staged (modOut o (fun r => { r with slot := none }) (putOutput o new s)) := h.remade k rfl
  unfold rebuildRecord
  rw [hnew]
  refine staged_ite (h.remade k.dequeue rfl) ?_
  split
  · refine staged_recomputeAll (h.remade k.dequeue ?_)
    simp only [rebuiltRecord, coldOutFor]
    split <;> rfl
  split
  · exact staged_ite (staged_returnToWait hslot) hslot
  · rename_i hc hl
    have hplace : samePlace (outEntry s o) new = true := by simpa using hc
    refine h.apart k (.inr ⟨by rw [putOutput_eq, if_pos hplace]; rfl, fun b hb => ?_⟩)
    rw [mem_fansOn, hnew] at hb
    obtain ⟨hfan, hb⟩ := hb
    simp only [samePlace, Bool.and_eq_true, beq_iff_eq] at hplace
    simp only [hfan, loadsChanged, Bool.true_and, Bool.or_eq_true, bne_iff_ne, not_or, not_not] at hl
    refine mem_fansOn.2 ⟨?_, hl.1.1.1.1.trans hb⟩
    simpa only [isFan, isFanSingle, isFanTwo, hplace.1.1] using hfan

theorem staged_outputWritten {new : OutputEntry} (h : Staged s) : Staged (outputWritten o new s) := by
  have hw : Staged (onOutput o (fun u => rebuildRecord o (outEntry s o) (putOutput o new u)) s) :=
    staged_onOutput (staged_rebuildRecord h)
  exact staged_foldl (fun _ hv => staged_examineAndWarn hv) (staged_ite (staged_recomputeAll hw) hw)

/-! ### Starts -/

/-- With no slot taken the tables and sources may be any. -/
theorem staged_of_no_slots (he : outputsWf s) (hn : sparseWf blankOutput s.nv.outputs = true) (hw : outsWf s)
    (h : ∀ o, (outRec s o).slot = none) : Staged s := by
  refine ⟨he, hn, hw, fun b => ?_⟩
  have hs : slotHolders s b = [] := List.filter_eq_nil_iff.2 fun o _ => by simp [h o]
  simp [BoardSlotsOk, hs]

theorem coldOutFor_slot (e : OutputEntry) : (coldOutFor e).slot = none := by
  unfold coldOutFor
  split <;> rfl

theorem outputsWf_readTables (bad : List EntryRef) (h : sparseWf blankOutput s.nv.outputs = true) :
    outputsWf (readTables bad s) :=
  List.foldlRecOn (motive := fun tb : Tables => sparseWf blankOutput tb.outputs = true) bad _ h fun _ ht _ _ =>
    outputs_putEntry ht

/-- R176: no record that a read leaves holds a slot. -/
theorem staged_readTables {bad : List EntryRef} (h : sparseWf blankOutput s.nv.outputs = true) :
    Staged (readTables bad s) := by
  have hw := outputsWf_readTables bad h
  refine staged_of_no_slots hw h (sparseWf_coldOuts (readTables bad s) hw) fun o => ?_
  rcases sget_mem coldOut (readTables bad s).outs o with e | ⟨p, hp, -, e⟩
  · rw [outRec, e]
    rfl
  · obtain ⟨x, -, rfl⟩ := List.mem_map.1 hp
    rw [outRec, ← e]
    exact coldOutFor_slot _

/-! ### The statement -/

/-- R90: the law lasts. -/
theorem lasting_staged : Lasting Staged where
  of_eq h ho ht hb hn hs := h.of_eq ho ht hb hn hs
  entries h := h.entries
  engage _ _ h := staged_modOut h
  layers hw _ h := staged_changeLayers hw h
  send _ _ _ h := staged_onOutput (staged_setAct (staged_modOut (staged_setQueue h)))
  exchange _ _ h := staged_exchangeEnded h
  expired _ h := staged_proofExpired h
  reading _ _ h := staged_takeReading h
  unusable _ h := staged_takeUnusable h
  lost _ h := staged_outputLost h
  returned _ h := staged_outputReturned h
  replaced _ h := staged_replaceQueued h
  reasserted _ h := staged_reassertOutput h
  reset _ h := staged_onOutput (staged_newAttempt h)
  warned _ h := staged_warnHeld h
  source _ _ h := staged_sourceChange h
  stored _ _ h := { h with stored := outputs_putEntry h.stored }
  output _ _ h := staged_outputWritten h
  board _ _ h := staged_boardWritten h
  blank h := staged_of_no_slots h.entries h.stored rfl fun _ => rfl
  read _ h := staged_readTables h.stored
  tick h := h.of_slots (outsWf_tickTimers h.wf) (fun x => .of_eq (by rw [outRec_tickTimers])) rfl rfl rfl rfl

/-- Settles O11: the law lasts (lasting_staged), so every step keeps it. -/
theorem startSlotsStayWithinTheBoard : Obligations.StartSlotsStayWithinTheBoard := by
  intro s t hc hs he
  exact (step_lasts lasting_staged ⟨hc.tables.outputs, hc.nv.outputs, hc.outs, hs⟩ he).slots

end Sys2Proof.Machine
end

section
/-! A SUPPLY_STATE (O52): ignored, repeated or a change of source, and what the return of a board's fans makes of their records. -/

namespace Sys2Proof.Machine

-- Elaborated one after another: the check bounds Lean's threads.
set_option Elab.async false

variable {s : State} {o x b n : Nat} {src : BoardSource}

/-! ### The frame (R94) -/

theorem reportedSource_iff : reportedSource n = some src ↔ boardSourceCode src = n ∧ (n = 1 ∨ n = 2 ∨ n = 3) := by
  constructor
  · intro h
    unfold reportedSource at h
    split at h <;> cases h <;> simp [boardSourceCode]
  · rintro ⟨hs, rfl | rfl | rfl⟩ <;> cases src <;> cases hs <;> rfl

theorem raise_supplyChange (b n : Nat) (s : State) : raise .supplyChange b n s = recordEntry .supplyChange b n s := by
  simp [raise, report, isCritical]

/-- R94: what has a SUPPLY_STATE ignored. -/
def supplyIgnored (b source : Nat) (s : State) : Prop :=
  s.mode = .start ∨ b = 0 ∨ 8 < b ∨ fansOn s b = [] ∨ (source ≠ 1 ∧ source ≠ 2 ∧ source ≠ 3)

/-- R94: an ignored SUPPLY_STATE is entered with a free detail. -/
theorem supplyStateTaken_ignored (h : supplyIgnored b n s) :
    ∃ detail m : Nat, supplyStateTaken b n s = recordEntry .unmappedInput b detail { s with free := m } := by
  have hu : unmappedOpen (some b) none s =
      recordEntry .unmappedInput b (Config.unstatedField (s.free + 1) % 65536) { s with free := s.free + 2 } :=
    unmapped_eq b _ _
  refine ⟨_, _, Eq.trans ?_ hu⟩
  unfold supplyStateTaken
  split
  · rename_i src hs
    refine if_neg fun ⟨hm, hlo, hhi, hf⟩ => ?_
    obtain ⟨-, hn⟩ := reportedSource_iff.1 hs
    rcases h with h | h | h | h | h
    · exact hm h
    · omega
    · omega
    · simp [h] at hf
    · omega
  · rfl

/-- R94, R95: a SUPPLY_STATE that is taken repeats the source or changes it. -/
theorem supplyStateTaken_taken (h : ¬ supplyIgnored b n s) (hs : boardSourceCode src = n) :
    supplyStateTaken b n s = if src = boardSource s b then s else sourceChange b src s := by
  simp only [supplyIgnored, not_or] at h
  obtain ⟨hm, hlo, hhi, hf, hn⟩ := h
  have hr : reportedSource n = some src := reportedSource_iff.2 ⟨hs, by omega⟩
  unfold supplyStateTaken
  rw [hr]
  exact if_pos ⟨hm, by omega, by omega, by simpa using hf⟩

theorem exec_supplyState (ha : awake s = true) (b n : Nat) :
    exec (.supplyState b n) s = .next (endStep (supplyStateTaken b n s)) :=
  acting_awake (work := fun s => endStep (supplyStateTaken b n s)) ha

/-! ### The return to WAIT_START (R95, steps 2 and 3) -/

theorem outsWf_dequeue (hw : outsWf s) : outsWf (dequeue o s) := hw

/-- R95, step 3: the record of a fan that is returned at this uptime. -/
def returnedRecord (now : Nat) (r : OutRec) : OutRec :=
  { r with
    act := .waitStart, retried := false, busy := 0, origin := none, timer := none, clean := false,
    joinTime := some (r.joinTime.getD now), waitOpen := true }

theorem outRec_returnToWait (hw : outsWf s) (x : Nat) :
    outRec (returnToWait o s) x = if x = o then returnedRecord s.uptime (outRec s x) else outRec s x := by
  unfold returnToWait
  split
  · rename_i e
    subst e
    rw [outRec_setAct (outsWf_dequeue (outsWf_modOut hw)), outRec_dequeue, outRec_modOut_same hw]
    rfl
  · rename_i hx
    rw [outRec_setAct_other hx, outRec_dequeue, outRec_modOut_other hx]

/-- Fans that differ are returned each on its own, at the same uptime. -/
theorem outRec_foldl_returnToWait {os : List Nat} (hn : os.Nodup) (hw : outsWf s) (x : Nat) :
    outRec (os.foldl (fun t f => returnToWait f t) s) x =
      if x ∈ os then returnedRecord s.uptime (outRec s x) else outRec s x := by
  induction os generalizing s with
  | nil => simp
  | cons o os ih =>
    obtain ⟨ho, hn⟩ := List.nodup_cons.1 hn
    rw [List.foldl_cons, ih hn (kept_returnToWait.wf hw), outRec_returnToWait hw,
      (work_returnToWait (f := o) (.refl s)).uptime]
    by_cases hx : x = o
    · subst hx
      simp [ho]
    · simp [hx]

theorem returnable_iff (r : OutRec) :
    returnable r = true ↔ (r.resolved = some .low ∨ r.resolved = some .high) ∧
      (r.act = .queued ∨ r.act = .sent ∨ r.act = .starting ∨ r.act = .settled) := by
  simp [returnable, or_assoc]

/-- R95: the record of each output after the board's slots are released and its fans returned. -/
theorem outRec_restageBoard (he : outputsWf s) (hw : outsWf s) (b o : Nat) :
    outRec (restageBoard b s) o =
      if o ∉ fansOn s b then outRec s o
      else if returnable (outRec s o) then { returnedRecord s.uptime (outRec s o) with slot := none }
      else { outRec s o with slot := none } := by
  have hup : (slotsReleased b s).uptime = s.uptime := by
    obtain ⟨m, hm⟩ := slotsReleased_eq b s
    rw [hm]
  rw [restageBoard_eq, outRec_foldl_returnToWait ((fansOn_nodup he).filter _) (outsWf_slotsReleased hw b),
    outRec_slotsReleased he hw, hup]
  by_cases ho : o ∈ fansOn s b <;> by_cases hr : returnable (outRec s o) = true <;> simp [ho, hr, returnedRecord]

/-! ### The statement -/

/-- Settles O52: the frame by its cases, and the return record by record. -/
theorem sourceChangeRestagesTheBoard : Obligations.SourceChangeRestagesTheBoard := by
  refine ⟨fun b source s ha => ⟨fun hi => ?_, fun hi src hs => ?_⟩, fun b s hc o => ?_⟩
  · obtain ⟨detail, m, he⟩ := supplyStateTaken_ignored hi
    exact ⟨detail, m, by rw [exec_supplyState ha, he]⟩
  · rw [exec_supplyState ha, supplyStateTaken_taken hi hs, sourceChange, raise_supplyChange, hs]
    rfl
  · simp only [outRec_restageBoard hc.tables.outputs hc.outs, returnable_iff]
    rfl

end Sys2Proof.Machine
end

section
/-! The wait list of a board, its examination and its warnings (O53). -/

namespace Sys2Proof.Machine

-- Elaborated one after another: the check bounds Lean's threads.
set_option Elab.async false

variable {s : State} {o b f : Nat} {c : Cmd}

/-! ### Admission order (R89) -/

/-- R57: the class of a fan is its highest layer that is not NONE. -/
theorem fanClass_eq (r : OutRec) :
    fanClass r =
      if r.ff ≠ none then 1 else if r.fire ≠ none then 2 else if r.safe ≠ none then 3 else if r.bld ≠ none then 4 else 0 := by
  simp only [fanClass, Option.isSome_iff_ne_none]

/-- The join time by which a fan waits, 0 where there is none. -/
def joinedAt (s : State) (f : Nat) : Nat := (outRec s f).joinTime.getD 0

theorem waitsBefore_iff (x y : Nat) :
    waitsBefore s x y = true ↔
      fanClass (outRec s x) < fanClass (outRec s y) ∨
        (fanClass (outRec s x) = fanClass (outRec s y) ∧
          (joinedAt s x < joinedAt s y ∨ (joinedAt s x = joinedAt s y ∧ x < y))) := by
  simp [waitsBefore, joinedAt]

theorem waitsBefore_trans (x y z : Nat) (hxy : waitsBefore s x y = true) (hyz : waitsBefore s y z = true) :
    waitsBefore s x z = true := by
  rw [waitsBefore_iff] at *
  omega

theorem waitsBefore_total (x y : Nat) (h : x ≠ y) : waitsBefore s x y = true ∨ waitsBefore s y x = true := by
  rw [waitsBefore_iff, waitsBefore_iff]
  omega

theorem waitList_pairwise (he : outputsWf s) (b : Nat) :
    (waitList s b).Pairwise (fun x y => waitsBefore s x y = true) :=
  sortBy_pairwise waitsBefore_trans waitsBefore_total ((fansOn_nodup he).filter _)

/-! ### Contributions and demands (R86 to R88) -/

theorem contribution_eq (e : OutputEntry) (r : OutRec) :
    contribution e r =
      match r.slot with
      | some ⟨demand, _⟩ => demand
      | none =>
        if r.unusable then 0
        else match r.view with
          | .fan .low _ _ => e.runLow
          | .fan .high _ _ => e.runHigh
          | _ => 0 := by
  unfold contribution
  cases r.slot with
  | some sl => rfl
  | none =>
    cases r.view with
    | fan speed trip localFlag => cases speed <;> rfl
    | none | atOpen | atClosed | travel | conflict => rfl

theorem startDemand_fan (e : OutputEntry) (speed : Speed) (trip localFlag : Bool) (c : Cmd) :
    startDemand e (.fan speed trip localFlag) c =
      match speed, c with
      | .stopped, _ => e.startLoad
      | .low, .high => e.runLow + e.stepLoad
      | .low, _ => e.runLow
      | .high, _ => e.runHigh := by
  cases speed with
  | stopped | high => rfl
  | low => cases c <;> rfl

/-! ### Examination (R90) -/

/-- R92, R97: the fan with its slot. -/
def withSlot (f : Nat) (c : Cmd) (s : State) : State :=
  modOut f (fun r => { r with
    slot := some ⟨startDemand (outEntry s f) (outRec s f).view c, .needed⟩, heldWarned := false, waitOpen := false }) s

/-- R73, R92: an admitted fan settles where its view agrees, and else joins the command queue. -/
theorem admitFan_placed (hc : (outRec s f).resolved = some c) :
    admitFan f s =
      if (outRec s f).valid = true ∧ viewAgrees (outRec s f).view c = true then settleRecord f (withSlot f c s)
      else enqueue f c (withSlot f c s) := by
  unfold admitFan
  rw [hc]
  simp only [agrees, Bool.and_eq_true]
  rfl

theorem act_admitFan (hw : outsWf s) (hc : (outRec s f).resolved = some c) :
    (outRec (admitFan f s) f).act ≠ .waitStart := by
  rw [outRec_admitFan hw hc, admittedRecord]
  split <;> exact fun h => nomatch h

/-- R90: an admission takes its fan off the wait list, and no other. -/
theorem waiting_admitFan (hw : outsWf s) (hc : (outRec s f).resolved = some c) (b : Nat) :
    (fansOn (admitFan f s) b).filter (fun x => (outRec (admitFan f s) x).act == .waitStart) =
      ((fansOn s b).filter (fun x => (outRec s x).act == .waitStart)).filter (fun x => x != f) := by
  have hf : fansOn (admitFan f s) b = fansOn s b := fansOn_congr (by rw [(alike_admitFan (.refl s)).tables]) b
  rw [hf, List.filter_filter]
  refine List.filter_congr fun x _ => ?_
  by_cases hx : x = f
  · subst hx
    simpa using act_admitFan hw hc
  · simp [outRec_admitFan_other hx, hx]

theorem waitList_perm (s : State) (b : Nat) :
    (waitList s b).Perm ((fansOn s b).filter (fun x => (outRec s x).act == .waitStart)) := sortBy_perm _

theorem length_waitList_admitFan (he : outputsWf s) (hw : outsWf s) (hm : f ∈ waitList s b)
    (hc : (outRec s f).resolved = some c) : (waitList (admitFan f s) b).length = (waitList s b).length - 1 := by
  have hn : ((fansOn s b).filter (fun x => (outRec s x).act == .waitStart)).Nodup := (fansOn_nodup he).filter _
  rw [(waitList_perm _ b).length_eq, waiting_admitFan hw hc, ← hn.erase_eq_filter,
    List.length_erase_of_mem ((waitList_perm s b).mem_iff.1 hm), (waitList_perm s b).length_eq]

theorem examine_nil (h : waitList s b = []) : examine b s = s := by
  rw [examine, h]
  rfl

/-- R90: a head that is not admitted stops the examination. -/
theorem examine_refused {rest : List Nat} (hl : waitList s b = f :: rest) (ha : admissible s b f = false) :
    examine b s = s := by
  rw [examine, hl, List.length_cons, examineTimes, hl]
  simp [ha]

/-- R90: an admission is followed by the test of the next head. -/
theorem examine_admitted (he : outputsWf s) (hw : outsWf s) {rest : List Nat} (hl : waitList s b = f :: rest)
    (ha : admissible s b f = true) : examine b s = examine b (admitFan f s) := by
  obtain ⟨c, hc⟩ := exists_resolved_of_admissible ha
  have hlen : (waitList (admitFan f s) b).length = rest.length := by
    rw [length_waitList_admitFan he hw (hl ▸ List.mem_cons_self) hc, hl]
    rfl
  rw [examine, examine, hlen, hl, List.length_cons, examineTimes, hl]
  simp [ha]

/-! ### Long waits (R98) -/

theorem warnDue_iff (s : State) (f : Nat) :
    warnDue s f = true ↔
      (isFan (outEntry s f) = true ∧ (outRec s f).act = .waitStart ∧ (outRec s f).heldWarned = false) ∧
        (boardEntry s (outEntry s f).board).holdWarn < secondsSince s ((outRec s f).joinTime.getD s.uptime) := by
  simp [warnDue, and_assoc]

theorem exec_startHeld (ha : awake s = true) (f : Nat) : exec (.startHeld f) s = .next (warnHeld f s) :=
  acting_awake (work := warnHeld f) ha

/-! ### The statement -/

/-- Settles O53, part by part: the wait list, the start demand, the examination and the warning. -/
theorem headOfTheWaitListIsAdmittedFirst : Obligations.HeadOfTheWaitListIsAdmittedFirst := by
  refine ⟨fun b s hc => ⟨fun f => fanClass_eq _, fun f => ?_, ?_, ?_⟩, startDemand_fan, fun b s hc =>
    ⟨examine_nil, fun f rest c hl hr => ?_⟩, fun f s ha => ?_⟩
  · simp only [mem_waitList, fansOn, fans, List.mem_filter, beq_iff_eq, and_assoc]
  · refine (waitList_pairwise hc.tables.outputs b).imp fun h => ?_
    rw [waitsBefore_iff, fanClass_eq, fanClass_eq] at h
    exact h
  · rfl
  · have hadm := admissible_iff (b := b) hr
    simp only [contributions, contribution_eq] at hadm
    dsimp only
    refine ⟨fun hn => examine_refused hl ?_, fun h => ?_⟩
    · exact Bool.eq_false_iff.2 fun h => hn (hadm.1 h)
    · rw [examine_admitted hc.tables.outputs hc.outs hl (hadm.2 h), admitFan_placed hr]
      rfl
  · rw [exec_startHeld ha]
    refine congrArg _ ?_
    unfold warnHeld
    by_cases hd : warnDue s f = true
    · exact (if_pos hd).trans (if_pos ((warnDue_iff s f).1 hd)).symm
    · exact (if_neg hd).trans (if_neg (mt (warnDue_iff s f).2 hd)).symm

end Sys2Proof.Machine
end

section
/-! The extract account, the deficit test, the engagement step and the Monitor's notices (O41). -/

namespace Sys2Proof.Machine

-- Elaborated one after another: the check bounds Lean's threads.
set_option Elab.async false

variable {s : State} {z n m : Nat} {w : Watch}

/-! ### Proven extract and extract sum (R105, R106) -/

theorem provenExtract_invalid {r : OutRec} (h : r.valid = false) (e : OutputEntry) : provenExtract e r = 0 := by
  simp [provenExtract, h]

/-- R105: what a fan at this speed moves. -/
def extractAt (e : OutputEntry) : Speed → Nat
  | .stopped => 0
  | .low => e.extractHigh * e.low16 / 16
  | .high => e.extractHigh

theorem provenExtract_fan {r : OutRec} {speed : Speed} {trip localFlag : Bool} (h : r.valid = true)
    (hv : r.view = .fan speed trip localFlag) (e : OutputEntry) :
    provenExtract e r = if trip then 0 else extractAt e speed := by
  simp only [provenExtract, h, hv, viewTrip, viewSpeed, Bool.not_true, Bool.false_or]
  cases speed <;> rfl

/-- 12.6: an empty place of a list field lists no output. -/
theorem contains_listed (xs : List Nat) (x : Nat) : (listed xs).contains x = (x != 0 && xs.contains x) := by
  rw [Bool.eq_iff_iff]
  simp [listed, and_comm]

/-- R106: the engaged-as record has the fan counted for the zone. -/
def countedAs (s : State) (z : Nat) : Engaged → Bool
  | .standbyFor d => d != 0 && (zoneEntry s z).extract.contains d
  | .reserveFor x => x == z
  | .none => false

theorem counts_eq (s : State) (z f : Nat) :
    counts s z f = ((f != 0 && (zoneEntry s z).extract.contains f) || countedAs s z (outRec s f).engaged) := by
  simp only [counts, contains_listed]
  cases (outRec s f).engaged <;> rfl

/-! ### The watches -/

theorem watchOf_zone (h : watchOf s z = some w) : w.zone = z := by
  simpa using List.find?_some h

/-- A change of a zone's watches that keeps their zone is seen in the zone's watch. -/
theorem watchOf_modWatch {g : Watch → Watch} (h : watchOf s z = some w) (hg : ∀ x, (g x).zone = x.zone) :
    watchOf (modWatch z g s) z = some (g w) := by
  have hp : (fun x : Watch => x.zone == z) ∘ (fun x => if x.zone == z then g x else x) = fun x => x.zone == z := by
    funext x
    simp only [Function.comp_apply]
    split
    · rw [hg]
    · rfl
  rw [watchOf] at h ⊢
  rw [modWatch, setWatches_watches, List.find?_map, hp, h, Option.map_some, if_pos (List.find?_some h)]

theorem watchOf_congr {t : State} (h : t.watches = s.watches) (z : Nat) : watchOf t z = watchOf s z := by
  simp only [watchOf, h]

/-! ### The deficit test (R107, R108, R111) -/

/-- R160: EXTRACT_RESTORED is ADVISORY. -/
theorem deficitEnds_eq (z : Nat) (s : State) :
    deficitEnds z s = recordEntry .extractRestored z (extractSum s z)
      (modWatch z (fun x => { x with deficit := false, exhausted := false }) s) := rfl

theorem deficitBegins_eq (h : w.zone = z) (s : State) :
    deficitBegins w s =
      let t := raise .extractDeficit z (w.requirement - extractSum s z)
        (modWatch z (fun x => { x with deficit := true, exhausted := false, cursor := 1 }) s)
      if w.pending = none then engagementStep z t else t := by
  subst h
  simp only [deficitBegins, Option.isNone_iff_eq_none]

theorem deficitTest_eq (h : watchOf s z = some w) :
    deficitTest z s =
      if w.watching = false then s
      else if w.deficit = true then (if w.requirement ≤ extractSum s z then deficitEnds z s else s)
      else if extractSum s z < w.requirement then deficitBegins w s
      else s := by
  simp only [deficitTest, h, Bool.not_eq_true']

/-! ### The engagement step (R109) -/

/-- R109: the place under the cursor is asked for: the cursor moves on, and the answer will lead to a test of the zone. -/
def asked (z : Nat) (s : State) : State :=
  tellMonitor (.testZone z) (modWatch z (fun x => { x with cursor := x.cursor + 1 }) s)

/-- R109: one position of an engagement step that has `n` more. -/
theorem engageTimes_succ (h : watchOf s z = some w) (n : Nat) :
    engageTimes (n + 1) z s =
      let f := reserveAt s w
      let u := engageReserve f z (asked z s)
      if f = 0 then exhaust w s
      else if reserveAllowed s f z = false then engageTimes n z (asked z s)
      else if (outRec u f).act ≠ .settled ∧ (outRec u f).act ≠ .fault then
        modWatch z (fun x => { x with pending := some f }) u
      else if w.requirement ≤ extractSum u z then deficitEnds z u
      else engageTimes n z u := by
  simp only [engageTimes, h, Bool.not_eq_true']
  rfl

theorem watchOf_asked (h : watchOf s z = some w) : watchOf (asked z s) z = some { w with cursor := w.cursor + 1 } :=
  watchOf_modWatch h fun _ => rfl

theorem still_engageReserve (f z : Nat) (s : State) : Still s (engageReserve f z s) :=
  ((still_writeFire f _ s).trans (still_modOut f _ _)).trans (captures_raise _ _ _ _).still

theorem watchOf_engageReserve (f x : Nat) (s : State) : watchOf (engageReserve f x s) z = watchOf s z :=
  watchOf_congr (still_engageReserve f x s).watches z

theorem zoneEntry_engageReserve (f x : Nat) (s : State) : zoneEntry (engageReserve f x s) z = zoneEntry s z := by
  simp only [zoneEntry, (still_engageReserve f x s).tables]

theorem cursor_le_of_reserveAt (hz : w.zone = z) (hr : (zoneEntry s z).reserve.length ≤ 4) (h : reserveAt s w ≠ 0) :
    w.cursor ≤ 4 := by
  by_contra hc
  refine h (List.getD_eq_default _ _ ?_)
  rw [hz]
  omega

/-- R109: a list of 4 places is worked to its end in as many positions as the cursor leaves, and one to find the end; any
more change nothing. -/
theorem engageTimes_enough (h : watchOf s z = some w) (hr : (zoneEntry s z).reserve.length ≤ 4)
    (hn : 5 ≤ w.cursor + n) (hm : 5 ≤ w.cursor + m) : engageTimes (n + 1) z s = engageTimes (m + 1) z s := by
  induction n generalizing s w m with
  | zero =>
    have hf : reserveAt s w = 0 := by
      by_contra hf
      have := cursor_le_of_reserveAt (watchOf_zone h) hr hf
      omega
    simp only [engageTimes_succ h, hf, if_true]
  | succ n ih =>
    rw [engageTimes_succ h, engageTimes_succ h]
    by_cases hf : reserveAt s w = 0
    · simp only [hf, if_true]
    have hc := cursor_le_of_reserveAt (watchOf_zone h) hr hf
    obtain ⟨m, rfl⟩ : ∃ k, m = k + 1 := ⟨m - 1, by omega⟩
    have ht := watchOf_asked h
    have hu := (watchOf_engageReserve (reserveAt s w) z (asked z s)).trans ht
    have hru : (zoneEntry (engageReserve (reserveAt s w) z (asked z s)) z).reserve.length ≤ 4 := by
      rw [zoneEntry_engageReserve]
      exact hr
    have hn : 5 ≤ w.cursor + 1 + n := by omega
    have hm : 5 ≤ w.cursor + 1 + m := by omega
    simp only [ih ht hr hn hm, ih hu hru hn hm]

/-- R109: an engagement step from a place of the list. -/
theorem engagementStep_eq (h : watchOf s z = some w) (hc : 1 ≤ w.cursor)
    (hr : (zoneEntry s z).reserve.length ≤ 4) :
    engagementStep z s =
      let f := reserveAt s w
      let u := engageReserve f z (asked z s)
      if f = 0 then exhaust w s
      else if reserveAllowed s f z = false then engagementStep z (asked z s)
      else if (outRec u f).act ≠ .settled ∧ (outRec u f).act ≠ .fault then
        modWatch z (fun x => { x with pending := some f }) u
      else if w.requirement ≤ extractSum u z then deficitEnds z u
      else engagementStep z u := by
  have hmore : engagementStep z s = engageTimes 6 z s := engageTimes_enough h hr (by omega) (by omega)
  rw [hmore]
  exact engageTimes_succ h 5

/-! ### The notices (R104, R107, R110) -/

/-- R110: what the end of its pending reserve leads to for a watch. -/
theorem reserveSettled_eq {f : Nat} (h : s.watches.find? (fun x => x.pending == some f) = some w) :
    reserveSettled f s =
      let t := modWatch w.zone (fun x => { x with pending := none }) s
      if w.deficit = true ∧ w.exhausted = false then
        if w.requirement ≤ extractSum t w.zone then deficitEnds w.zone t else engagementStep w.zone t
      else t := by
  simp only [reserveSettled, h, Bool.and_eq_true, Bool.not_eq_true']

/-! ### The statement -/

/-- Settles O41, part by part: the account, the deficit test, the engagement step and the notices. -/
theorem extractIsCountedAndTested : Obligations.ExtractIsCountedAndTested := by
  refine ⟨fun e r => ⟨fun h => provenExtract_invalid h e, fun _ _ _ h hv => ?_⟩,
    fun s z => ?_, fun z w s h => ?_, fun z w s h hc hr => ?_, fun s => ?_, fun f s => ?_, fun z s => rfl, fun f s => ?_⟩
  · rw [provenExtract_fan h hv]
    rfl
  · rw [extractSum, List.sum, List.foldr_map]
    exact congrArg (List.foldr _ 0) (List.filter_congr fun f _ => counts_eq s z f)
  · rw [deficitTest_eq h, deficitEnds_eq, deficitBegins_eq (watchOf_zone h)]
    rfl
  · have hz : w.zone = z := watchOf_zone h
    rw [engagementStep_eq h hc hr]
    subst hz
    rfl
  · simp only [takeMonitor, startWatching, beq_false]
    rfl
  · have hc := funext fun z => counts_eq s z f
    simp only [takeMonitor, hc]
    rfl
  · cases h : s.watches.find? (fun w => w.pending == some f) with
    | none => simp only [takeMonitor, reserveSettled, h]
    | some w => exact reserveSettled_eq h

end Sys2Proof.Machine
end

section
/-! The Firefighter Control Unit: the FF entry of an output (O43), its panel's frames and loss (O44), and the switch entries
of a frame (O45). -/

namespace Sys2Proof.Machine

-- Elaborated one after another: the check bounds Lean's threads.
set_option Elab.async false

variable {s t : State} {o n p : Nat}

/-! ### The FF entry of an output (R118) -/

theorem composeFf_of_switched (h : outputSwitch s o ≠ .auto) : composeFf s o = switchCommand (outputSwitch s o) :=
  if_pos h

theorem composeFf_of_auto (h : outputSwitch s o = .auto) :
    composeFf s o =
      if isFan (outEntry s o) = true ∧ o ∈ s.ff.marks then some .stop
      else if (outEntry s o).zone = 0 then none
      else zoneCommand (outEntry s o) (zoneSwitch s (outEntry s o).zone) := by
  simp [composeFf, h]

/-- Settles O43, by the position of the output's switch, and at AUTO by that of its zone's switch. -/
theorem firefighterEntryIsComposed : Obligations.FirefighterEntryIsComposed := by
  intro s o e sw
  cases h : sw with
  | auto =>
    rw [composeFf_of_auto h]
    refine if_congr Iff.rfl rfl (if_congr Iff.rfl rfl ?_)
    change zoneCommand e (zoneSwitch s e.zone) = _
    rw [zoneSwitch]
    cases sget .auto s.ff.zoneSwitches e.zone with
    | auto | off => rfl
    | extract => simp only [zoneCommand, Bool.or_eq_true, beq_iff_eq]
  | opn | cls | off | low | on =>
    have hs : outputSwitch s o = _ := h
    rw [composeFf_of_switched (by simp [hs]), hs]
    rfl

/-! ### The events of the unit (R126) -/

/-- R126: the events of the Firefighter Control Unit. -/
def isFfEvent : Ev → Bool
  | .ffAllstopOn | .ffAllstopOff | .ffLost | .ffRestored => true
  | _ => false

/-- R126, R160: they are ADVISORY, and do no more than make their entry. -/
theorem raise_ffEvent {ev : Ev} (h : isFfEvent ev = true) (a b : Nat) (s : State) :
    raise ev a b s = recordEntry ev a b s := by
  cases ev with
  | ffAllstopOn | ffAllstopOff | ffLost | ffRestored => rfl
  | _ => cases h

/-! ### Supervision (R123, R124) -/

/-- R123: the panel is PRESENT, and the timer is started at the supervision time of the link record. -/
def panelHeard (s : State) : State :=
  setFf (fun f =>
    { f with
      panel := .present, lostStamp := none, timer := some s.tables.link.supervision,
      supervision := s.tables.link.supervision }) s

theorem superviseFrame_present (h : s.ff.panel = .present) : superviseFrame s = panelHeard s := by
  rw [superviseFrame, h]
  rfl

theorem superviseFrame_unknown (h : s.ff.panel = .unknown) :
    superviseFrame s = recordEntry .ffRestored 0 0 (panelHeard s) := by
  rw [superviseFrame, h]
  exact raise_ffEvent rfl _ _ _

theorem superviseFrame_lost (h : s.ff.panel = .lost) :
    superviseFrame s =
      recordEntry .ffRestored 0 (capWord (secondsSince s (s.ff.lostStamp.getD s.uptime))) (panelHeard s) := by
  rw [superviseFrame, h]
  exact raise_ffEvent rfl _ _ _

/-- R123: supervision leaves the ALL-STOP state and the marks. -/
theorem superviseFrame_allStop_marks (s : State) :
    (superviseFrame s).ff.allStop = s.ff.allStop ∧ (superviseFrame s).ff.marks = s.ff.marks := by
  cases h : s.ff.panel with
  | present => rw [superviseFrame_present h]; exact ⟨rfl, rfl⟩
  | unknown => rw [superviseFrame_unknown h]; exact ⟨rfl, rfl⟩
  | lost => rw [superviseFrame_lost h]; exact ⟨rfl, rfl⟩

/-- R124: the panel is LOST from now, and the rest of the image stands. -/
theorem panelLost_eq (s : State) :
    panelLost s = recordEntry .ffLost 0 s.ff.supervision
      { s with ff := { s.ff with panel := .lost, lostStamp := some s.uptime, timer := none } } :=
  raise_ffEvent rfl _ _ _

theorem exec_supervisionTimerExpiry (ha : awake s = true) :
    exec .supervisionTimerExpiry s = .next (if s.ff.timer = some 0 then panelLost s else s) :=
  acting_awake (work := fun s => if s.ff.timer = some 0 then panelLost s else s) ha

/-- R116, R123: what a frame's arrival makes of the supervision, by the station that it comes from. -/
def frameSupervised (src : Nat) (s : State) : State :=
  if src = s.tables.link.ffPanel then superviseFrame s else s

theorem work_frameSupervised (src : Nat) (s : State) : Work s (frameSupervised src s) := by
  unfold frameSupervised
  split
  · exact work_superviseFrame (.refl s)
  · exact .refl s

theorem frameSupervised_allStop_marks (src : Nat) (s : State) :
    (frameSupervised src s).ff.allStop = s.ff.allStop ∧ (frameSupervised src s).ff.marks = s.ff.marks := by
  unfold frameSupervised
  split
  · exact superviseFrame_allStop_marks s
  · exact ⟨rfl, rfl⟩

/-! ### The ALL-STOP edge (R120, R122) -/

theorem fans_congr (h : t.tables = s.tables) : fans t = fans s := by
  simp only [fans, configured, outEntry, h]

/-- R120, R122: a repeat changes nothing, and an edge sets or removes the marks and is reported with their number. -/
theorem takeAllStop_eq (active : Bool) (s : State) :
    takeAllStop active s =
      if active = s.ff.allStop then s
      else if active then
        recordEntry .ffAllstopOn 0 (fans s).length { s with ff := { s.ff with allStop := true, marks := fans s } }
      else recordEntry .ffAllstopOff 0 s.ff.marks.length { s with ff := { s.ff with allStop := false, marks := [] } } := by
  simp only [takeAllStop, raise_ffEvent (ev := .ffAllstopOn) rfl, raise_ffEvent (ev := .ffAllstopOff) rfl]
  rfl

/-! ### The frame (R116) -/

/-- The ALL-STOP position ACTIVE, as a byte and as its number. -/
theorem toNat_beq_one (a : Byte) : (a.toNat == 1) = (a == 1#8) := by
  rw [Bool.eq_iff_iff, beq_iff_eq, beq_iff_eq]
  exact BitVec.toNat_inj (y := 1#8)

theorem exec_ffState (ha : awake s = true) (src : Nat) (payload : List Byte) :
    exec (.ffState src payload) s = .next (endStep (takeFfContent payload (frameSupervised src s))) :=
  acting_awake (work := fun s => endStep (ffStateTaken src payload s)) ha

/-- Settles O44: supervision by the panel's state, the edge by the ALL-STOP state, and the content by the payload; then the
expiry. -/
theorem firefighterFramesAndLossAreTaken : Obligations.FirefighterFramesAndLossAreTaken := by
  intro src payload s ha heard u edge given
  have hu : frameSupervised src s = u := by
    by_cases hsrc : src = s.tables.link.ffPanel
    · refine (if_pos hsrc).trans (Eq.trans ?_ (if_neg (not_not.2 hsrc)).symm)
      cases h : s.ff.panel with
      | present => exact superviseFrame_present h
      | unknown => exact superviseFrame_unknown h
      | lost => exact superviseFrame_lost h
    · exact (if_neg hsrc).trans (if_pos hsrc).symm
  have hw : Work s u := hu ▸ work_frameSupervised src s
  obtain ⟨hall, hmarks⟩ : u.ff.allStop = s.ff.allStop ∧ u.ff.marks = s.ff.marks :=
    hu ▸ frameSupervised_allStop_marks src s
  have hedge (active : Bool) : takeAllStop active u = edge active := by
    rw [takeAllStop_eq, hall, hmarks, fans_congr hw.tables]
  refine ⟨?_, ?_⟩
  · rw [exec_ffState ha, hu]
    cases payload with
    | nil => simp only [takeFfContent, unmapped_eq]
    | cons a entries =>
      simp only [takeFfContent, unmapped_eq, hw.mode, toNat_beq_one, hedge]
      rfl
  · rw [exec_supervisionTimerExpiry ha, panelLost_eq]

/-! ### The switch entries (R117, R121) -/

theorem takeSwitch_zone_of_some {q : ZoneSwitch} (h : zoneSwitchOf p = some q) :
    takeSwitch 1 n p s =
      if n = 0 ∨ 32 < n then recordEntry .unmappedInput n p s else takeZoneSwitch n q s := by
  simp only [takeSwitch, h, unmapped_eq, if_true]
  by_cases hn : 1 ≤ n ∧ n ≤ 32
  · rw [if_pos hn, if_neg (by omega)]
  · rw [if_neg hn, if_pos (by omega)]

theorem takeSwitch_zone_of_none (h : zoneSwitchOf p = none) : takeSwitch 1 n p s = recordEntry .unmappedInput n p s := by
  simp only [takeSwitch, h, unmapped_eq, if_true]

theorem takeSwitch_output_of_some {q : OutputSwitch} (h : outputSwitchOf p = some q) :
    takeSwitch 2 n p s =
      if n = 0 ∨ 160 < n ∨ fitsSwitch (outEntry s n) q = false then recordEntry .unmappedInput n p s
      else takeOutputSwitch n q s := by
  have hc : (fitsSwitch (outEntry s n) q && decide (1 ≤ n) && decide (n ≤ 160)) = true ↔
      ¬ (n = 0 ∨ 160 < n ∨ fitsSwitch (outEntry s n) q = false) := by
    cases fitsSwitch (outEntry s n) q with
    | false => simp
    | true =>
      simp only [Bool.true_and, Bool.and_eq_true, decide_eq_true_eq, reduceCtorEq, or_false]
      omega
  have ht : takeSwitch 2 n p s =
      if (fitsSwitch (outEntry s n) q && decide (1 ≤ n) && decide (n ≤ 160)) = true then takeOutputSwitch n q s
      else recordEntry .unmappedInput n p s := by
    simp only [takeSwitch, h, unmapped_eq]
    rfl
  rw [ht, if_congr hc rfl rfl, ite_not]

theorem takeSwitch_output_of_none (h : outputSwitchOf p = none) :
    takeSwitch 2 n p s = recordEntry .unmappedInput n p s := by
  simp only [takeSwitch, h, unmapped_eq]
  rfl

theorem takeSwitch_other {kind : Nat} (h1 : kind ≠ 1) (h2 : kind ≠ 2) :
    takeSwitch kind n p s = recordEntry .unmappedInput n p s := by
  rw [takeSwitch, if_neg h1, if_neg h2, unmapped_eq]

/-- Settles O45: the entry by its type and its position, then the fit of a position and a frame's entries in turn. -/
theorem switchEntriesMoveTheImage : Obligations.SwitchEntriesMoveTheImage := by
  refine fun n p s => ⟨fun kind h1 h2 => takeSwitch_other h1 h2, ?_, ?_, fun e q => ?_, fun a b c rest => rfl⟩
  · cases h : zoneSwitchOf p with
    | some q => exact takeSwitch_zone_of_some h
    | none => exact takeSwitch_zone_of_none h
  · cases h : outputSwitchOf p with
    | some q => exact takeSwitch_output_of_some h
    | none => exact takeSwitch_output_of_none h
  · cases q <;> rfl

end Sys2Proof.Machine
end

section
/-! The fast ring, the end of a command, the arbiter and its grants (O54). -/

namespace Sys2Proof.Machine

-- Elaborated one after another: the check bounds Lean's threads.
set_option Elab.async false

variable {s t : State} {o m : Nat} {a : Act} {c : Cmd}

/-! ### The fast ring (R57, R136) -/

theorem outstanding_iff (a : Act) :
    outstanding a = true ↔ a = .sent ∨ a = .moving ∨ a = .starting ∨ a = .stopping := by
  cases a <;> simp [outstanding]

theorem otherOutstanding_iff (s : State) (o : Nat) :
    otherOutstanding s o = true ↔ ∃ x ∈ configured s, (outEntry s x).module = (outEntry s o).module ∧ x ≠ o ∧
      outstanding (outRec s x).act = true := by
  simp only [otherOutstanding, outputsOfModule, List.any_eq_true, List.mem_filter, beq_iff_eq, Bool.and_eq_true,
    bne_iff_ne, and_assoc, ne_eq]

/-- The ring stands where the output stays as outstanding as it was, or its module has another outstanding output. -/
theorem setAct_stays (h : outstanding (outRec s o).act = outstanding a ∨ otherOutstanding s o = true) :
    setAct o a s = modOut o (fun r => { r with act := a }) s :=
  if_pos (by simpa using h)

/-- R136: the first outstanding output of a module has it join the ring. -/
theorem setAct_joins (h : outstanding (outRec s o).act = false) (ha : outstanding a = true)
    (hn : otherOutstanding s o = false) :
    setAct o a s = setPlant (ringJoin (outEntry s o).module) (modOut o (fun r => { r with act := a }) s) := by
  simp [setAct, h, ha, hn]

/-- R136: the last outstanding output of a module has it leave the ring. -/
theorem setAct_leaves (h : outstanding (outRec s o).act = true) (ha : outstanding a = false)
    (hn : otherOutstanding s o = false) :
    setAct o a s = setPlant (ringLeave (outEntry s o).module) (modOut o (fun r => { r with act := a }) s) := by
  simp [setAct, h, ha, hn]

theorem setPlant_ringJoin (m : Nat) (s : State) :
    setPlant (ringJoin m) s =
      if m ∈ s.plant.fastRing then s
      else { s with plant := { s.plant with
        fastRing := s.plant.fastRing ++ [m]
        fastCursor := if s.plant.fastRing = [] then some m else s.plant.fastCursor } } := by
  simp only [setPlant, ringJoin, List.contains_iff_mem, List.isEmpty_iff]
  split <;> rfl

theorem setPlant_ringLeave (m : Nat) (s : State) :
    setPlant (ringLeave m) s = { s with plant := { s.plant with
      fastRing := s.plant.fastRing.filter (fun x => x != m)
      fastCursor :=
        if s.plant.fastCursor = some m then
          (if s.plant.fastRing.filter (fun x => x != m) = [] then none else ringNext s.plant.fastRing m)
        else s.plant.fastCursor } } := by
  simp only [setPlant, ringLeave, List.isEmpty_iff]

/-- R136: the module that follows, and the first one after the last. -/
theorem ringNext_append {before : List Nat} (h : m ∉ before) (after : List Nat) :
    ringNext (before ++ m :: after) m = (after ++ before ++ [m]).head? := by
  have hd : (before ++ m :: after).dropWhile (fun x => x != m) = m :: after := by
    rw [List.dropWhile_append_of_pos fun x hx => bne_iff_ne.2 (ne_of_mem_of_not_mem hx h)]
    simp
  unfold ringNext
  rw [hd]
  cases after with
  | cons y after => rfl
  | nil => cases before <;> rfl

/-! ### The end of a command that moved plant (log entries 4 and 13) -/

theorem drainTimes_runner {x : RunnerNotice} {rest : List RunnerNotice} (h : s.runnerIn = x :: rest) (n : Nat) :
    drainTimes (n + 1) s = drainTimes n (takeRunner x { s with runnerIn := rest }) := by
  simp only [drainTimes, h]

theorem drainTimes_monitor {y : MonitorNotice} {rest : List MonitorNotice} (hr : s.runnerIn = [])
    (h : s.monitorIn = y :: rest) (n : Nat) :
    drainTimes (n + 1) s = drainTimes n (takeMonitor y { s with monitorIn := rest }) := by
  simp only [drainTimes, hr, h]

theorem drainTimes_of_quiet (h : quiet s) (n : Nat) : drainTimes n s = s := by
  obtain ⟨hr, hm⟩ := h
  cases n with
  | zero => rfl
  | succ n => simp only [drainTimes, hr, hm]

theorem drain_of_quiet (h : quiet s) : drain s = s := drainTimes_of_quiet h _

/-- R143, R146: a hold that waits for the line moves on when it is free. -/
theorem holdProgress_eq (s : State) :
    holdProgress s =
      if s.plant.exchange ≠ none then s
      else match s.plant.hold.state with
        | .pending => grantHold s
        | .releasePending => freeHold s
        | _ => s := by
  unfold holdProgress
  cases s.plant.exchange <;> rfl

theorem arbitrate_of_not_lineFree (h : lineFree s = false) : arbitrate s = s := by
  simp [arbitrate, h]

/-- R139, R143, R146: with nothing to take, the hold moves on, and one grant follows. -/
theorem endStep_of_quiet (h : quiet s) (hp : holdProgress s = t) : endStep s = drain (arbitrate (drain t)) := by
  rw [endStep, drain_of_quiet h, hp]

/-- R139: where the hold is at rest as well, the grant is all. -/
theorem endStep_of_stays (h : quiet s) (hp : holdProgress s = s) : endStep s = drain (arbitrate s) := by
  rw [endStep_of_quiet h hp, drain_of_quiet h]

theorem endStep_of_exchange (h : quiet s) (hx : s.plant.exchange.isSome = true) : endStep s = s := by
  have hl : lineFree s = false := by
    rw [lineFree, Option.isNone_eq_false_iff.2 hx]
    rfl
  rw [endStep_of_stays h (if_pos hx), arbitrate_of_not_lineFree hl, drain_of_quiet h]

/-- R42: a report is taken, and the cursor advances where it ends a step in flight. -/
theorem takeRunner_eq (n : RunnerNotice) (s : State) :
    takeRunner n s =
      if s.run.inFlight.any (fun i => (stepOf s.tables i).output == reportedOutput n) then advance (takeReport n s)
      else takeReport n s := by
  have he : (flightOf s (reportedOutput n)).isEmpty =
      !s.run.inFlight.any (fun i => (stepOf s.tables i).output == reportedOutput n) := by
    rw [Bool.eq_iff_iff]
    simp [flightOf]
  unfold takeRunner
  dsimp only
  rw [he]
  cases s.run.inFlight.any _ <;> rfl

/-! ### The arbiter (R138, R139, R141) -/

theorem mayForward_iff (s : State) (e : ForwardEntry) :
    mayForward s e = true ↔
      s.plant.hold.state = .free ∨ (s.plant.hold.state = .held ∧ e.station = s.tables.link.commissioning) := by
  simp [mayForward]

/-- R141: the first entry that may use the line, and the queue without it. -/
theorem takeForward_eq (s : State) (es : List ForwardEntry) :
    takeForward s es = (es.find? (mayForward s)).map (fun e => (e, es.erase e)) := by
  induction es with
  | nil => rfl
  | cons e es ih =>
    unfold takeForward
    cases he : mayForward s e with
    | true => simp [he]
    | false =>
      rw [List.find?_cons_of_neg (by simp [he]), ih]
      cases hf : es.find? (mayForward s) with
      | none => rfl
      | some x =>
        have hx : e ≠ x := fun h => by
          rw [← h] at hf
          exact Bool.false_ne_true (he.symm.trans (List.find?_some hf))
        simp [hx]

/-- R141: the first entry that may use the line leaves the queue with its exchange. -/
theorem grantForward_eq (s : State) :
    grantForward s =
      match s.plant.forward.find? (mayForward s) with
      | none => s
      | some e =>
        setPlant (fun p =>
          { p with
            forward := p.forward.erase e
            exchange := some ⟨.forward e.station e.tag e.addressed, e.frame, 1, none⟩ }) s := by
  rw [grantForward, takeForward_eq]
  cases s.plant.forward.find? (mayForward s) <;> rfl

theorem pollRequests_iff (s : State) :
    pollRequests s = true ↔
      s.plant.ready = true ∧ s.plant.hold.state = .free ∧ ¬ (s.plant.fastRing = [] ∧ s.plant.slowRing = []) := by
  simp [pollRequests, and_assoc, imp_iff_not_or]

theorem commandRequests_iff (s : State) : commandRequests s = true ↔ s.queue ≠ [] ∧ s.plant.hold.state = .free := by
  simp [commandRequests]

theorem lineFree_iff (s : State) :
    lineFree s = true ↔
      ¬ (s.plant.exchange ≠ none ∨ s.plant.hold.state = .pending ∨ s.plant.hold.state = .releasePending) := by
  unfold lineFree
  cases s.plant.hold.state <;> simp

/-- R139: who is granted the line. -/
theorem arbitrate_eq (s : State) :
    arbitrate s =
      if lineFree s = false then s
      else if pollRequests s = true ∧ s.tables.link.burstLimit ≤ s.plant.burst then grantPoll (setBurst 0 s)
      else if commandRequests s = true ∧ pollRequests s = true then grantCommand (setBurst (s.plant.burst + 1) s)
      else if commandRequests s = true then grantCommand (setBurst 0 s)
      else if pollRequests s = true then grantPoll (setBurst 0 s)
      else grantForward s := by
  unfold arbitrate
  cases lineFree s with
  | false => rfl
  | true => cases pollRequests s <;> cases commandRequests s <;> simp

/-! ### A command (R67, R72, R132) -/

/-- R67: the head of the queue is taken, and its output is SENT. -/
def commandSent (o : Nat) (c : Cmd) (rest : List QueueEntry) (s : State) : State :=
  setAct o .sent (modOut o (fun r => { r with lastSent := some c }) { s with queue := rest })

/-- R72: the fans in WAIT_PATH are judged where a damper has come to SENT. -/
theorem onOutput_sent (hw : outsWf s) (o : Nat) :
    onOutput o (setAct o .sent) s =
      if isDamper (outEntry s o) = true ∧ (outRec s o).act ≠ .sent then rejudge o (setAct o .sent s)
      else setAct o .sent s := by
  have hr : outRec (setAct o .sent s) o = { outRec s o with act := .sent } := outRec_setAct hw
  have he : outEntry (setAct o .sent s) o = outEntry s o := (alike_setAct (.refl s)).outEntry o
  unfold onOutput
  rw [requeueStart_of_act (by rw [hr]; exact fun h => nomatch h)]
  dsimp only
  rw [hr, he]
  exact if_congr (by simp) rfl rfl

/-- R67, R72: the head of the queue is granted; its output is SENT, and judged so. -/
def commandJudged (o : Nat) (c : Cmd) (rest : List QueueEntry) (s : State) : State :=
  if isDamper (outEntry s o) = true ∧ (outRec s o).act ≠ .sent then rejudge o (commandSent o c rest s)
  else commandSent o c rest s

variable {rest : List QueueEntry}

theorem grantCommand_eq (hw : outsWf s) (hq : s.queue = ⟨o, c⟩ :: rest) :
    grantCommand s = nextTag (beginExchange (.ownCommand o)
      (ownFrame s (outEntry s o).module kCmd (byte1 (outEntry s o).channel ++ byte1 (cmdCode c)))
      (commandJudged o c rest s)) := by
  have hr : outRec (modOut o (fun r => { r with lastSent := some c }) { s with queue := rest }) o =
      { outRec s o with lastSent := some c } := outRec_modOut_same (s := { s with queue := rest }) hw
  have hj := onOutput_sent (outsWf_modOut (s := { s with queue := rest }) (o := o)
    (f := fun r => { r with lastSent := some c }) hw) o
  rw [hr] at hj
  rw [grantCommand, hq]
  exact congrArg (fun u => nextTag (beginExchange _ _ u)) hj

theorem outRec_commandSent (hw : outsWf s) :
    outRec (commandSent o c rest s) o = { outRec s o with lastSent := some c, act := .sent } := by
  have hm : outsWf { s with queue := rest } := hw
  rw [commandSent, outRec_setAct (outsWf_modOut hm), outRec_modOut_same hm]
  rfl

theorem outRec_commandJudged (hw : outsWf s) :
    outRec (commandJudged o c rest s) o = { outRec s o with lastSent := some c, act := .sent } := by
  have hs : Alike (modOut o (fun r => { r with lastSent := some c }) { s with queue := rest })
      (commandSent o c rest s) := alike_setAct (.refl _)
  unfold commandJudged
  split
  · rename_i h
    rw [outRec_rejudge (hs.wf (outsWf_modOut hw)) ((congrArg isDamper (hs.outEntry o)).trans h.1), outRec_commandSent hw]
  · exact outRec_commandSent hw

theorem queue_commandJudged (h : isDamper (outEntry s o) = false) : (commandJudged o c rest s).queue = rest := by
  rw [commandJudged, if_neg fun hd => Bool.false_ne_true (h.symm.trans hd.1)]
  exact queue_setAct ..

/-! ### A poll (R138) -/

/-- R138: the ring that is polled, and the rings and the fast count after it. -/
theorem choosePoll_eq (s : State) (m : Nat) (fast : Bool)
    (hc : (if fast then s.plant.fastCursor else s.plant.slowCursor) = some m)
    (hf : fast = true ↔ s.plant.fastCursor ≠ none ∧
      (s.plant.fastCount < s.tables.link.fastPerSlow ∨ s.plant.slowCursor = none)) :
    choosePoll s = some (m, { s.plant with
      fastCursor := if fast then ringNext s.plant.fastRing m else s.plant.fastCursor
      slowCursor := if fast then s.plant.slowCursor else ringNext s.plant.slowRing m
      fastCount := if ¬ fast then 0
        else if s.plant.fastCount < s.tables.link.fastPerSlow then s.plant.fastCount + 1 else 1 }) := by
  unfold choosePoll
  cases fast with
  | true =>
    obtain ⟨-, hl⟩ := hf.1 rfl
    simp only [if_true] at hc
    simp only [hc]
    by_cases hlt : s.plant.fastCount < s.tables.link.fastPerSlow
    · simp [hlt]
    · simp [hlt, hl.resolve_left hlt]
  | false =>
    have hn := mt hf.2 Bool.false_ne_true
    simp only [Bool.false_eq_true, if_false] at hc
    cases hx : s.plant.fastCursor with
    | none => simp [hc, hx]
    | some x =>
      have hlt : ¬ s.plant.fastCount < s.tables.link.fastPerSlow := fun h => hn ⟨by simp [hx], .inl h⟩
      simp [hc, hx, hlt]

/-! ### The statement -/

/-- Settles O54, part by part: the fast ring, the end of a command, the notices, the arbiter, and its grants of commands and
polls. -/
theorem arbiterGrantsAndSends : Obligations.ArbiterGrantsAndSends := by
  refine ⟨fun o a s => ?_, fun before after m h => ringNext_append h after, fun s => rfl,
    fun s hq => ⟨endStep_of_exchange hq, fun hx => ⟨fun hs => ?_, fun hs => ?_, fun hs => ?_⟩⟩,
    fun s => ⟨rfl, rfl, fun n => ?_⟩, mayForward_iff, fun s => ?_, fun s => ?_⟩
  · intro out m others t ring rest
    have hout (x : Act) : outstanding x = true ↔ out x := outstanding_iff x
    have hothers : otherOutstanding s o = true ↔ others :=
      (otherOutstanding_iff s o).trans (by simp only [hout]; rfl)
    refine ⟨fun h => setAct_stays (h.imp (fun h => ?_) hothers.2), fun h ha hn => ?_, fun h ha hn => ?_⟩
    · exact Bool.eq_iff_iff.2 ((hout _).trans (h.trans (hout a).symm))
    · refine (setAct_joins (Bool.eq_false_iff.2 (mt (hout _).1 h)) ((hout a).2 ha)
        (Bool.eq_false_iff.2 (mt hothers.1 hn))).trans ?_
      exact setPlant_ringJoin _ _
    · refine (setAct_leaves ((hout _).2 h) (Bool.eq_false_iff.2 (mt (hout a).1 ha))
        (Bool.eq_false_iff.2 (mt hothers.1 hn))).trans ?_
      exact setPlant_ringLeave _ _
  · refine endStep_of_stays hq ?_
    rcases hs with hs | hs <;> simp [holdProgress, hx, hs]
  · exact endStep_of_quiet hq (by simp [holdProgress, hx, hs])
  · exact endStep_of_quiet hq (by simp [holdProgress, hx, hs])
  · split
    · rename_i x rest hr
      refine (drainTimes_runner hr n).trans (congrArg (drainTimes n) ((takeRunner_eq x _).trans ?_))
      cases x <;> rfl
    · rename_i y rest hr hm
      exact drainTimes_monitor hr hm n
    · rename_i hr hm
      exact drainTimes_of_quiet ⟨hr, hm⟩ _
  · rw [arbitrate_eq, grantForward_eq]
    have hl : lineFree s = false ↔ _ := Bool.eq_false_iff.trans ((not_congr (lineFree_iff s)).trans not_not)
    have hp := pollRequests_iff s
    have hc := commandRequests_iff s
    exact if_congr hl rfl (if_congr (and_congr_left' hp) rfl (if_congr (and_congr hc hp) rfl
      (if_congr hc rfl (if_congr hp rfl rfl))))
  · refine ⟨fun o c rest hq hc _ => ?_, fun m fast hcur hf => ?_⟩
    · have hg := grantCommand_eq hc.outs hq
      refine ⟨hg, (congrArg (outRec · o) hg).trans (outRec_commandJudged hc.outs), fun hd => ?_⟩
      exact (congrArg State.queue hg).trans (queue_commandJudged hd)
    · rw [grantPoll, choosePoll_eq s m fast hcur hf]
      rfl

end Sys2Proof.Machine
end

section
/-! Sends that leave the line, reply windows, the pacer, and a module that becomes MISSING (O55). -/

namespace Sys2Proof.Machine

-- Elaborated one after another: the check bounds Lean's threads.
set_option Elab.async false

variable {s : State} {x : Exchange}

/-! ### A module lost (R74, R135) -/

/-- R59, R107: the view of an output's record is marked not valid, and the Monitor hears of a change of proven extract. -/
def viewLost (o : Nat) (u : State) : State :=
  let e := outEntry u o
  let w := modOut o (fun r => { r with valid := false }) u
  if isFan e = true ∧ provenExtract e (outRec u o) ≠ provenExtract e (outRec w o) then
    { w with monitorIn := w.monitorIn ++ [.extractChanged o] }
  else w

theorem takeView_lost (o : Nat) (u : State) :
    takeView o (outRec u o).view false (outRec u o).unusable u = viewLost o u := by
  have hm : modOut o (fun r => { r with view := (outRec u o).view, valid := false, unusable := (outRec u o).unusable }) u =
      modOut o (fun r => { r with valid := false }) u := rfl
  unfold takeView viewLost
  dsimp only
  rw [hm]
  exact if_congr (by simp) rfl rfl

theorem outputLost_eq (o : Nat) (s : State) :
    outputLost o s = onOutput o (fun u =>
      if (outRec u o).act = .fault then viewLost o u
      else if (outRec u o).resolved = none then setAct o .unknown (viewLost o u)
      else toFault o .noResponse .missing (viewLost o u)) s := by
  refine onOutput_congr ?_
  simp only [takeView_lost, Option.isNone_iff_eq_none]

/-- R74, R135: the configured outputs of a lost module in ascending channel. -/
theorem outputsLost_eq (m : Nat) (s : State) :
    outputsLost m s = ([1, 2, 3, 4].flatMap (fun channel =>
      (configured s).filter (fun o => (outEntry s o).channel == channel && (outEntry s o).module == m))).foldl
        (fun t o => onOutput o (fun u =>
          if (outRec u o).act = .fault then viewLost o u
          else if (outRec u o).resolved = none then setAct o .unknown (viewLost o u)
          else toFault o .noResponse .missing (viewLost o u)) t) s := by
  rw [← outputsByChannel_eq]
  exact congrArg (fun g => (outputsByChannel s m).foldl g s) (funext fun t => funext fun o => outputLost_eq o t)

/-! ### Sends and reply windows (R130, R131) -/

theorem sendComplete_none (hx : s.plant.exchange = none) : sendComplete s = s := by
  simp only [sendComplete, hx]

theorem sendComplete_some (hx : s.plant.exchange = some x) :
    sendComplete s =
      if x.window = none then
        setPlant (fun p => { p with exchange := some { x with window := some s.tables.link.replyWindow } }) s
      else s := by
  simp only [sendComplete, hx, Option.isNone_iff_eq_none]

theorem exec_replyWindowExpiry_none (ha : awake s = true) (hx : s.plant.exchange = none) :
    exec .replyWindowExpiry s = .next s := by
  change execReplyWindowExpiry s = _
  simp only [execReplyWindowExpiry, acting_awake ha, hx]

theorem exec_replyWindowExpiry_some (ha : awake s = true) (hx : s.plant.exchange = some x) :
    exec .replyWindowExpiry s = .next (if x.window = none then s else endStep (windowExpired x s)) := by
  change execReplyWindowExpiry s = _
  simp only [execReplyWindowExpiry, acting_awake ha, hx]
  cases x.window <;> rfl

/-- R138: the pacer's expiry sets the ready flag. -/
theorem exec_pacerTimerExpiry (ha : awake s = true) :
    exec .pacerTimerExpiry s = .next
      (if s.plant.pacer = none then s
      else endStep (setPlant (fun p => { p with pacer := none, ready := true }) s)) := by
  change execPacerTimerExpiry s = _
  rw [execPacerTimerExpiry, acting_awake ha]
  cases s.plant.pacer <;> rfl

/-! ### The statement -/

/-- Settles O55, part by part: a lost module, the pacer, and a send and its window by the exchange in flight. -/
theorem plantLinkTimersExpire : Obligations.PlantLinkTimersExpire := by
  refine ⟨fun m s => outputsLost_eq m _, fun s ha => ?_⟩
  intro ended
  refine ⟨?_, fun hx => ⟨?_, ?_⟩, fun x hx => ⟨?_, fun hw => ?_, fun hw => ?_⟩⟩
  · exact exec_pacerTimerExpiry ha
  · exact (acting_awake ha).trans (congrArg _ (sendComplete_none hx))
  · exact exec_replyWindowExpiry_none ha hx
  · exact (acting_awake ha).trans (congrArg _ (sendComplete_some hx))
  · exact (exec_replyWindowExpiry_some ha hx).trans (congrArg _ (if_pos hw))
  · refine (exec_replyWindowExpiry_some ha hx).trans (congrArg _ ((if_neg hw).trans (congrArg endStep ?_)))
    unfold windowExpired
    cases x.kind <;> rfl

end Sys2Proof.Machine
end

section
/-! Frames on the plant link, replies to forwarded frames and forward waits (O56). -/

namespace Sys2Proof.Machine

-- Elaborated one after another: the check bounds Lean's threads.
set_option Elab.async false

variable {s : State}

/-! ### The awaited reply (R130) -/

/-- R130: what every awaited reply has of the frame it answers, its kind aside. -/
theorem isAwaited_iff (s : State) (x : Exchange) (f : Frame) :
    isAwaited s x f = true ↔
      (f.src = x.frame.dest ∧ f.dest = s.tables.link.plantMaster ∧ f.tag = x.frame.tag) ∧
        match x.kind with
        | .ownCommand _ => f.kind = 0x61
        | .ownPoll => f.kind = 0x63
        | .forward _ _ _ => True := by
  unfold isAwaited
  cases x.kind <;> simp [kCmdAck, kState, and_assoc]

theorem ackOf_isNone_iff (n : Nat) : (ackOf n).isNone = true ↔ 3 < n := by
  by_cases h : 3 < n
  · simp [ackOf_above h, h]
  · obtain ⟨a, ha, -⟩ := ackOf_of_le (Nat.not_lt.1 h)
    simp [ha, h]

/-- R130, R179: a STATE that cannot be decoded, and a CMD_ACK of another length or result. -/
theorem replyBad_iff (kind : Nat) (payload : List Byte) :
    replyBad kind payload = true ↔
      (kind = 0x63 ∧ decodable payload = false) ∨ (kind = 0x61 ∧ (payload.length ≠ 2 ∨ 3 < byteAt payload 1)) := by
  unfold replyBad
  by_cases hs : kind = 0x63
  · simp [hs, kState]
  by_cases hc : kind = 0x61
  · simp [hc, kState, kCmdAck, ← ackOf_isNone_iff]
  · simp [hs, hc, kState, kCmdAck]

/-- R132: the awaited CMD_ACK acts as its row, but for one of another length, which is counted. -/
theorem takeReply_ownCommand {o : Nat} {f : Frame} {sends : Nat} {window : Option Nat} (payload : List Byte)
    (hx : s.plant.exchange = some ⟨.ownCommand o, f, sends, window⟩) :
    takeReply ⟨.ownCommand o, f, sends, window⟩ kCmdAck payload s =
      if payload.length = 2 then ackTaken (byteAt payload 1) s else countError s := by
  have hb : replyBad kCmdAck payload = (payload.length != 2 || (ackOf (byteAt payload 1)).isNone) := rfl
  rw [ackTaken_inFlight hx, takeReply, hb]
  by_cases hl : payload.length = 2
  · cases ackOf (byteAt payload 1) <;> simp [hl]
  · simp [hl]

/-- R133: the awaited STATE acts as its row. -/
theorem takeReply_ownPoll {f : Frame} {sends : Nat} {window : Option Nat} (payload : List Byte)
    (hx : s.plant.exchange = some ⟨.ownPoll, f, sends, window⟩) :
    takeReply ⟨.ownPoll, f, sends, window⟩ kState payload s = stateTaken payload s := by
  have hb : replyBad kState payload = !decodable payload := rfl
  rw [stateTaken_inFlight hx, takeReply, hb]
  cases decodable payload <;> rfl

theorem forwardTaken_inFlight {kind : Nat} {payload : List Byte} {x : Exchange} {station tag addressed : Nat}
    (hx : s.plant.exchange = some x) (hk : x.kind = .forward station tag addressed) :
    forwardTaken kind payload s =
      if replyBad kind payload then countError s
      else endStep (forwardAnswered x station tag addressed kind payload s) := by
  simp only [forwardTaken, hx, hk]

/-- R130: with no forward in flight a reply to a forwarded frame is a stray one. -/
theorem forwardTaken_stray {kind : Nat} {payload : List Byte}
    (hx : ∀ f sends window station tag addressed,
      s.plant.exchange ≠ some ⟨.forward station tag addressed, f, sends, window⟩) :
    forwardTaken kind payload s = countStray s := by
  unfold forwardTaken
  cases he : s.plant.exchange with
  | none => rfl
  | some x =>
    obtain ⟨k, f, sends, window⟩ := x
    cases k with
    | ownCommand o => rfl
    | ownPoll => rfl
    | forward station tag addressed => exact absurd he (hx f sends window station tag addressed)

/-- R130: what the exchange in flight makes of a good frame. -/
theorem exec_plantFrameReceived {bytes : List Byte} {g : Frame} {x : Exchange} {p : Prop} [Decidable p]
    {taken : Host.Outcome State Fault Refusal} (ha : awake s = true) (hr : receive bytes = .good g)
    (hx : s.plant.exchange = some x) (hi : isAwaited s x g = true ↔ p)
    (ht : p → .next (takeReply x g.kind g.payload s) = taken) :
    exec (.plantFrameReceived bytes) s = if p then taken else .next (countStray s) := by
  have he : exec (.plantFrameReceived bytes) s = .next (plantBytes bytes s) := acting_awake ha
  rw [he, plantBytes, hr, hx]
  by_cases hp : p
  · rw [if_pos hp, ← ht hp]
    exact congrArg _ (if_pos (hi.2 hp))
  · rw [if_neg hp]
    exact congrArg _ (if_neg (mt hi.1 hp))

/-! ### The statement -/

/-- Settles O56: a frame by the kind of the exchange in flight, then the reply to a forwarded frame, and a wait's end. -/
theorem plantFramesAndForwardsAreTaken : Obligations.PlantFramesAndForwardsAreTaken := by
  intro s ha stray bad ended
  refine ⟨fun bytes => ?_, fun kind payload f sends window station tag addressed hx => ?_, fun hx kind payload => ?_,
    fun place => ?_⟩
  · have he : exec (.plantFrameReceived bytes) s = .next (plantBytes bytes s) := acting_awake ha
    cases hr : receive bytes with
    | nothing => exact he.trans (by rw [plantBytes, hr])
    | bad =>
      refine he.trans ?_
      rw [plantBytes, hr]
      rfl
    | good g =>
      refine ⟨fun hx => ?_, fun x hx => ?_⟩
      · rw [he, plantBytes, hr, hx]
        rfl
      obtain ⟨k, f, sends, window⟩ := x
      cases k with
      | ownCommand o =>
        refine exec_plantFrameReceived ha hr hx (isAwaited_iff _ _ _) fun ⟨_, hk⟩ => ?_
        replace hk : g.kind = kCmdAck := hk
        rw [hk, takeReply_ownCommand _ hx, apply_ite Host.Outcome.next]
        exact if_congr Iff.rfl (acting_awake ha).symm rfl
      | ownPoll =>
        refine exec_plantFrameReceived ha hr hx (isAwaited_iff _ _ _) fun ⟨_, hk⟩ => ?_
        replace hk : g.kind = kState := hk
        rw [hk, takeReply_ownPoll _ hx]
        exact (acting_awake ha).symm
      | forward station tag addressed =>
        refine exec_plantFrameReceived ha hr hx ((isAwaited_iff _ _ _).trans (and_iff_left trivial)) fun _ => ?_
        exact (congrArg _ (forwardTaken_inFlight hx rfl).symm).trans (acting_awake ha).symm
  · refine (acting_awake ha).trans (congrArg _ ((forwardTaken_inFlight hx rfl).trans ?_))
    exact if_congr (replyBad_iff _ _) rfl rfl
  · exact (acting_awake ha).trans (congrArg _ (forwardTaken_stray hx))
  · refine (acting_awake ha).trans (congrArg _ ?_)
    unfold forwardWaited
    cases s.plant.forward[place]? <;> rfl

end Sys2Proof.Machine
end

section
/-! The hold: its refusals, its grant and its release (O57). -/

namespace Sys2Proof.Machine

-- Elaborated one after another: the check bounds Lean's threads.
set_option Elab.async false

variable {s t : State} {req : Requester} {row : Instr} {o : Nat}

/-! ### The events of the hold, and the entries that it refuses (R143, R146) -/

/-- The events of the hold. -/
def isHoldEvent : Ev → Bool
  | .holdGranted | .holdEnded => true
  | _ => false

/-- R160: they are ADVISORY, and do no more than make their entry. -/
theorem raise_holdEvent {ev : Ev} (h : isHoldEvent ev = true) (a b : Nat) (s : State) :
    raise ev a b s = recordEntry ev a b s := by
  cases ev with
  | holdGranted | holdEnded => rfl
  | _ => exact absurd h Bool.false_ne_true

/-- R158: the refusals change the outbound side of the Panel Link Interface alone. -/
theorem refuseEntries_eq (es : List ForwardEntry) (r : FailReason) (s : State) :
    refuseEntries es r s = setPanel (fun _ => (refuseEntries es r s).panel) s := by
  unfold refuseEntries
  induction es generalizing s with
  | nil => rfl
  | cons e es ih => exact ih _

/-- R143, R146: the commissioning panel's entries, or those of the other stations, leave the forward queue, each refused
HELD. -/
def entriesRefused (own : Bool) (u : State) : State :=
  refuseEntries (u.plant.forward.filter (fun e => (e.station == u.tables.link.commissioning) == own)) .held
    (setPlant (fun p =>
      { p with forward := p.forward.filter (fun e => (e.station == u.tables.link.commissioning) != own) }) u)

theorem plant_entriesRefused (own : Bool) (u : State) :
    (entriesRefused own u).plant =
      { u.plant with
        forward := u.plant.forward.filter (fun e => (e.station == u.tables.link.commissioning) != own) } :=
  congrArg State.plant (refuseEntries_eq _ _ _)

theorem tables_entriesRefused (own : Bool) (u : State) : (entriesRefused own u).tables = u.tables :=
  (congrArg State.tables (refuseEntries_eq _ _ _)).trans rfl

/-! ### The grant (R143) -/

/-- R143: HELD with its timer, the other stations' entries refused, and the event. -/
def holdGiven (s : State) : State :=
  recordEntry .holdGranted s.tables.link.commissioning s.tables.link.holdLimit
    (entriesRefused false (setHold (fun h => { h with state := .held, timer := some s.tables.link.holdLimit }) s))

theorem ask_holdGiven (s : State) : (holdGiven s).plant.hold.ask = s.plant.hold.ask := by
  rw [holdGiven, (captures_recordEntry _ _ _ _).plant, plant_entriesRefused]
  rfl

/-- R143: the pending HOLD_ASK is answered once the hold is given. -/
theorem grantHold_eq (s : State) :
    grantHold s =
      match s.plant.hold.ask with
      | some asked => sendReply asked .ok (setHold (fun h => { h with ask := none }) (holdGiven s))
      | none => holdGiven s := by
  have hg : grantHold s = answerAsk .ok (holdGiven s) := by
    unfold grantHold holdGiven entriesRefused
    simp only [raise_holdEvent (ev := .holdGranted) rfl, Bool.bne_false, beq_false]
    rfl
  rw [hg, answerAsk, ask_holdGiven] <;> rfl

/-! ### The release (R146) -/

/-- R146, steps 1 to 3: FREE without its reason, the holder's entries refused, and the event. -/
def holdReleased (s : State) : State :=
  recordEntry .holdEnded s.tables.link.commissioning (releaseCode s.plant.hold.reason)
    (entriesRefused true (setHold (fun h => { h with state := .free, reason := .none }) s))

theorem freeHold_eq (s : State) : freeHold s = reassert (holdReleased s) := by
  unfold freeHold holdReleased entriesRefused
  simp only [raise_holdEvent (ev := .holdEnded) rfl, Bool.bne_true, beq_true]
  rfl

theorem configured_holdReleased (s : State) : configured (holdReleased s) = configured s := by
  unfold configured
  rw [holdReleased, (captures_recordEntry _ _ _ _).tables, tables_entriesRefused]
  rfl

/-- R146, step 4: a fan queued with a start and no fitting slot is placed afresh. -/
theorem replaceQueued_eq (o : Nat) (t : State) :
    replaceQueued o t =
      match (outRec t o).resolved with
      | some c =>
        if (outRec t o).act = .queued ∧ needsSlot (outEntry t o) (outRec t o).view c = true ∧
            slotFits (outEntry t o) (outRec t o) c = false then onOutput o (place o) (dequeue o t)
        else t
      | none => t := by
  unfold replaceQueued
  dsimp only
  cases (outRec t o).resolved with
  | none => rfl
  | some c => exact if_congr (by simp [and_assoc]) rfl rfl

/-- R146, step 4: a SETTLED output that has departed is placed. -/
theorem reassertOutput_eq (o : Nat) (t : State) :
    reassertOutput o t =
      match (outRec t o).resolved with
      | some c =>
        if (outRec t o).act = .settled ∧ (outRec t o).valid = true ∧ viewAgrees (outRec t o).view c = false then
          onOutput o (place o) t
        else t
      | none => t := by
  unfold reassertOutput agrees
  dsimp only
  cases (outRec t o).resolved with
  | none => rfl
  | some c =>
    refine if_congr ?_ rfl rfl
    cases (outRec t o).valid <;> simp

/-! ### HOLD_ASK (R142) -/

theorem barsHold_eq (a : Act) :
    barsHold a = [Act.queued, .waitPath, .waitStart, .sent, .moving, .starting, .stopping].contains a := by
  cases a <;> rfl

/-- R142: a request is refused by the first check it fails. -/
theorem holdRefusal_or (s : State) (refused : Result → State) (passed : State) :
    (match holdRefusal s with
      | some r => refused r
      | none => passed) =
      if s.mode = .start then refused .wrongMode
      else if s.plant.hold.state ≠ .free then refused .busy
      else if s.run.state ≠ .idle then refused .runActive
      else if s.mode = .normal ∧ someZoneWaits s = true then refused .zoneBusy
      else if (configured s).any (fun o => barsHold (outRec s o).act) = true then refused .busy
      else passed := by
  unfold holdRefusal fireMode
  simp only [decide_eq_true_eq]
  split_ifs <;> rfl

/-- R142: what HOLD_ASK does when it is served. -/
theorem serveHoldAsk_enterServing (req : Requester) (row : Instr) (s : State) :
    serveHoldAsk req (enterServing row s) =
      if s.mode = .start then answer req .wrongMode s
      else if s.plant.hold.state ≠ .free then answer req .busy s
      else if s.run.state ≠ .idle then answer req .runActive s
      else if s.mode = .normal ∧ someZoneWaits s = true then answer req .zoneBusy s
      else if (configured s).any (fun o => barsHold (outRec s o).act) = true then answer req .busy s
      else endStep (leaveService (setHold (fun h => { h with state := .pending, ask := some req }) (enterServing row s))) := by
  refine (holdRefusal_or (enterServing row s) (fun r => answer req r (enterServing row s)) _).trans ?_
  simp only [answer_enterServing]
  rfl

/-! ### The end of a hold (R143 to R145) -/

/-- R144: a hold that is released is FREE once the line is. -/
theorem holdProgress_releaseHold (r : ReleaseReason) (s : State) :
    holdProgress (releaseHold r s) =
      if s.plant.exchange = none then freeHold (releaseHold r s) else releaseHold r s := by
  rw [holdProgress_eq]
  exact ite_not ..

/-- R145: what HOLD_END does by the state of the hold. -/
theorem holdEnded_eq (s : State) :
    holdEnded s =
      match s.plant.hold.state with
      | .free | .releasePending => s
      | .pending => answerAsk .revoked (setHold (fun h => { h with state := .free }) s)
      | .held => drain (if s.plant.exchange = none then freeHold (releaseHold .ended s) else releaseHold .ended s) := by
  unfold holdEnded
  cases s.plant.hold.state with
  | held => exact congrArg drain (holdProgress_releaseHold .ended s)
  | _ => rfl

theorem serveHoldEnd_enterServing (req : Requester) (row : Instr) (s : State) :
    serveHoldEnd req (enterServing row s) =
      if s.mode = .start then answer req .wrongMode s
      else endStep (answer req .ok (holdEnded (enterServing row s))) := by
  rw [serveHoldEnd, answer_enterServing req .wrongMode]
  rfl

theorem exec_holdTimerExpiry (ha : awake s = true) :
    exec .holdTimerExpiry s = .next
      (if s.plant.hold.state = .held ∧ s.plant.hold.timer = some 0 then endStep (releaseHold .timeout s) else s) :=
  acting_awake (work := fun s =>
    if s.plant.hold.state = .held ∧ s.plant.hold.timer = some 0 then endStep (releaseHold .timeout s) else s) ha

/-! ### The statement -/

/-- Settles O57: the grant, the release, HOLD_ASK by its checks, HOLD_END by the state of the hold, and the two timers. -/
theorem holdIsAskedGrantedAndReleased : Obligations.HoldIsAskedGrantedAndReleased := by
  intro req s
  refine ⟨?_, ?_, fun hs => ?_, fun hs => ?_, exec_holdTimerExpiry, holdProgress_eq s⟩
  · exact grantHold_eq s
  · rw [freeHold_eq, reassert, configured_holdReleased]
    simp only [replaceQueued_eq, reassertOutput_eq]
    rfl
  · refine (serving_served hs).trans (congrArg _ ((serveHoldAsk_enterServing req _ s).trans ?_))
    simp only [barsHold_eq]
    rfl
  · refine (serving_served hs).trans ?_
    rw [serveHoldEnd_enterServing, holdEnded_eq]
    exact congrArg Host.Outcome.next (if_congr Iff.rfl rfl rfl)

end Sys2Proof.Machine
end

section
/-! The outbound queue (O29): which frames it admits, and what the sending of its head leads to. -/

namespace Sys2Proof.Machine

variable {s : State}

/-! ### EVENT frames (R154, R162) -/

theorem panel_recordEntry (ev : Ev) (a b : Nat) (s : State) :
    (recordEntry ev a b s).panel = offerEvent (eventFrame s.tables.link (nextEntry s ev a b)) s.panel := rfl

theorem offerEvent_admitted {p : Panel} (f : Frame) (h : p.outbound.length < 32) :
    offerEvent f p = { p with outbound := p.outbound ++ [⟨f, .nothing⟩] } := if_pos h

/-- R154: a frame in the outbound queue with the clearing of REPORTS_MISSED taken from it. -/
def unclearing (q : OutFrame) : OutFrame := if q.after = .clearReportsMissed then ⟨q.frame, .nothing⟩ else q

theorem frame_unclearing (q : OutFrame) : (unclearing q).frame = q.frame := by
  unfold unclearing
  split <;> rfl

theorem after_unclearing (q : OutFrame) : (unclearing q).after ≠ .clearReportsMissed := by
  unfold unclearing
  split
  · exact nofun
  · assumption

theorem offerEvent_dropped {p : Panel} (f : Frame) (h : 32 ≤ p.outbound.length) :
    offerEvent f p =
      { p with reportsMissed := true, clearing := false, outbound := p.outbound.map unclearing } :=
  if_neg (Nat.not_lt.2 h)

/-! ### Replies (R153, R154) -/

/-- R153, R154: a REPLY joins or is counted as lost, and its request leaves service either way. -/
theorem answer_eq (req : Requester) (r : Result) (s : State) :
    let f : Frame :=
      { dest := req.station, src := s.tables.link.own, kind := 0x40, tag := req.tag, payload := byte1 (resultCode r) }
    answer req r s =
      if s.panel.outbound.length < 40 then
        { s with panel := { s.panel with outbound := s.panel.outbound ++ [⟨f, .nothing⟩], inService := none } }
      else { s with panel := { s.panel with overruns := countUp s.panel.overruns, inService := none } } := by
  intro f
  have joins : answer req r s = leaveService (setPanel (offerFrame f .nothing) s) := rfl
  rw [joins]
  by_cases h : s.panel.outbound.length < 40
  · rw [if_pos h, setPanel, show offerFrame f .nothing s.panel = _ from if_pos h]
    rfl
  · rw [if_neg h, setPanel, show offerFrame f .nothing s.panel = _ from if_neg h]
    rfl

/-! ### The head is sent (R154) -/

theorem exec_outboundFrameSent (ha : awake s = true) : exec .outboundFrameSent s = .next (headSent s) :=
  acting_awake ha

theorem headSent_nil (h : s.panel.outbound = []) : headSent s = s := by
  simp only [headSent, h]

theorem headSent_cons {q : OutFrame} {rest : List OutFrame} (h : s.panel.outbound = q :: rest) :
    headSent s = afterSent q.after (setPanel (fun p => { p with outbound := rest }) s) := by
  simp only [headSent, h]

/-- Settles O29: an EVENT by the queue's length, a REPLY, and the head by what its sending leads to. -/
theorem outboundQueueAdmitsAndSends : Obligations.OutboundQueueAdmitsAndSends := by
  refine ⟨fun ev subject detail s => ⟨fun h => ?_, fun h => ?_⟩, answer_eq, fun s ha => ?_⟩
  · rw [panel_recordEntry, offerEvent_admitted _ h]
    rfl
  · rw [panel_recordEntry, offerEvent_dropped _ h]
    refine ⟨rfl, rfl, ?_, fun q hq => ?_⟩
    · simp [frame_unclearing]
    · obtain ⟨q, -, rfl⟩ := List.mem_map.1 hq
      exact after_unclearing q
  · rw [exec_outboundFrameSent ha]
    cases h : s.panel.outbound with
    | nil => exact congrArg _ (headSent_nil h)
    | cons q rest =>
      refine congrArg _ ((headSent_cons h).trans ?_)
      cases q.after <;> rfl

end Sys2Proof.Machine
end

section
/-! A BLD_CMD (O42): its fitting entries, and the BLD entry that the last of them leaves an output. -/

namespace Sys2Proof.Machine

variable {s : State}

/-! ### Its entries (R152) -/

/-- R152: does an entry of a BLD_CMD fit its output? -/
def entryFits (s : State) (e : Byte × Byte) : Bool := bldFits s e.1.toNat e.2.toNat

/-- The bytes of the entries of a BLD_CMD. -/
def entriesBytes (es : List (Byte × Byte)) : List Byte := es.flatMap (fun e => [e.1, e.2])

/-- R152: the entry that a fitting one makes of its output's BLD layer. -/
def bldEntry (e : Byte × Byte) : Nat × Option Cmd := (e.1.toNat, cmdOf e.2.toNat)

/-- R152: the reports of the entries that do not fit. -/
def misfitEvents (s : State) (es : List (Byte × Byte)) : List (Ev × Nat × Nat) :=
  (es.filter (fun e => !entryFits s e)).map (fun e => (.unmappedInput, e.1.toNat, e.2.toNat))

theorem entryFits_unmapped (a b : Nat) (s : State) : entryFits (unmapped a b s) = entryFits s := by
  have ht : (unmapped a b s).tables = s.tables := (captures_raise _ _ _ s).tables
  funext e
  simp only [entryFits, bldFits, outEntry, ht]

/-- R152: the entries are read in frame order, the fitting ones collected and the others reported. -/
theorem readBld_entries (es : List (Byte × Byte)) (acc : List (Nat × Option Cmd)) (s : State) :
    readBld (entriesBytes es) acc s =
      (acc ++ (es.filter (entryFits s)).map bldEntry, recordAll (misfitEvents s es) s) := by
  induction es generalizing acc s with
  | nil => simp [entriesBytes, readBld, misfitEvents, recordAll]
  | cons e es ih =>
    have step : readBld (entriesBytes (e :: es)) acc s =
        if entryFits s e then readBld (entriesBytes es) (acc ++ [bldEntry e]) s
        else readBld (entriesBytes es) acc (unmapped e.1.toNat e.2.toNat s) := rfl
    rw [step]
    by_cases h : entryFits s e = true
    · rw [if_pos h, ih]
      simp [h, misfitEvents]
    · rw [if_neg h, ih, entryFits_unmapped, misfitEvents, entryFits_unmapped, unmapped_eq]
      simp [h, misfitEvents, recordAll]

theorem length_entriesBytes (es : List (Byte × Byte)) : (entriesBytes es).length = 2 * es.length := by
  simp [entriesBytes, Nat.mul_comm]

theorem entriesBytes_eq_nil {es : List (Byte × Byte)} : entriesBytes es = [] ↔ es = [] := by
  rw [← List.length_eq_zero_iff, length_entriesBytes, ← List.length_eq_zero_iff]
  omega

/-! ### The entry that stays (R152) -/

/-- R152: the command code of the last entry of an output. -/
def lastCode (es : List (Byte × Byte)) (o : Nat) : Option Byte :=
  (es.reverse.find? (fun e => e.1.toNat == o)).map (fun e => e.2)

theorem lastCode_append (es : List (Byte × Byte)) (e : Byte × Byte) (o : Nat) :
    lastCode (es ++ [e]) o = if e.1.toNat = o then some e.2 else lastCode es o := by
  unfold lastCode
  by_cases h : e.1.toNat = o <;> simp [h]

theorem lastEntry_eq (es : List (Byte × Byte)) (o : Nat) (d : Option Cmd) :
    lastEntry (es.map bldEntry) o d =
      match lastCode es o with
      | some c => cmdOf c.toNat
      | none => d := by
  induction es using List.reverseRecOn with
  | nil => rfl
  | append_singleton es e ih =>
    have last : lastEntry ((es ++ [e]).map bldEntry) o d =
        if e.1.toNat = o then cmdOf e.2.toNat else lastEntry (es.map bldEntry) o d := by
      simp [lastEntry, bldEntry]
    rw [last, ih, lastCode_append]
    split <;> rfl

theorem isSome_lastCode (es : List (Byte × Byte)) (o : Nat) :
    (lastCode es o).isSome = (es.map bldEntry).any (fun e => e.1 == o) := by
  rw [lastCode, Option.isSome_map, List.isSome_find?, List.any_reverse, List.any_map]
  rfl

/-! ### The frame (R152) -/

theorem exec_bldCmd (src : Nat) (payload : List Byte) (ha : awake s = true) :
    exec (.bldCmd src payload) s = .next (endStep (bldCmdTaken src payload s)) :=
  acting_awake (work := fun s => endStep (bldCmdTaken src payload s)) ha

theorem bldCmdTaken_ignored {src : Nat} {payload : List Byte}
    (h : s.mode = .start ∨ payload = [] ∨ payload.length % 2 ≠ 0) :
    bldCmdTaken src payload s = recordEntry .unmappedInput src 0x1C s :=
  (if_pos h).trans (unmapped_eq _ _ _)

theorem bldCmdTaken_entries {src : Nat} {es : List (Byte × Byte)} (hm : s.mode ≠ .start) (he : es ≠ []) :
    bldCmdTaken src (entriesBytes es) s =
      changeLayers
        (fun o r => { r with bld := match lastCode (es.filter (entryFits s)) o with
          | some c => cmdOf c.toNat
          | none => r.bld })
        ((configured s).filter (fun o => (lastCode (es.filter (entryFits s)) o).isSome))
        (recordAll (misfitEvents s es) s) := by
  have taken : ¬ (s.mode = .start ∨ entriesBytes es = [] ∨ (entriesBytes es).length % 2 ≠ 0) := by
    rw [entriesBytes_eq_nil, length_entriesBytes]
    simp [hm, he]
  rw [bldCmdTaken, if_neg taken, readBld_entries]
  simp only [List.nil_append, lastEntry_eq, isSome_lastCode]

/-- Settles O42: a BLD_CMD that is ignored whole, and one whose entries are taken. -/
theorem buildingEntriesAreOneChange : Obligations.BuildingEntriesAreOneChange := by
  intro src payload s ha
  refine ⟨fun h => ?_, fun es hm he hp => ?_⟩
  · rw [exec_bldCmd src payload ha, bldCmdTaken_ignored h]
  · subst hp
    exact (exec_bldCmd src _ ha).trans (congrArg (fun t => Host.Outcome.next (endStep t)) (bldCmdTaken_entries hm he))

end Sys2Proof.Machine
end

section
/-! Forwarding candidates (O30): who may forward, the checks of the Forwarding Map, and the forward queue. -/

namespace Sys2Proof.Machine

variable {s : State}

/-! ### The checks (R150, R157, R140) -/

theorem hasRole_eq_false_iff (l : LinkRecord) (src : Nat) :
    hasRole l src = false ↔
      src ≠ l.firePanel ∧ src ≠ l.ffPanel ∧ src ≠ l.building ∧ src ≠ l.commissioning := by
  simp [hasRole, isFirePanel, isFfPanel, isBuilding, isCommissioning, and_assoc]

theorem isOwned_iff (s : State) (station : Nat) (f : Frame) :
    isOwned s station f = true ↔
      f.kind = 0x60 ∧ s.mode ≠ .service ∧ f.payload ≠ [] ∧
        (outputAt s station (byteAt f.payload 0)).isSome = true := by
  simp [isOwned, kCmd, and_assoc]

/-- R157: a frame is refused by the first check that it fails; the holder's frames pass all of them while the hold is HELD. -/
theorem mapRefusal_or (s : State) (w : WindowEntry) (f : Frame) (refused : FailReason → State) (passed : State) :
    (match mapRefusal s w f with
      | some r => refused r
      | none => passed) =
      let station := w.plantBase + (f.dest - w.panelBase)
      let free := s.plant.hold.state = .held ∧ f.src = s.tables.link.commissioning
      if ¬ free ∧ fireMode s = true ∧ w.fireBlock = 1 ∧ f.kind ≠ 0x62 then refused .fireBlocked
      else if ¬ free ∧ w.permission = 0 ∧ f.kind ≠ 0x62 then refused .readOnly
      else if ¬ free ∧ f.kind = 0x60 ∧ s.mode ≠ .service ∧ f.payload ≠ [] ∧
          (outputAt s station (byteAt f.payload 0)).isSome = true then refused .owned
      else passed := by
  dsimp only
  unfold mapRefusal
  by_cases hf : s.plant.hold.state = .held ∧ f.src = s.tables.link.commissioning
  · simp [hf]
  · simp only [hf, if_false, not_false_eq_true, true_and, isOwned_iff, Bool.and_eq_true, beq_iff_eq, bne_iff_ne, and_assoc,
      kAsk]
    split_ifs <;> rfl

/-- R140: an offered frame is refused HELD while another station holds the link, or FULL, or joins the queue. -/
theorem offerForward_translated (s : State) (w : WindowEntry) (f : Frame) :
    offerForward (translated s w f) s =
      if (s.plant.hold.state = .pending ∨ s.plant.hold.state = .held) ∧ ¬ f.src = s.tables.link.commissioning then
        sendFail f.src f.tag f.dest .held s
      else if 8 ≤ s.plant.forward.length then sendFail f.src f.tag f.dest .full s
      else setPlant (fun p => { p with forward := p.forward ++ [translated s w f] }) s := rfl

/-! ### The row (R149, R150, R156) -/

theorem exec_forwardCandidate (f : Frame) (ha : awake s = true) :
    exec (.forwardCandidate f) s = .next (candidateTaken f s) :=
  acting_awake ha

theorem candidateTaken_eq (f : Frame) (s : State) :
    candidateTaken f s =
      if s.mode = .start then s
      else if f.src ≠ s.tables.link.firePanel ∧ f.src ≠ s.tables.link.ffPanel ∧ f.src ≠ s.tables.link.building ∧
          f.src ≠ s.tables.link.commissioning then recordEntry .unmappedInput f.src f.kind s
      else endStep (mapFrame f s) := by
  unfold candidateTaken
  simp only [Bool.not_eq_true', hasRole_eq_false_iff, unmapped_eq]

/-- Settles O30: discarded, unmapped, or mapped by its window, the checks of R157 and the forward queue. -/
theorem candidatesAreCheckedAndForwarded : Obligations.CandidatesAreCheckedAndForwarded := by
  intro f s ha l fail window holder
  rw [exec_forwardCandidate f ha, candidateTaken_eq]
  have mapped : mapFrame f s = match window with
      | none => fail .noWindow
      | some w =>
        match mapRefusal s w f with
        | some r => fail r
        | none => offerForward (translated s w f) s := rfl
  rw [mapped]
  cases window with
  | none => rfl
  | some w =>
    simp only [mapRefusal_or, offerForward_translated]
    rfl

end Sys2Proof.Machine
end

section
/-! Frames on the panel link (O27): who may send what, and what becomes of each frame that arrives. -/

namespace Sys2Proof.Machine

variable {s : State}

/-! ### Who may send what (R150) -/

/-- R150: the kinds that each role may send to the own address. -/
theorem permitted_eq (l : LinkRecord) (src kind : Nat) :
    permitted l src kind = (src == l.commissioning ||
      match kind with
      | 0x10 | 0x11 | 0x14 => src == l.firePanel
      | 0x18 => src == l.ffPanel
      | 0x1C => src == l.building
      | 0x12 | 0x3A | 0x35 | 0x34 => src == l.firePanel
      | 0x20 => src == l.firePanel || src == l.building
      | _ => false) := by
  simp only [permitted, isCommissioning, isFirePanel, isFfPanel, isBuilding, Bool.or_assoc, kZoneEvent, kZoneReset,
    kSupplyState, kZoneIsolate, kOutputReset, kFaultAck, kTrailRead, kStatusAsk, kFfState, kBldCmd]
  refine congrArg _ ?_
  split
  -- A kind that no role but the commissioning station may send.
  case h_11 => simp_all
  all_goals simp

theorem mem_requestKinds_iff (kind : Nat) :
    kind ∈ requestKinds ↔
      kind ∈ [0x12, 0x3A, 0x35, 0x34, 0x20, 0x30, 0x31, 0x32, 0x33, 0x36, 0x37, 0x38, 0x39] := Iff.rfl

theorem mem_arrivalKinds_iff {kind : Nat} :
    kind ∈ arrivalKinds ↔ (kind = 0x10 ∨ kind = 0x11 ∨ kind = 0x14) ∨ kind = 0x18 ∨ kind = 0x1C := by
  simp [arrivalKinds, kZoneEvent, kZoneReset, kSupplyState, kFfState, kBldCmd, or_assoc]

/-! ### Sorting (R149, R150) -/

theorem exec_panelFrameReceived (bytes : List Byte) (ha : awake s = true) :
    exec (.panelFrameReceived bytes) s = .next (panelBytes bytes s) :=
  acting_awake ha

theorem exec_requestArrival (f : Frame) (ha : awake s = true) :
    exec (.requestArrival f) s = .next (joinInbound f s) :=
  acting_awake ha

section
variable {f : Frame} (hd : ¬ (f.dest = 0 ∨ f.dest = 255))
include hd

theorem sortFrame_other (ho : f.dest ≠ s.tables.link.own) : sortFrame f s = candidateTaken f s :=
  (if_neg hd).trans (if_pos ho)

theorem sortFrame_request (ho : f.dest = s.tables.link.own) (hr : f.kind ∈ requestKinds) :
    sortFrame f s = joinInbound f s :=
  (if_neg hd).trans ((if_neg (not_not.2 ho)).trans (if_pos (by simpa using hr)))

theorem sortFrame_forbidden (ho : f.dest = s.tables.link.own) (hr : f.kind ∉ requestKinds)
    (hp : permitted s.tables.link f.src f.kind = false) :
    sortFrame f s = recordEntry .unmappedInput f.src f.kind s := by
  rw [sortFrame, if_neg hd, if_neg (not_not.2 ho), if_neg (by simpa using hr), if_neg (by simp [hp]), unmapped_eq]

theorem sortFrame_arrival (ho : f.dest = s.tables.link.own) (hr : f.kind ∉ requestKinds)
    (hp : permitted s.tables.link f.src f.kind = true) :
    sortFrame f s =
      if f.kind ∈ arrivalKinds then takeArrival f s else recordEntry .unmappedInput f.src f.kind s := by
  rw [sortFrame, if_neg hd, if_neg (not_not.2 ho), if_neg (by simpa using hr), unmapped_eq]
  simp [hp]

end

/-! ### Frames that are acted on as they arrive (R151, R179) -/

theorem unmappedOpen_eq (subject detail : Option Nat) (s : State) :
    unmappedOpen subject detail s =
      recordEntry .unmappedInput (subject.getD (Config.unstatedField s.free % 65536))
        (detail.getD (Config.unstatedField (s.free + 1) % 65536)) { s with free := s.free + 2 } :=
  unmapped_eq _ _ _

/-- R151: does the frame hold its fields, as far as its kind has a fixed length? -/
def holdsFields (f : Frame) : Prop :=
  (f.kind = 0x10 → f.payload.length = 4) ∧ (f.kind = 0x11 → f.payload.length = 1) ∧ (f.kind = 0x14 → f.payload.length = 2)

theorem not_holdsFields {f : Frame} (hk : f.kind = 0x10 ∨ f.kind = 0x11 ∨ f.kind = 0x14)
    (h10 : ∀ z a b c, f.kind = 0x10 → f.payload = [z, a, b, c] → False)
    (h11 : ∀ z, f.kind = 0x11 → f.payload = [z] → False)
    (h14 : ∀ b x, f.kind = 0x14 → f.payload = [b, x] → False) : ¬ holdsFields f := by
  rintro ⟨hl10, hl11, hl14⟩
  rcases hk with hk | hk | hk
  · obtain ⟨z, a, b, c, hp⟩ := List.length_eq_four.1 (hl10 hk)
    exact h10 z a b c hk hp
  · obtain ⟨z, hp⟩ := List.length_eq_one_iff.1 (hl11 hk)
    exact h11 z hk hp
  · obtain ⟨b, x, hp⟩ := List.length_eq_two.1 (hl14 hk)
    exact h14 b x hk hp

/-- R179: a frame that does not hold its fields is ignored with those that it carries. -/
theorem takeArrival_misfit {f : Frame} (hk : f.kind = 0x10 ∨ f.kind = 0x11 ∨ f.kind = 0x14) (hf : ¬ holdsFields f) :
    takeArrival f s =
      unmappedOpen (if f.payload.length < 1 then none else some (byteAt f.payload 0))
        (if f.kind = 0x10 then (if f.payload.length < 3 then none else some (wordAt f.payload 1))
          else if f.kind = 0x11 then some 0 else none) s := by
  obtain ⟨dest, src, kind, tag, p⟩ := f
  dsimp only at hk
  rcases hk with rfl | rfl | rfl
  · exact if_neg (by simpa [holdsFields] using hf)
  · exact if_neg (by simpa [holdsFields] using hf)
  · exact if_neg (by simpa [holdsFields] using hf)

/-- R179, log entry 6: what the entry for such a frame carries of it; the rest is free. -/
theorem takeArrival_misfit_fields {f : Frame} (hk : f.kind = 0x10 ∨ f.kind = 0x11 ∨ f.kind = 0x14) (hf : ¬ holdsFields f) :
    ∃ subject detail n : Nat,
      takeArrival f s = recordEntry .unmappedInput subject detail { s with free := n } ∧
        (∀ z rest, f.payload = z :: rest → subject = z.toNat) ∧ (f.kind = 0x11 → detail = 0) ∧
        ∀ z a b rest, f.kind = 0x10 → f.payload = z :: a :: b :: rest → detail = a.toNat * 256 + b.toNat := by
  refine ⟨_, _, _, (takeArrival_misfit hk hf).trans (unmappedOpen_eq _ _ s), fun z rest hp => ?_, fun h => ?_,
    fun z a b rest h hp => ?_⟩
  · simp [hp, byteAt]
  · simp [h]
  · have long : ¬ (z :: a :: b :: rest).length < 3 := by simp
    rw [hp, if_pos h, if_neg long]
    rfl

theorem takeArrival_zoneEvent (dest src tag : Nat) (z a b c : Byte) (s : State) :
    takeArrival ⟨dest, src, 0x10, tag, [z, a, b, c]⟩ s =
      endStep (zoneEventTaken z.toNat (a.toNat * 256 + b.toNat) c.toNat s) := by
  simp [takeArrival, kZoneEvent, byteAt, wordAt]

theorem takeArrival_zoneReset (dest src tag : Nat) (z : Byte) (s : State) :
    takeArrival ⟨dest, src, 0x11, tag, [z]⟩ s = zoneResetTaken z.toNat s := by
  simp [takeArrival, kZoneEvent, kZoneReset, byteAt]

theorem takeArrival_supplyState (dest src tag : Nat) (b x : Byte) (s : State) :
    takeArrival ⟨dest, src, 0x14, tag, [b, x]⟩ s = endStep (supplyStateTaken b.toNat x.toNat s) := by
  simp [takeArrival, kZoneEvent, kZoneReset, kSupplyState, byteAt]

theorem takeArrival_ffState (dest src tag : Nat) (p : List Byte) (s : State) :
    takeArrival ⟨dest, src, 0x18, tag, p⟩ s = endStep (ffStateTaken src p s) := by
  simp [takeArrival, kZoneEvent, kZoneReset, kSupplyState, kFfState]

theorem takeArrival_bldCmd (dest src tag : Nat) (p : List Byte) (s : State) :
    takeArrival ⟨dest, src, 0x1C, tag, p⟩ s = endStep (bldCmdTaken src p s) := by
  simp [takeArrival, kZoneEvent, kZoneReset, kSupplyState, kFfState]

theorem exec_zoneEvent (z source cls : Nat) (ha : awake s = true) :
    exec (.zoneEvent z source cls) s = .next (endStep (zoneEventTaken z source cls s)) :=
  acting_awake (work := fun s => endStep (zoneEventTaken z source cls s)) ha

theorem exec_zoneReset (z : Nat) (ha : awake s = true) : exec (.zoneReset z) s = .next (zoneResetTaken z s) :=
  acting_awake ha

/-- Settles O27: the roles and the requests, then a frame by its DEST, its kind and its sender, and an arrival by its fields. -/
theorem panelFramesAreSorted : Obligations.PanelFramesAreSorted := by
  refine ⟨permitted_eq, mem_requestKinds_iff, fun bytes s ha => ?_⟩
  have he := exec_panelFrameReceived bytes ha
  cases hr : receive bytes with
  | nothing => exact he.trans (by rw [panelBytes, hr])
  | bad =>
    refine he.trans ?_
    rw [panelBytes, hr]
    rfl
  | good f =>
    have hs : exec (.panelFrameReceived bytes) s = .next (sortFrame f s) := he.trans (by rw [panelBytes, hr])
    dsimp only
    rw [hs]
    split_ifs with hd ho hq hp
    · exact congrArg _ (if_pos hd)
    · rw [sortFrame_other hd ho, exec_forwardCandidate f ha]
    · rw [sortFrame_request hd (not_not.1 ho) hq, exec_requestArrival f ha]
    · rw [sortFrame_forbidden hd (not_not.1 ho) hq hp]
    · rw [sortFrame_arrival hd (not_not.1 ho) hq (by simpa using hp)]
      obtain ⟨dest, src, kind, tag, p⟩ := f
      dsimp only
      split
      · rw [if_pos (by decide), takeArrival_zoneEvent, exec_zoneEvent _ _ _ ha]
      · rw [if_pos (by decide), takeArrival_zoneReset, exec_zoneReset _ ha]
      · rw [if_pos (by decide), takeArrival_supplyState, exec_supplyState ha]
      · rw [if_pos (by decide), takeArrival_ffState]
        exact (exec_ffState ha _ _).symm
      · rw [if_pos (by decide), takeArrival_bldCmd, exec_bldCmd _ _ ha]
      · rename_i h18 h1C h10 h11 h14
        by_cases hk : kind = 0x10 ∨ kind = 0x11 ∨ kind = 0x14
        · have hf := not_holdsFields (f := ⟨dest, src, kind, tag, p⟩) hk h10 h11 h14
          obtain ⟨subject, detail, n, ht, hfields⟩ := takeArrival_misfit_fields (s := s) hk hf
          rw [if_pos hk, if_pos (mem_arrivalKinds_iff.2 (.inl hk)), ht]
          exact ⟨subject, detail, n, rfl, hfields⟩
        · rw [if_neg hk, if_neg fun hm => (mem_arrivalKinds_iff.1 hm).elim hk (fun h => h.elim h18 h1C)]

end Sys2Proof.Machine
end

section
/-! Requests (O28): the inbound buffer, the taking of its head, and the row that a request's payload spells. -/

namespace Sys2Proof.Machine

variable {s : State}

/-! ### The inbound buffer (R153) -/

theorem joinInbound_eq (f : Frame) (s : State) :
    joinInbound f s =
      { s with panel :=
          if s.panel.inbound.length < 4 then { s.panel with inbound := s.panel.inbound ++ [f] }
          else { s.panel with overruns := countUp s.panel.overruns } } := rfl

theorem exec_requestTaken (ha : awake s = true) : exec .requestTaken s = .next (takeHead s) := acting_awake ha

theorem mayTake_iff (s : State) :
    mayTake s = true ↔ s.panel.inService = none ∧ s.panel.outbound.length < 38 := by
  rw [mayTake, Bool.and_eq_true, Option.isNone_iff_eq_none, decide_eq_true_iff]
  rfl

/-- R153: nothing is taken from an empty buffer, while a request is in service, or while too many frames wait to go out. -/
theorem takeHead_idle (h : s.panel.inbound = [] ∨ s.panel.inService ≠ none ∨ 38 ≤ s.panel.outbound.length) :
    takeHead s = s := by
  unfold takeHead
  cases hi : s.panel.inbound with
  | nil => rfl
  | cons f rest =>
    refine if_neg fun hm => ?_
    obtain ⟨hnone, hshort⟩ := (mayTake_iff s).1 hm
    rcases h with h | h | h
    · exact List.cons_ne_nil f rest (hi.symm.trans h)
    · exact h hnone
    · omega

theorem takeHead_cons {f : Frame} {rest : List Frame} (hi : s.panel.inbound = f :: rest) (hs : s.panel.inService = none)
    (hl : s.panel.outbound.length < 38) :
    takeHead s = takeRequest f (setPanel (fun p => { p with inbound := rest }) s) := by
  simp only [takeHead, hi, (mayTake_iff s).2 ⟨hs, hl⟩, if_true]

theorem takeRequest_eq (f : Frame) (u : State) :
    takeRequest f u =
      if permitted u.tables.link f.src f.kind = false then refuseRequest f .notPermitted u
      else match readRequest u f with
        | .ok row => setPanel (fun p => { p with inService := some row }) u
        | .error r => refuseRequest f r u := by
  unfold takeRequest
  simp only [Bool.not_eq_true']
  cases readRequest u f <;> rfl

/-! ### A row in no state to be served (R153, R176) -/

theorem serving_unserved {row : Instr} {work : State → State} (h : ¬ Serves row s) : serving row work s = .next s := by
  unfold serving acting
  by_cases ha : awake s = true
  · have hm : ¬ mayServe row s = true := fun hm => h ⟨ha, hm⟩
    exact congrArg _ ((if_pos ha).trans (if_neg hm))
  · rw [if_neg ha]

/-- R155: what a STATUS_ASK row does when it is served. -/
def serveStatus (req : Requester) (selector index part : Nat) (inRange : Bool) (report : State → List Byte) (s : State) :
    State :=
  answerStatus req selector index part inRange (report s) s

/-- 12.3: every request row is served by its own work. -/
theorem exec_requestRow {row : Instr} (hr : isRequestRow row = true) (s : State) :
    ∃ work, exec row s = serving row work s := by
  cases row
  case statusAskSummary req i p => exact ⟨serveStatus req 0 i p (i == 0) summaryReport, rfl⟩
  case statusAskZone req i p =>
    exact ⟨serveStatus req 1 i p (decide (1 ≤ i) && decide (i ≤ 32)) (zoneReport · i), rfl⟩
  case statusAskOutput req i p =>
    exact ⟨serveStatus req 2 i p (decide (1 ≤ i) && decide (i ≤ 160)) (outputReport · i), rfl⟩
  case statusAskRun req i p => exact ⟨serveStatus req 3 i p (i == 0) runReport, rfl⟩
  case statusAskBoard req i p =>
    exact ⟨serveStatus req 4 i p (decide (1 ≤ i) && decide (i ≤ 8)) (boardReport · i), rfl⟩
  case statusAskFirstFault req i p => exact ⟨serveStatus req 5 i p (i == 0) firstFaultReport, rfl⟩
  case zoneIsolateOn | zoneIsolateOff | outputReset | faultAck | trailRead | enterService | enterNormal | modeRestart
      | tsel | trd | twr | testRun | testEnd | holdAsk | holdEnd => exact ⟨_, rfl⟩
  all_goals cases hr

/-! ### The rows that payloads spell (12.3) -/

/-- 12.3: a payload that holds an index is read as the row of a TWR. -/
theorem readRequest_twr (s : State) (own src tag : Nat) (a b : Byte) (entry : List Byte) :
    readRequest s ⟨own, src, 0x32, tag, a :: b :: entry⟩ =
      .ok (.twr { station := src, tag := tag, own := own } (a.toNat * 256 + b.toNat) entry) := by
  have long : ¬ (a :: b :: entry).length < 2 := by simp
  have read : readRequest s ⟨own, src, 0x32, tag, a :: b :: entry⟩ = readTwr s ⟨own, src, 0x32, tag, a :: b :: entry⟩ := rfl
  rw [read, readTwr, if_neg long]
  rfl

/-- Settles O28: the buffer, its head, a row that is not served, and the payload of each kind. -/
theorem requestsAreBufferedAndTaken : Obligations.RequestsAreBufferedAndTaken := by
  refine ⟨fun f s ha => ?_, fun s ha => ⟨fun h => ?_, fun f rest hi hs hl => ?_⟩,
    fun row s hr h => ?_, fun s own src tag a b c entry => ?_⟩
  · exact exec_requestArrival f ha
  · rw [exec_requestTaken ha, takeHead_idle h]
  · rw [exec_requestTaken ha, takeHead_cons hi hs hl, takeRequest_eq]
    rfl
  · obtain ⟨work, he⟩ := exec_requestRow hr s
    rw [he, serving_unserved h]
  · refine ⟨rfl, rfl, rfl, rfl, rfl, rfl, rfl, rfl, rfl, rfl, rfl, rfl, rfl, rfl, rfl, rfl, ?_, rfl, rfl, rfl, rfl⟩
    exact readRequest_twr s own src tag a b entry

end Sys2Proof.Machine
end

section
/-! STATUS reports (O60): bytes and parts, the answer to a STATUS_ASK, and what each report holds. -/

namespace Sys2Proof.Machine

variable {s : State}

/-! ### Bytes (12.4) -/

theorem byte2_eq (n : Nat) : byte2 n = [BitVec.ofNat 8 (n / 256), BitVec.ofNat 8 n] := by
  simp [byte2, bytesBE]

theorem byte4_eq (n : Nat) :
    byte4 n =
      [BitVec.ofNat 8 (n / 16777216), BitVec.ofNat 8 (n / 65536), BitVec.ofNat 8 (n / 256), BitVec.ofNat 8 n] := by
  simp [byte4, bytesBE]

theorem bytesBE_one (n : Nat) : bytesBE 1 n = byte1 n := by
  simp [byte1, bytesBE]

/-! ### Parts (R179) -/

theorem one_le_partCount (report : List Byte) : 1 ≤ partCount report := Nat.le_max_left ..

theorem length_le_partCount (report : List Byte) : report.length ≤ 40 * partCount report := by
  unfold partCount
  omega

theorem partCount_sub_one_lt {report : List Byte} (h : report.length ≠ 0) : 40 * (partCount report - 1) < report.length := by
  unfold partCount
  omega

/-- R179: the first parts of a report are its first bytes. -/
theorem flatMap_partOf (report : List Byte) (n : Nat) :
    (List.range n).flatMap (partOf report) = report.take (40 * n) := by
  induction n with
  | zero => simp
  | succ n ih => rw [List.range_succ, List.flatMap_append, ih, List.flatMap_singleton, partOf, Nat.mul_succ, List.take_add]

/-! ### The answer (R154, R155) -/

/-- R153: an answered request has left service. -/
theorem answerFrame_enterServing (req : Requester) (kind : Nat) (payload : List Byte) (after : AfterSent) (row : Instr)
    (s : State) : answerFrame req kind payload after (enterServing row s) = answerFrame req kind payload after s :=
  congrArg (fun p => setPanel (fun _ => p) s) (offerFrame_leave _ after s.panel (some row))

theorem markClearing_eq (selector : Nat) (s : State) :
    markClearing selector s =
      if selector = 0 ∧ s.panel.reportsMissed = true ∧ s.panel.outbound.length < 40
        then { s with panel := { s.panel with clearing := true } } else s := rfl

theorem markClearing_enterServing (selector : Nat) (row : Instr) (s : State) :
    markClearing selector (enterServing row s) = enterServing row (markClearing selector s) :=
  (apply_ite (enterServing row) (selector = 0 ∧ s.panel.reportsMissed = true ∧ s.panel.outbound.length < 40)
    (setPanel (fun p => { p with clearing := true }) s) s).symm

/-- R155: a STATUS_ASK is refused, or answered with its part; a summary sets the clearing mark where the flag is set. -/
theorem serveStatus_enterServing (req : Requester) (selector index part : Nat) (inRange : Bool) {report : State → List Byte}
    {row : Instr} (hr : report (enterServing row s) = report s) :
    serveStatus req selector index part inRange report (enterServing row s) =
      if inRange = false ∨ partCount (report s) ≤ part then answer req .badIndex s
      else
        answerFrame req 0x41
          ([BitVec.ofNat 8 selector, BitVec.ofNat 8 index, BitVec.ofNat 8 part, BitVec.ofNat 8 (partCount (report s))]
            ++ byte4 s.uptime ++ partOf (report s) part)
          (if selector = 0 ∧ s.panel.reportsMissed = true then .clearReportsMissed else .nothing)
          (markClearing selector s) := by
  rw [serveStatus, hr, answerStatus, answer_enterServing, markClearing_enterServing, answerFrame_enterServing]
  cases inRange with
  | false => rfl
  | true =>
    by_cases hp : partCount (report s) ≤ part
    · simp only [hp, or_true, if_true, Bool.not_true, Bool.false_eq_true, if_false]
    · simp only [hp, or_false, if_false, Bool.not_true, Bool.false_eq_true, Bool.true_eq_false]
      rfl

/-- R155: a STATUS_ASK row that is served. -/
theorem exec_statusAsk {req : Requester} {selector index part : Nat} {inRange : Bool} {report : State → List Byte}
    {row : Instr} (he : exec row s = serving row (serveStatus req selector index part inRange report) s)
    (hr : report (enterServing row s) = report s) (hs : Serves row s) :
    exec row s = .next
      (if inRange = false ∨ partCount (report s) ≤ part then answer req .badIndex s
      else
        answerFrame req 0x41
          ([BitVec.ofNat 8 selector, BitVec.ofNat 8 index, BitVec.ofNat 8 part, BitVec.ofNat 8 (partCount (report s))]
            ++ byte4 s.uptime ++ ((report s).drop (40 * part)).take 40)
          (if selector = 0 ∧ s.panel.reportsMissed = true then .clearReportsMissed else .nothing)
          (if selector = 0 ∧ s.panel.reportsMissed = true ∧ s.panel.outbound.length < 40
            then { s with panel := { s.panel with clearing := true } } else s)) :=
  he.trans ((serving_served hs).trans (congrArg _ (serveStatus_enterServing req selector index part inRange hr)))

/-! ### What the reports hold (R18, R83, R101, R102, R163) -/

theorem optional_one (x : Option Nat) :
    optional 1 x = match x with
      | some k => byte1 1 ++ byte1 k
      | none => [0#8, 0#8] := by
  cases x with
  | none => rfl
  | some k => exact congrArg (byte1 1 ++ ·) (bytesBE_one k)

theorem counted_eq {α : Type} (f : α → List Byte) (xs : List α) :
    counted f xs = byte1 (xs.map f).length ++ (xs.map f).flatten := by
  rw [counted, List.length_map, List.flatMap_def]

theorem upTo_one (last : Nat) : upTo 1 last = (List.range last).map (fun k => k + 1) := by
  simp only [upTo, Nat.add_sub_cancel, Nat.add_comm]

theorem zoneNumbers_eq : zoneNumbers = upTo 1 32 := (upTo_one 32).symm

/-- R155: the report of an unconfigured output is that of a cold record, which is no fan's. -/
theorem outputReport_eq (s : State) (o : Nat) :
    outputReport s o =
      let known := isConfigured (outEntry s o)
      outputBytes (known && isFan (outEntry s o)) (if known then outRec s o else coldOut)
        (if known && decide ((s.queue.map (fun q => q.output)).idxOf o < s.queue.length) then
          (s.queue.map (fun q => q.output)).idxOf o + 1 else 0)
        s.queue.length (if known then (moduleRec s (outEntry s o).module).state else .unknown)
        (if known then sget .auto s.ff.outputSwitches o else .auto) (known && s.ff.marks.contains o) := by
  unfold outputReport
  cases hk : isConfigured (outEntry s o) with
  | true => simp only [hk, queuePosition, outputSwitch, if_true, Bool.true_and, decide_eq_true_eq]
  | false => simp only [hk, Bool.false_and, Bool.false_eq_true, if_false]

/-- R83: the parts of an output's report that only a fan has. -/
theorem fanPart_flag (fan b : Bool) : fanPart fan (flag b) = if fan then byte1 1 ++ flag b else [0#8, 0#8] := by
  cases fan <;> rfl

/-- R126: only a configured fan's mark is told. -/
theorem fanPart_mark (known fan mark : Bool) :
    fanPart (known && fan) (flag (known && mark)) = if known && fan then byte1 1 ++ flag mark else [0#8, 0#8] := by
  cases known <;> cases fan <;> rfl

theorem fanPart_engaged (fan : Bool) (x : Engaged) :
    fanPart fan (engagedBytes x) = if fan then byte1 1 ++ engagedBytes x else [0#8, 0#8, 0#8] := by
  cases fan <;> cases x <;> rfl

/-- R101, R155: the report of an unconfigured board is that of a cold record, with neither slot holders nor a load. -/
theorem boardReport_eq (s : State) (b : Nat) :
    boardReport s b =
      boardBytes s (if fansOn s b ≠ [] then boardSource s b else .unknown)
        (if fansOn s b ≠ [] then capacity s b else (boardEntry s b).capStandby) (boardEntry s b).startLimit
        (slotHolders s b) (committedLoad s b) (waitList s b) := by
  unfold boardReport
  by_cases h : fansOn s b = []
  · simp [h, slotHolders, committedLoad, contributions, waitList, sortBy]
  · simp [h]

/-- Settles O60: each STATUS_ASK row, the parts of a report, the bytes and codes, and the reports one by one. -/
theorem statusIsAnsweredInParts : Obligations.StatusIsAnsweredInParts := by
  refine ⟨fun req index part s => ?_, fun report => ⟨?_, one_le_partCount report, partCount_sub_one_lt⟩,
    fun n => ⟨rfl, byte2_eq n, byte4_eq n⟩, ?_, fun s n => ?_⟩
  · intro reply
    refine ⟨fun hs => ?_, fun hs => ?_, fun hs => ?_, fun hs => ?_, fun hs => ?_, fun hs => ?_⟩
    · exact exec_statusAsk (report := summaryReport) rfl rfl hs
    · refine exec_statusAsk (report := (zoneReport · index)) ?_ rfl hs
      rw [Bool.decide_and]
      rfl
    · refine exec_statusAsk (report := (outputReport · index)) ?_ rfl hs
      rw [Bool.decide_and]
      rfl
    · exact exec_statusAsk (report := runReport) rfl rfl hs
    · refine exec_statusAsk (report := (boardReport · index)) ?_ rfl hs
      rw [Bool.decide_and]
      rfl
    · exact exec_statusAsk (report := firstFaultReport) rfl rfl hs
  · exact (flatMap_partOf report _).trans (List.take_of_length_le (length_le_partCount report))
  · exact ⟨rfl, rfl, rfl, rfl, rfl, rfl, rfl, rfl, rfl, rfl, rfl, rfl, rfl, rfl, rfl, rfl, rfl, rfl, rfl, rfl, rfl, rfl⟩
  · -- The parts by which the statement spells the reports are those of the model.
    intro yes may1 may2 may4 list numbers modules cmd view
    have hmay1 : may1 = optional 1 := funext fun x => (optional_one x).symm
    have hmay2 : may2 = optional 2 := by funext x; cases x <;> rfl
    have hmay4 : may4 = optional 4 := by funext x; cases x <;> rfl
    have hlist : ∀ {α : Type} (f : α → List Byte) (xs : List α), list (xs.map f) = counted f xs :=
      fun f xs => (counted_eq f xs).symm
    have hnumbers : numbers = upTo 1 := funext fun last => (upTo_one last).symm
    have hmodules : modules = fun x => byte1 (modulesIn s x) := by simp only [modules, hnumbers]; rfl
    have hcmd : cmd = fun c => byte1 (cmdCodeOpt c) := by
      funext c
      cases c with
      | none => rfl
      | some c => cases c <;> rfl
    have hview : view = viewBytes := by
      funext v valid
      cases v with
      | fan sp t l => cases sp <;> rfl
      | _ => rfl
    have hyes : yes = flag := rfl
    clear_value modules may1 may2 may4 list numbers cmd view yes
    subst hmay1 hmay2 hmay4 hmodules hnumbers hcmd hview hyes
    refine ⟨?_, ?_, ?_, ?_, ?_, ?_⟩
    · delta summaryReport
      rw [zoneNumbers_eq]
      rfl
    · simp only [hlist]
      rfl
    · intro e known fan r place
      have mark : fanPart fan (flag (known && s.ff.marks.contains n)) =
          if fan then byte1 1 ++ flag (s.ff.marks.contains n) else [0#8, 0#8] := fanPart_mark known (isFan e) _
      refine (outputReport_eq s n).trans ?_
      change outputBytes fan r _ _ _ _ (known && _) = _
      clear_value r fan
      delta outputBytes
      rw [mark, fanPart_flag, fanPart_engaged]
      rfl
    · simp only [hlist]
      rfl
    · rw [boardReport_eq]
      simp only [hlist]
      rfl
    · cases hk : s.capture.locked <;> simp only [firstFaultReport, hk] <;> rfl

end Sys2Proof.Machine
end

section
/-! What commands leave of the Fault Capture Unit: most commands are block work (Work), and a LOCKED record goes only
by a cold start or a matching FAULT_ACK (O6). -/

namespace Sys2Proof.Machine

variable {s t u : State}

/-! ### Commands that are block work -/

theorem work_acting {work : State → State} (he : acting work s = .next t) (hw : Work s (work s)) : Work s t := by
  cases he
  exact work_ite hw (.refl s)

theorem work_serving {row : Instr} {work : State → State} (he : serving row work s = .next t)
    (hw : ∀ {u}, Work u (work u)) : Work s t :=
  work_acting he (work_ite ((work_setPanel (.refl s)).trans hw) (.refl s))

theorem work_serveOutputReset {q : Requester} {o : Nat} : Work s (serveOutputReset q o s) := by
  have hn : Work s (onOutput o (newAttempt o .reset) s) := work_onOutput (.refl s) fun _ h => work_newAttempt h
  exact work_ite (work_answer (.refl s)) (work_ite (work_answer (.refl s))
    (work_ite (work_endStep (work_answer (work_drain hn))) (work_answer (.refl s))))

theorem work_serveTrailRead {q : Requester} {n k : Nat} : Work s (serveTrailRead q n k s) :=
  work_ite (work_answer (.refl s)) (work_answerFrame (.refl s))

theorem work_serveStatus {q : Requester} {selector index part : Nat} {inRange : Bool} {report : State → List Byte} :
    Work s (serveStatus q selector index part inRange report s) :=
  have hm : Work s (markClearing selector s) := work_ite (work_setPanel (.refl s)) (.refl s)
  work_ite (work_answer (.refl s)) (work_ite (work_answer (.refl s)) (work_answerFrame hm))

theorem work_serveRestart {q : Requester} : Work s (serveRestart q s) := by
  unfold serveRestart
  split
  · exact work_answer (.refl s)
  · exact work_answerFrame (.refl s)

theorem work_serveTestEnd {q : Requester} : Work s (serveTestEnd q s) :=
  work_ite (work_answer (.refl s))
    (work_ite (work_endStep (work_answer (work_drain (work_instructEnd (.refl s))))) (work_answer (.refl s)))

theorem work_serveHoldAsk {q : Requester} : Work s (serveHoldAsk q s) := by
  unfold serveHoldAsk
  split
  · exact work_answer (.refl s)
  · exact work_endStep (work_leaveService (work_setHold (.refl s)))

theorem work_holdEnded : Work s (holdEnded s) := by
  unfold holdEnded
  split
  · exact work_refuseHold (.refl s)
  · exact work_drain (work_holdProgress (work_releaseHold (.refl s)))
  · exact .refl s

theorem work_serveHoldEnd {q : Requester} : Work s (serveHoldEnd q s) :=
  work_ite (work_answer (.refl s)) (work_endStep (work_answer work_holdEnded))

theorem work_takeHead : Work s (takeHead s) := by
  unfold takeHead
  split
  · exact .refl s
  rename_i f rest hi
  have hp : Work s (setPanel (fun p => { p with inbound := rest }) s) :=
    work_setPanel (.refl s) (hi := by rw [hi]; exact Nat.le_succ _)
  have hr : ∀ {r u}, Work s u → Work s (refuseRequest f r u) := fun h =>
    work_ite (work_answerWrite h) (work_answer h)
  refine work_ite ?_ (.refl s)
  unfold takeRequest
  refine work_ite (hr hp) ?_
  split
  · exact hr hp
  · exact work_setPanel hp

theorem work_sendComplete : Work s (sendComplete s) := by
  unfold sendComplete
  split
  · exact work_ite (work_setPlant (.refl s)) (.refl s)
  · exact .refl s

theorem work_ackTaken {r : Nat} : Work s (ackTaken r s) := by
  unfold ackTaken
  split
  · split
    · exact work_endStep (work_commandAnswered (.refl s))
    · exact work_countError (.refl s)
  · exact work_countStray (.refl s)

theorem work_stateTaken {bs : List Byte} : Work s (stateTaken bs s) := by
  unfold stateTaken
  split
  · exact work_ite (work_endStep (work_pollAnswered (.refl s))) (work_countError (.refl s))
  · exact work_countStray (.refl s)

theorem work_forwardTaken {k : Nat} {p : List Byte} : Work s (forwardTaken k p s) := by
  unfold forwardTaken
  split
  · split
    · exact work_ite (work_countError (.refl s)) (work_endStep (work_forwardAnswered (.refl s)))
    · exact work_countStray (.refl s)
  · exact work_countStray (.refl s)

theorem work_forwardWaited {place : Nat} : Work s (forwardWaited place s) := by
  unfold forwardWaited
  split
  · exact work_endStep (work_sendFail (work_setPlant (.refl s) (hf := List.length_eraseIdx_le ..)))
  · exact .refl s

theorem work_noticeTaken {during : List (List IntakeArrival)} (h : Work s t) : Work s (noticeTaken during t) := by
  unfold noticeTaken
  split
  · exact h
  · exact work_ite (work_endStep (work_placementDecision (work_selector h))) (work_selector h)

theorem work_giveForEntry {during : List (List IntakeArrival)} : Work s (giveForEntry during s) :=
  work_ite (Work.of_eq (.refl s) rfl) (.refl s)

theorem work_statusAsk {row : Instr} {q : Requester} {selector index part : Nat} {inRange : Bool}
    {report : State → List Byte}
    (he : serving row (serveStatus q selector index part inRange report) s = .next t) : Work s t :=
  work_serving he work_serveStatus

/-- The commands whose whole effect is block work: neither a start, the supply or the clock, nor a change of mode, of
the table window or of tables, nor a test run, nor the sending of a frame, nor a FAULT_ACK. -/
def isBlockWork : Instr → Bool
  | .powerUp _ | .powerFailure | .resetLineAssert | .resetLineRelease _ | .warmStart _ | .uptimeTick
  | .outboundFrameSent | .faultAck _ _ _ | .enterService _ | .enterNormal _ | .validationComplete
  | .tsel _ _ _ | .trd _ | .twr _ _ _ | .nvWriteComplete _ | .testRun _ _ => false
  | _ => true

theorem exec_work {c : Instr} (hc : isBlockWork c = true) (he : exec c s = .next t) : Work s t := by
  cases c with
  | powerUp | powerFailure | resetLineAssert | resetLineRelease | warmStart | uptimeTick | outboundFrameSent | faultAck
  | enterService | enterNormal | validationComplete | tsel | trd | twr | nvWriteComplete | testRun => cases hc
  | panelFrameReceived bs => exact work_acting he (work_panelBytes (.refl s))
  | requestArrival f => exact work_acting he (work_joinInbound (.refl s))
  | requestTaken => exact work_acting he work_takeHead
  | forwardCandidate f => exact work_acting he (work_candidateTaken (.refl s))
  | zoneEvent z a k => cases he; exact work_ite (work_endStep (work_zoneEventTaken (.refl s))) (.refl s)
  | zoneReset z => exact work_acting he (work_zoneResetTaken (.refl s))
  | supplyState b x => cases he; exact work_ite (work_endStep (work_supplyStateTaken (.refl s))) (.refl s)
  | ffState x p => cases he; exact work_ite (work_endStep (work_ffStateTaken (.refl s))) (.refl s)
  | bldCmd x p => cases he; exact work_ite (work_endStep (work_bldCmdTaken (.refl s))) (.refl s)
  | zoneIsolateOn q z => exact work_serving he work_serveIsolateOn
  | zoneIsolateOff q z => exact work_serving he work_serveIsolateOff
  | outputReset q o => exact work_serving he work_serveOutputReset
  | trailRead q n k => exact work_serving he work_serveTrailRead
  | statusAskSummary q i p => exact work_statusAsk (report := summaryReport) he
  | statusAskZone q i p => exact work_statusAsk (report := (zoneReport · i)) he
  | statusAskOutput q i p => exact work_statusAsk (report := (outputReport · i)) he
  | statusAskRun q i p => exact work_statusAsk (report := runReport) he
  | statusAskBoard q i p => exact work_statusAsk (report := (boardReport · i)) he
  | statusAskFirstFault q i p => exact work_statusAsk (report := firstFaultReport) he
  | modeRestart q => exact work_serving he work_serveRestart
  | testEnd q => exact work_serving he work_serveTestEnd
  | holdAsk q => exact work_serving he work_serveHoldAsk
  | holdEnd q => exact work_serving he work_serveHoldEnd
  | placementDecision during => cases he; exact work_ite (work_noticeTaken work_giveForEntry) (.refl s)
  | delayTimerExpiry => exact work_acting he (work_ite (work_endStep (work_delayExpired (.refl s))) (.refl s))
  | establishDeadlineExpiry =>
    exact work_acting he (work_ite (work_endStep (work_deadlineExpired (.refl s))) (.refl s))
  | proofTimerExpiry o => exact work_acting he (work_ite (work_endStep (work_proofExpired (.refl s))) (.refl s))
  | startHeld f => exact work_acting he (work_warnHeld (.refl s))
  | supervisionTimerExpiry => exact work_acting he (work_ite (work_panelLost (.refl s)) (.refl s))
  | plantSendComplete => exact work_acting he work_sendComplete
  | plantFrameReceived bs => exact work_acting he (work_plantBytes (.refl s))
  | cmdAck ch r => exact work_acting he work_ackTaken
  | stateReply bs => exact work_acting he work_stateTaken
  | forwardReply k p => exact work_acting he work_forwardTaken
  | pacerTimerExpiry => exact work_acting he (work_ite (work_endStep (work_setPlant (.refl s))) (.refl s))
  | forwardWaitExpiry n => exact work_acting he work_forwardWaited
  | holdTimerExpiry => exact work_acting he (work_ite (work_endStep (work_releaseHold (.refl s))) (.refl s))
  | replyWindowExpiry =>
    cases he
    refine work_ite ?_ (.refl s)
    dsimp only
    split
    · exact work_ite (work_endStep (work_windowExpired (.refl s))) (.refl s)
    · exact .refl s

/-! ### The other commands add to the Fault Capture Unit -/

/-- R161, R164, R165: recording and capturing are all that becomes of the Fault Capture Unit. -/
structure Accrues (s t : State) : Prop where
  capture : CapGrows s.capture t.capture

theorem Accrues.refl (s : State) : Accrues s s := ⟨.refl _⟩

theorem Accrues.base (h : Accrues s t) (hw : Base t u) : Accrues s u := ⟨h.capture.trans hw.capture⟩

theorem Accrues.work (h : Accrues s t) (hw : Work t u) : Accrues s u := h.base hw.toBase

/-- A change of parts other than the Fault Capture Unit. -/
theorem Accrues.of_eq (h : Accrues s t) (e : u.capture = t.capture) : Accrues s u := ⟨e ▸ h.capture⟩

theorem accrues_ite {c : Prop} [Decidable c] {a b : State} (ha : Accrues s a) (hb : Accrues s b) :
    Accrues s (if c then a else b) := by
  split
  · exact ha
  · exact hb

theorem accrues_acting {work : State → State} (he : acting work s = .next t) (hw : Accrues s (work s)) :
    Accrues s t := by
  cases he
  split
  · exact hw
  · exact .refl s

theorem accrues_serving {row : Instr} {work : State → State} (he : serving row work s = .next t)
    (hw : ∀ {u}, Accrues s u → Accrues s (work u)) : Accrues s t := by
  refine accrues_acting he ?_
  split
  · exact hw ((Accrues.refl s).of_eq rfl)
  · exact .refl s

theorem accrues_answer (h : Accrues s t) {q : Requester} {r : Result} : Accrues s (answer q r t) :=
  h.work (work_answer (.refl t))

theorem accrues_interruptWrite (h : Accrues s t) : Accrues s (interruptWrite t) := by
  unfold interruptWrite
  split
  · exact h
  · exact h.of_eq rfl

theorem accrues_changeMode (h : Accrues s t) {m : Mode} : Accrues s (changeMode m t) :=
  (h.of_eq (u := { t with mode := m }) rfl).work (work_raise (.refl _))

theorem accrues_configInvalid (h : Accrues s t) {r : EntryRef} : Accrues s (configInvalid r t) :=
  (h.of_eq (u := { t with failing := some r }) rfl).work (work_raise (.refl _))

theorem accrues_leaveStart (h : Accrues s t) {bad : List EntryRef} : Accrues s (leaveStart bad t) := by
  have hr : ∀ x, Accrues s { readTables bad t with failing := x } := fun _ => h.of_eq rfl
  unfold leaveStart
  dsimp only
  split
  · exact (accrues_changeMode (accrues_configInvalid (hr _))).work (work_startPacer (work_buildSlowRing (.refl _)))
  · exact (accrues_changeMode (hr none)).work (work_placementDecision (work_startPacer (work_buildSlowRing (.refl _))))

/-- R168: a warm start records events and empties nothing. -/
theorem accrues_warmStart (h : Accrues s t) {cause : RestartCause} {bad : List EntryRef} :
    Accrues s (warmStart cause bad t) :=
  have hb : Accrues s (startBlocks (interruptWrite t)) := (accrues_interruptWrite h).of_eq rfl
  accrues_leaveStart (hb.work (work_raise (.refl _)))

/-- R154: the head frame leaves the queue. -/
theorem accrues_headSent : Accrues s (headSent s) := by
  unfold headSent
  split
  · exact .refl s
  unfold afterSent
  split
  · exact (Accrues.refl s).of_eq rfl
  · split <;> exact (Accrues.refl s).of_eq rfl
  · exact (Accrues.refl s).of_eq rfl

theorem accrues_serveEnterService {q : Requester} (h : Accrues s t) : Accrues s (serveEnterService q t) := by
  unfold serveEnterService
  split
  · exact accrues_answer h
  · split
    · exact accrues_answer (accrues_changeMode h)
    · exact accrues_answer h

theorem accrues_serveEnterNormal {q : Requester} (h : Accrues s t) : Accrues s (serveEnterNormal q t) := by
  unfold serveEnterNormal
  split
  · exact accrues_answer h
  · split
    · exact accrues_answer h
    · exact h.of_eq rfl

/-- R171: the steps at the entry to NORMAL. -/
theorem accrues_enterNormalMode {during : List (List IntakeArrival)} (h : Accrues s t) :
    Accrues s (enterNormalMode during t) := by
  have hz : Accrues s (buildSlowRing (reevaluateZones { t with failing := none })) :=
    (h.of_eq (u := { t with failing := none }) rfl).work (work_buildSlowRing (work_reevaluateZones (.refl _)))
  exact (accrues_changeMode hz).work
    (work_placementDecision (work_drain (work_ite (work_revokeHold (.refl _)) (.refl _))))

theorem accrues_serveValidation {q : Requester} (h : Accrues s t) : Accrues s (serveValidation q t) := by
  have ht : Accrues s { t with validating := none, entryIntake := [] } := h.of_eq rfl
  unfold serveValidation
  dsimp only
  split
  · exact accrues_answer (accrues_configInvalid ht)
  · exact (accrues_enterNormalMode ht).work (work_endStep (work_answer (work_drain (.refl _))))

theorem accrues_serveTsel {q : Requester} {x i : Nat} (h : Accrues s t) : Accrues s (serveTsel q x i t) := by
  unfold serveTsel
  split
  · exact accrues_answer h
  split
  · exact accrues_answer h
  split
  · refine accrues_answer ?_
    exact h.of_eq rfl
  · exact accrues_answer h

theorem accrues_serveTrd {q : Requester} (h : Accrues s t) : Accrues s (serveTrd q t) := by
  unfold serveTrd
  split
  · exact accrues_answer h
  split
  · exact accrues_answer h
  split
  · exact accrues_answer h
  · exact h.of_eq rfl

theorem accrues_serveTwr {q : Requester} {i : Nat} {e : List Byte} (h : Accrues s t) :
    Accrues s (serveTwr q i e t) := by
  unfold serveTwr
  split
  · exact h.work (work_answerWrite (.refl t))
  · exact h.of_eq rfl

/-- R174: an entry comes into force. -/
theorem accrues_bringIntoForce (h : Accrues s t) {w : NvWrite} : Accrues s (bringIntoForce w t) := by
  have hn : Accrues s { t with nv := putEntry w.ref w.fields t.nv } := h.of_eq rfl
  unfold bringIntoForce
  dsimp only
  split
  · have ho := hn.base (base_outputWritten (.refl _) (o := w.ref.index) (new := outputOfFields w.fields))
    exact ho.work (work_ffEntryWritten (.refl _))
  · refine Accrues.work ?_ (work_boardWritten (.refl _))
    exact hn.of_eq rfl
  · exact hn.of_eq rfl

theorem accrues_serveNvWrite {w : NvWrite} {equal : Bool} (h : Accrues s t) : Accrues s (serveNvWrite w equal t) := by
  have ht : Accrues s { t with nvWrite := none } := h.of_eq rfl
  unfold serveNvWrite
  dsimp only
  split
  · have hd := (accrues_bringIntoForce ht (w := w)).work (work_drain (.refl _))
    exact Accrues.work (hd.of_eq (u := stepCursor _) rfl) (work_endStep (work_answerWrite (.refl _)))
  · refine Accrues.work ?_ (work_answerWrite (.refl _))
    exact ht.of_eq rfl

/-- R31, R39: a test run is loaded. -/
theorem accrues_loadRun (h : Accrues s t) {test : Bool} {n : Nat} {served : List Nat} :
    Accrues s (loadRun test n served t) := by
  have hb : ∀ u : State, Work u
      (takeReports (beginFire (raise .runStart n (served.getD 0 0 * 256 + served.getD 1 0) u))) :=
    fun u => work_takeReports (work_beginFire (work_raise (.refl u)))
  unfold loadRun
  refine Accrues.work (h.of_eq ?_) (work_advance (work_ite (hb _) (work_setWatches (hb _))))
  rfl

theorem accrues_serveTestRun {q : Requester} {n : Nat} (h : Accrues s t) : Accrues s (serveTestRun q n t) := by
  have hl : Accrues s (instructTest n t) := by
    unfold instructTest
    split
    · exact h
    · exact accrues_loadRun h
  unfold serveTestRun
  iterate 5
    split
    · exact accrues_answer h
  exact hl.work (work_endStep (work_answer (work_drain (.refl _))))

/-! ### A LOCKED record (R165, R166) -/

/-- R163, R166: the commands that may empty the record: a cold start, and a FAULT_ACK with the record's own sequence and
count. -/
def mayEmpty (s : State) : Instr → Prop
  | .powerUp _ => True
  | .faultAck _ n l => ∃ k, s.capture.locked = some k ∧ n = k.entry.sequence ∧ l = s.capture.later
  | _ => False

/-- R166: a FAULT_ACK that names another record, or another count, is refused. -/
theorem accrues_serveFaultAck {q : Requester} {n l : Nat} (hc : ¬ mayEmpty s (.faultAck q n l))
    (h : u.capture = s.capture) : Accrues s (serveFaultAck q n l u) := by
  have hg : Accrues s u := (Accrues.refl s).of_eq h
  unfold serveFaultAck
  split
  · exact accrues_answer hg
  · rename_i k hk
    rw [h] at hk
    rw [h, if_neg fun hm => hc ⟨k, hk, hm⟩]
    exact accrues_answer hg

/-- Every other command adds to the record and to the trail. -/
theorem exec_accrues {c : Instr} (hc : ¬ mayEmpty s c) (he : exec c s = .next t) : Accrues s t := by
  cases c with
  | powerUp bad => exact absurd trivial hc
  | faultAck q n l =>
    refine accrues_acting he ?_
    split
    · exact accrues_serveFaultAck hc rfl
    · exact .refl s
  | resetLineAssert => cases he; exact (accrues_interruptWrite (.refl s)).of_eq rfl
  | powerFailure => cases he; exact (accrues_interruptWrite (.refl s)).of_eq rfl
  | resetLineRelease bad =>
    cases he
    split
    · exact .refl s
    · split
      · exact accrues_warmStart ((Accrues.refl s).of_eq (u := { s with resetHeld := false }) rfl)
      · exact (Accrues.refl s).of_eq rfl
  | warmStart bad =>
    refine accrues_acting he ?_
    split
    · exact accrues_warmStart (.refl s)
    · exact .refl s
  | uptimeTick =>
    cases he
    refine (Accrues.refl s).of_eq ?_
    split
    · rfl
    · split <;> rfl
  | outboundFrameSent => exact accrues_acting he accrues_headSent
  | enterService q => exact accrues_serving he accrues_serveEnterService
  | enterNormal q => exact accrues_serving he accrues_serveEnterNormal
  | tsel q x i => exact accrues_serving he accrues_serveTsel
  | trd q => exact accrues_serving he accrues_serveTrd
  | twr q i e => exact accrues_serving he accrues_serveTwr
  | testRun q n => exact accrues_serving he accrues_serveTestRun
  | validationComplete =>
    cases he
    refine accrues_ite ?_ (.refl s)
    dsimp only
    split
    · exact accrues_serveValidation (.refl s)
    · exact .refl s
  | nvWriteComplete b =>
    cases he
    refine accrues_ite ?_ (.refl s)
    dsimp only
    split
    · exact accrues_serveNvWrite (.refl s)
    · exact .refl s
  | _ => exact (Accrues.refl s).work (exec_work rfl he)

/-- Settles O6: a command that may not empty the record only adds to it. -/
theorem firstFaultLeavesByAcknowledgementOnly : Obligations.FirstFaultLeavesByAcknowledgementOnly := by
  intro c s t k hk he
  by_cases hc : mayEmpty s c
  · cases c with
    | powerUp bad => exact .inr (.inl ⟨bad, rfl⟩)
    | faultAck req n l =>
      obtain ⟨k', hk', rfl, rfl⟩ := hc
      cases hk.symm.trans hk'
      exact .inr (.inr ⟨req, rfl⟩)
    | _ => cases hc
  · obtain ⟨⟨locked, lost, later, -⟩⟩ := exec_accrues hc he
    exact .inl ⟨locked k hk, lost, later⟩

end Sys2Proof.Machine
end

section
/-! The Fault Capture Unit case by case: an event and a report (O58), FAULT_ACK and TRAIL_READ (O59). -/

namespace Sys2Proof.Machine

variable {s : State}

/-! ### Events (R161) -/

theorem keepNewest_eq (held : List TrailEntry) (e : TrailEntry) :
    keepNewest held e = (if held.length < 256 then held else held.drop (held.length - 255)) ++ [e] := by
  unfold keepNewest Config.trailSize
  split
  · rw [show held.length + 1 - 256 = 0 by omega, List.drop_zero]
  · rw [show held.length + 1 - 256 = held.length - 255 by omega, List.drop_append_of_le_length (by omega)]

/-- R161: an event writes its EVENT frame, the trail and the next sequence number. -/
theorem recordEntry_eq (ev : Ev) (subject detail : Nat) (s : State) :
    recordEntry ev subject detail s = { s with
      panel := (recordEntry ev subject detail s).panel
      capture := { s.capture with
        trail := keepNewest s.capture.trail (nextEntry s ev subject detail)
        nextSequence := (s.capture.nextSequence + 1) % 65536 } } := by
  simp only [recordEntry, setPanel, setCapture]

theorem capture_recordEntry (ev : Ev) (subject detail : Nat) (s : State) :
    (recordEntry ev subject detail s).capture =
      { s.capture with
        trail := keepNewest s.capture.trail (nextEntry s ev subject detail)
        nextSequence := (s.capture.nextSequence + 1) % 65536 } := by
  rw [recordEntry_eq]

theorem locked_recordEntry (ev : Ev) (a b : Nat) (s : State) :
    (recordEntry ev a b s).capture.locked = s.capture.locked := by rw [capture_recordEntry]

theorem later_recordEntry (ev : Ev) (a b : Nat) (s : State) :
    (recordEntry ev a b s).capture.later = s.capture.later := by rw [capture_recordEntry]

/-! ### What is captured with an event (R47, R114) -/

/-- R47: a scenario with steps gives the step at the cursor, or its last. -/
theorem cursorStep_eq (h : 1 ≤ (scenarioEntry s).stepCount) :
    cursorStep s = (scenarioEntry s).firstStep +
      if s.run.cursor < (scenarioEntry s).stepCount then s.run.cursor else (scenarioEntry s).stepCount - 1 := by
  unfold cursorStep
  dsimp only
  split
  · rfl
  · omega

theorem faultFacts_eq (s : State) (o : Nat) :
    faultFacts s o =
      if fireMode s then ⟨s.run.scenario, (sget none s.run.lastIssued o).getD (cursorStep s), runSeconds s⟩
      else ⟨0, 0, 0⟩ := by
  unfold faultFacts runFacts
  split <;> rfl

/-- R114: a watch of the first served zone exists where the watches' zones hold it. -/
theorem firstServedSum_eq (s : State) :
    firstServedSum s = match s.run.served with
      | z :: _ => if (s.watches.map (fun w => w.zone)).contains z then extractSum s z else 0
      | [] => 0 := by
  unfold firstServedSum
  cases s.run.served with
  | nil => rfl
  | cons z zs =>
    have hz : (fun w : Watch => w.zone == z) = fun w => z == w.zone := funext fun _ => BEq.comm
    simp only [hz, List.contains_eq_any_beq, List.any_map, Function.comp_def]

/-! ### Reports (R159, R160, R164, R165) -/

/-- R160: a module's loss is CRITICAL where it serves a run output. -/
theorem any_outputsOfModule (s : State) (m : Nat) :
    (outputsOfModule s m).any (isRunOutput s) =
      (configured s).any (fun o => (outEntry s o).module == m && isRunOutput s o) := List.any_filter

theorem report_advisory {r : Report} (h : isCritical s r = false) :
    report r s = recordEntry r.event r.subject r.detail s := by
  simp [report, h]

/-- R164: a CRITICAL report locks an EMPTY record. -/
theorem report_captured {r : Report} (h : isCritical s r = true) (hk : s.capture.locked = none) :
    report r s = recordEntry .ffrCaptured r.subject s.capture.nextSequence
      (setCapture (fun c => { c with locked := some (capturedOf s r) })
        (recordEntry r.event r.subject r.detail s)) := by
  simp only [report, h, takeCritical, locked_recordEntry, hk, if_true, Option.isNone_none]

/-- R165: a CRITICAL report counts against a LOCKED record. -/
theorem report_counted {r : Report} {k : Captured} (h : isCritical s r = true) (hk : s.capture.locked = some k) :
    report r s =
      setCapture
        (fun c => { c with
          lost := true, later := if s.capture.later < 255 then s.capture.later + 1 else s.capture.later })
        (recordEntry r.event r.subject r.detail s) := by
  simp only [report, h, takeCritical, locked_recordEntry, later_recordEntry, hk, if_true, Option.isNone_some,
    Bool.false_eq_true, if_false, setCapture]

/-- Settles O58: an event, the facts captured with it, and a report by its class and the record. -/
theorem criticalReportsLockTheRecord : Obligations.CriticalReportsLockTheRecord := by
  refine ⟨fun ev subject detail s => ?_, fun s => ?_, fun r s => ?_⟩
  · intro t held kept
    refine (recordEntry_eq ev subject detail s).trans ?_
    rw [keepNewest_eq]
    rfl
  · intro e step seconds idle
    have facts : 1 ≤ e.stepCount → cursorStep s = step ∧ runSeconds s = seconds :=
      fun h => ⟨cursorStep_eq h, rfl⟩
    refine ⟨fun h => ?_, fun h o => ?_, firstServedSum_eq s⟩
    · rw [runFacts, (facts h).1, (facts h).2]
    · rw [faultFacts_eq, (facts h).1, (facts h).2]
  · intro u critical facts
    have hc : isCritical s r = critical := by
      obtain ⟨ev, subject, detail, clean, given⟩ := r
      cases ev with
      | moduleMissing => exact any_outputsOfModule s subject
      | startHeld => exact congrArg (· && isRunOutput s subject) (Bool.decide_and ..).symm
      | _ => rfl
    by_cases hadvisory : critical = false
    · rw [if_pos hadvisory, report_advisory (hc.trans hadvisory)]
    · have hcritical : isCritical s r = true := hc.trans (Bool.eq_true_of_not_eq_false hadvisory)
      rw [if_neg hadvisory]
      cases hk : s.capture.locked with
      | none => exact report_captured hcritical hk
      | some k => exact report_counted hcritical hk

/-! ### FAULT_ACK (R166) -/

theorem serveFaultAck_enterServing (req : Requester) (sequence later : Nat) (row : Instr) (s : State) :
    serveFaultAck req sequence later (enterServing row s) =
      match s.capture.locked with
      | none => answer req .ok s
      | some k =>
        if sequence = k.entry.sequence ∧ later = s.capture.later then
          answer req .ok { s with capture := { s.capture with locked := none, lost := false, later := 0 } }
        else answer req .badValue s := by
  have hcap : (enterServing row s).capture = s.capture := rfl
  have hset : ∀ f, setCapture f (enterServing row s) = enterServing row { s with capture := f s.capture } :=
    fun _ => rfl
  cases hk : s.capture.locked with
  | none => simp only [serveFaultAck, hcap, hk, answer_enterServing]
  | some k => simp only [serveFaultAck, hcap, hk, hset, answer_enterServing]

/-! ### TRAIL_READ (R167) -/

/-- R167: the entries from the start on, at most 4, and the gap flag where the start is no longer held. -/
theorem trailAnswer_eq (c : Capture) {start : Nat} (h : start < 65536) (count : Nat) :
    let d := (c.nextSequence + 65536 - start) % 65536
    trailAnswer c start count =
      (if d = 0 then []
        else if d ≤ c.trail.length then (c.trail.drop (c.trail.length - d)).take (min count 4)
        else c.trail.take (min count 4),
       decide (c.trail.length < d)) := by
  intro d
  simp only [trailAnswer, Nat.mod_eq_of_lt h]
  by_cases h0 : d = 0
  · simp [d, h0]
  · by_cases hd : d ≤ c.trail.length
    · simp [d, h0, hd]
    · simp [d, h0, hd, Nat.lt_of_not_le hd]

theorem serveTrailRead_enterServing (req : Requester) (start count : Nat) (row : Instr) (s : State) :
    serveTrailRead req start count (enterServing row s) =
      if count = 0 then answer req .badValue s
      else answerFrame req 0x45 (trailPayload s.capture start count) .nothing s := by
  have hcap : (enterServing row s).capture = s.capture := rfl
  rw [serveTrailRead, answer_enterServing, hcap, answerFrame_enterServing]
  rfl

theorem flag_decide (p : Prop) [Decidable p] : flag (decide p) = [if p then 1#8 else 0#8] := by
  by_cases h : p <;> simp only [h, if_true, if_false, decide_true, decide_false] <;> rfl

/-- Settles O59: each row is served in its own way, whatever request is in service. -/
theorem faultsAreAcknowledgedAndTrailRead : Obligations.FaultsAreAcknowledgedAndTrailRead := by
  intro req start count s
  refine ⟨fun hs => ?_, fun hs hstart => ?_⟩
  · refine (serving_served hs).trans (congrArg _ ?_)
    exact (serveFaultAck_enterServing req start count _ s).trans (by cases s.capture.locked <;> rfl)
  · refine (serving_served hs).trans (congrArg _ ?_)
    rw [serveTrailRead_enterServing, trailPayload, trailAnswer_eq s.capture hstart, flag_decide]
    rfl

end Sys2Proof.Machine
end

section
/-! Starts (chapter 11): what the read, the validation and the way out of START leave, and the warm starts (O17). -/

namespace Sys2Proof.Machine

variable {s t : State}

/-! ### Events in sequence (R161) -/

theorem recordAll_cons (ev : Ev) (a b : Nat) (es : List (Ev × Nat × Nat)) (s : State) :
    recordAll ((ev, a, b) :: es) s = recordAll es (recordEntry ev a b s) := by
  rw [recordAll, List.foldl_cons, recordAll]

/-- R161: events write the Panel Link Interface and the Fault Capture Unit alone. -/
theorem recordAll_eq (es : List (Ev × Nat × Nat)) (s : State) :
    recordAll es s = { s with panel := (recordAll es s).panel, capture := (recordAll es s).capture } := by
  induction es generalizing s with
  | nil => rfl
  | cons e es ih =>
    obtain ⟨ev, a, b⟩ := e
    rw [recordAll_cons, ih, recordEntry_eq]

/-- R161: what events leave of the Fault Capture Unit goes by the Unit and the clock alone. -/
theorem capture_recordAll_congr {es : List (Ev × Nat × Nat)} (hc : t.capture = s.capture) (hu : t.uptime = s.uptime) :
    (recordAll es t).capture = (recordAll es s).capture := by
  induction es generalizing s t with
  | nil => exact hc
  | cons e es ih =>
    obtain ⟨ev, a, b⟩ := e
    rw [recordAll_cons, recordAll_cons]
    refine ih ?_ ?_
    · rw [capture_recordEntry, capture_recordEntry, nextEntry, nextEntry, hc, hu]
    · rw [(captures_recordEntry ev a b t).uptime, (captures_recordEntry ev a b s).uptime, hu]

/-- R154: while their EVENT frames are admitted, events leave of the Interface all but its outbound queue. -/
theorem panel_recordAll {es : List (Ev × Nat × Nat)} (h : s.panel.outbound.length + es.length ≤ 32) :
    (recordAll es s).panel = { s.panel with outbound := (recordAll es s).panel.outbound } := by
  induction es generalizing s with
  | nil => rfl
  | cons e es ih =>
    obtain ⟨ev, a, b⟩ := e
    rw [List.length_cons] at h
    have hp := (panel_recordEntry ev a b s).trans (offerEvent_admitted _ (by omega))
    rw [recordAll_cons, ih (by rw [hp, List.length_append, List.length_singleton]; omega), hp]

/-! ### A decision with nothing to place (R23) -/

theorem waitingSet_nil (hz : s.zones = []) : waitingSet s [] = [] := by
  refine List.eq_nil_iff_forall_not_mem.2 fun z hw => ?_
  have hr : zoneRec s z = coldZone := by rw [zoneRec, hz, sget]
  simp [mem_waitingSet, hr, coldZone] at hw

/-- R23, R25: with every zone NORMAL and no run a decision changes nothing. -/
theorem Cold.placementDecision_eq (h : Cold s) : placementDecision [] s = s := by
  have hz : s.zones = [] := congrArg Prod.fst h.owns
  have hk : keptSet s [] = [] := by
    have hv : s.run.served = [] := congrArg (fun x => x.2.2.1) h.owns
    rw [keptSet, hv, List.filter_nil]
  have hn : newServed s [] (waitingSet s []) = ([], 0) := newServed_none hk (waitingSet_nil hz)
  have ha : asksActive s [] = [] := by rw [asksActive, hn, List.filter_nil]
  have hs : asksSecondary s [] = [] := by rw [asksSecondary, waitingSet_nil hz, List.filter_nil]
  have hr : requested s = s := by rw [requested, ha, hs, requestAll, requestAll, List.foldl_nil, List.foldl_nil]
  rw [placementDecision_quiet, hn, hr, instruct_eq, if_pos h.fire, if_pos rfl]

/-! ### The way out of START (R176) -/

/-- R176: what step 1 of a start leaves, with no more than the event RESTART. -/
structure StartBegun (nv : Tables) (s : State) : Prop where
  awake : awake s = true
  nv : s.nv = nv
  mode : s.mode = .start
  window : s.window = { selected := none, cursor := 0 }
  write : s.nvWrite = none ∧ s.validating = none ∧ s.restartDue = false
  zones : s.zones = []
  run : s.run = coldRun
  watches : s.watches = []
  queue : s.queue = []
  boards : s.boards = []
  plant : s.plant = coldPlant
  panel : ∃ frames, frames.length ≤ 1 ∧ s.panel = { coldPanel with outbound := frames }
  notices : s.selector = [] ∧ s.entryIntake = [] ∧ s.runnerIn = [] ∧ s.monitorIn = []

/-- R176, steps 3 to 5, but for their events and the plant link: the tables are read, judged, and the mode follows. -/
def judged (bad : List EntryRef) (s : State) : State :=
  let t := readTables bad s
  { t with
    failing := validate t.tables bad
    mode := if (validate t.tables bad).isNone then .normal else .service }

theorem changeMode_eq (m : Mode) (s : State) :
    changeMode m s = recordEntry .modeChange 0 (modeCode s.mode * 256 + modeCode m) { s with mode := m } := by
  simp [changeMode, raise, report, isCritical]

theorem configInvalid_eq (r : EntryRef) (s : State) :
    configInvalid r s = recordEntry .configInvalid (tableCode r.table) r.index { s with failing := some r } := by
  simp [configInvalid, raise, report, isCritical]

/-- R161: an event does not look at the mode. -/
theorem recordEntry_mode (ev : Ev) (a b : Nat) (m : Mode) (s : State) :
    { recordEntry ev a b s with mode := m } = recordEntry ev a b { s with mode := m } := by
  simp only [recordEntry, setPanel, setCapture, nextEntry]

/-- R176: a start ends with its events, the slow ring and the pacer; its decision finds nothing to place. -/
theorem leaveStart_eq (hm : s.mode = .start) (hc : Cold s) (bad : List EntryRef) :
    leaveStart bad s = startPacer (buildSlowRing (recordAll (startEvents (judged bad s).failing) (judged bad s))) := by
  have hmode : (readTables bad s).mode = .start := hm
  cases hv : validate (readTables bad s).tables bad with
  | none =>
    have hcold : Cold { readTables bad s with failing := none } := ⟨hc.owns, hc.fire⟩
    have hl : leaveStart bad s =
        startPacer (buildSlowRing (changeMode .normal { readTables bad s with failing := none })) := by
      rw [← (hcold.leaves .normal).placementDecision_eq, leaveStart, hv]
    have hj : judged bad s = { readTables bad s with failing := none, mode := .normal } := by
      simp only [judged, hv, Option.isNone_none, if_true]
    rw [hl, changeMode_eq, hmode, hj, startEvents, recordAll_cons]
    rfl
  | some r =>
    have hl : leaveStart bad s =
        startPacer (buildSlowRing (changeMode .service (configInvalid r (readTables bad s)))) := by
      rw [leaveStart, hv]
    have hj : judged bad s = { readTables bad s with failing := some r, mode := .service } := by
      simp only [judged, hv, Option.isNone_some, Bool.false_eq_true, if_false]
    have hinvalid : (configInvalid r (readTables bad s)).mode = .start :=
      (work_raise (.refl { readTables bad s with failing := some r })).mode.trans hmode
    rw [hl, changeMode_eq, hinvalid, configInvalid_eq, recordEntry_mode, hj, startEvents, recordAll_cons,
      recordAll_cons]
    rfl

theorem StartBegun.cold {nv : Tables} (h : StartBegun nv s) : Cold s := by
  constructor
  · simp only [owned, runKey, h.zones, h.run, coldRun]
  · simp [fireMode, h.run, coldRun]

theorem length_startEvents_le (x : Option EntryRef) : (startEvents x).length ≤ 2 := by
  cases x with
  | none => exact Nat.le_succ 1
  | some r => exact le_rfl

/-- R129: the slow ring and the pacer of a start. -/
theorem plant_startPacer_buildSlowRing (h : s.plant = coldPlant) :
    (startPacer (buildSlowRing s)).plant = { coldPlant with
      slowRing := slowMembers s, slowCursor := (slowMembers s).head?, pacer := some s.tables.link.pacer } := by
  rw [startPacer, buildSlowRing, setPlant_plant, setPlant_plant, h]
  rfl

/-- R154, R176: the events of a start are admitted to the outbound queue. -/
theorem StartBegun.panel_recordAll {nv : Tables} (h : StartBegun nv s) (hp : t.panel = s.panel) (x : Option EntryRef) :
    (recordAll (startEvents x) t).panel =
      { coldPanel with outbound := (recordAll (startEvents x) t).panel.outbound } := by
  obtain ⟨frames, hl, hs⟩ := h.panel
  have hroom : t.panel.outbound.length + (startEvents x).length ≤ 32 := by
    have hx := length_startEvents_le x
    rw [hp, hs]
    dsimp only
    omega
  rw [Machine.panel_recordAll hroom, hp, hs]

/-- R176, 3 to 5: what a start leaves once it has begun. -/
theorem StartBegun.leaveStart {nv : Tables} (h : StartBegun nv s) (bad : List EntryRef) :
    let t := leaveStart bad s
    Started bad nv t ∧ t.nv = nv ∧ t.uptime = s.uptime ∧ t.capture = (recordAll (startEvents t.failing) s).capture := by
  intro t
  have ht : t = startPacer (buildSlowRing { judged bad s with
      panel := (recordAll (startEvents (judged bad s).failing) (judged bad s)).panel
      capture := (recordAll (startEvents (judged bad s).failing) (judged bad s)).capture }) := by
    rw [← recordAll_eq]
    exact leaveStart_eq h.mode h.cold bad
  have hp := h.panel_recordAll (t := judged bad s) rfl (judged bad s).failing
  have hc : (recordAll (startEvents (judged bad s).failing) (judged bad s)).capture =
      (recordAll (startEvents (judged bad s).failing) s).capture := capture_recordAll_congr rfl rfl
  clear_value t
  subst ht
  refine ⟨?_, h.nv, rfl, hc⟩
  exact {
    awake := h.awake
    tables := by rw [← h.nv]; rfl
    failing := rfl
    mode := rfl
    window := h.window
    write := h.write
    zones := h.zones
    run := h.run
    watches := h.watches
    outs := rfl
    queue := h.queue
    boards := h.boards
    ff := rfl
    plant := plant_startPacer_buildSlowRing h.plant
    panel := by
      change (recordAll _ _).panel.inbound = _ ∧ _
      rw [hp]
      exact ⟨rfl, rfl, rfl, rfl, rfl, rfl⟩
    notices := h.notices }

/-! ### Warm starts (R168, R176) -/

/-- R168, R176: step 1 of a warm start, with its event RESTART. -/
theorem startBegun_restart (h : awake s = true) (hw : s.nvWrite = none) (cause : RestartCause) :
    StartBegun s.nv (recordEntry .restart 0 (restartCode cause) (startBlocks s)) := by
  have hp := (panel_recordEntry .restart 0 (restartCode cause) (startBlocks s)).trans
    (offerEvent_admitted (p := coldPanel) _ (by decide))
  rw [recordEntry_eq]
  exact {
    awake := h
    nv := rfl
    mode := rfl
    window := rfl
    write := ⟨hw, rfl, rfl⟩
    zones := rfl
    run := rfl
    watches := rfl
    queue := rfl
    boards := rfl
    plant := rfl
    panel := ⟨_, le_rfl, hp⟩
    notices := ⟨rfl, rfl, rfl, rfl⟩ }

/-- R168, R176: a warm start keeps uptime, trail and first-fault record, and RESTART is its first event. -/
theorem warmStart_starts (h : awake s = true) (cause : RestartCause) (bad : List EntryRef) :
    ∃ nv, cutOff s nv ∧ (warmStart cause bad s).nv = nv ∧ Started bad nv (warmStart cause bad s) ∧
      (warmStart cause bad s).uptime = s.uptime ∧
      (warmStart cause bad s).capture =
        (recordAll ((.restart, 0, restartCode cause) :: startEvents (warmStart cause bad s).failing) s).capture := by
  obtain ⟨nv, n, hcut, hi⟩ := interruptWrite_cutOff s
  have hstart : warmStart cause bad s = leaveStart bad
      (recordEntry .restart 0 (restartCode cause) (startBlocks { s with nvWrite := none, nv := nv, free := n })) := by
    simp only [warmStart, hi, raise, report, isCritical, Bool.false_eq_true, if_false]
  have hbegun := startBegun_restart (s := { s with nvWrite := none, nv := nv, free := n }) h rfl cause
  obtain ⟨hstarted, hnv, huptime, hcapture⟩ := hbegun.leaveStart bad
  rw [hstart]
  refine ⟨nv, hcut, hnv, hstarted, huptime.trans ?_, hcapture.trans ?_⟩
  · exact (captures_recordEntry ..).uptime
  · rw [← recordAll_cons]
    exact capture_recordAll_congr rfl rfl

/-- Settles O17: the two warm starts, and what is not due or not held. -/
theorem warmStartsKeepTheRecords : Obligations.WarmStartsKeepTheRecords := by
  intro bad s
  refine ⟨fun hp hr => ?_, fun ha hd => ?_, fun hd => ?_, fun hr => ?_, fun hr hp => ?_⟩
  · have ha : awake { s with resetHeld := false } = true := awake_iff.2 ⟨hp, rfl⟩
    obtain ⟨nv, hcut, hnv, hstarted, huptime, hcapture⟩ := warmStart_starts ha .resetLine bad
    refine ⟨nv, _, hcut, ?_, hnv, hstarted, huptime, hcapture.trans (capture_recordAll_congr rfl rfl)⟩
    simp [exec, execResetLineRelease, hp, hr]
  · obtain ⟨nv, hcut, hnv, hstarted, huptime, hcapture⟩ := warmStart_starts ha .modeRestart bad
    refine ⟨nv, _, hcut, ?_, hnv, hstarted, huptime, hcapture⟩
    simp [exec, execWarmStart, acting_awake ha, hd]
  · simp [exec, execWarmStart, acting, hd]
  · simp [exec, execResetLineRelease, hr]
  · simp [exec, execResetLineRelease, hr, hp]

end Sys2Proof.Machine
end

section
/-! The service commands as block work on a changed state: a change of mode, a write that ends, a validation, a test run. From
these the clock (O3), the tables in force (O4) and the laws of the modes (O5). -/

namespace Sys2Proof.Machine

variable {s t u : State}

/-! ### A written entry comes into force (R81, R99, R174) -/

/-- Block work does not look at the tables in Base's parts, so it is block work beside any tables. -/
theorem Work.withTables (h : Work s t) (tb : Tables) : Work { s with tables := tb } { t with tables := tb } := by
  have hb : Base s { t with tables := tb } := h.toBase.setTables
  exact ⟨⟨hb.powered, hb.resetHeld, hb.uptime, hb.nv, hb.window, hb.nvWrite, hb.validating, hb.restartDue, hb.pending,
    hb.capture, hb.zones,
    fun b => hb.bounds ⟨b.1, b.2, b.3, b.4, b.5, b.6, b.7, b.8, b.9, b.10, b.11⟩, hb.test, hb.testFlag⟩, h.mode, rfl, h.failing⟩

/-- The state with an output entry put in force. -/
def outputPut (o : Nat) (new : OutputEntry) (s : State) : State :=
  { s with tables := { s.tables with outputs := sput blankOutput o new s.tables.outputs } }

theorem work_putOutput (o : Nat) (new : OutputEntry) (s : State) : Work (outputPut o new s) (putOutput o new s) := by
  rw [putOutput_eq]
  split
  · exact .refl _
  · exact (work_setAct (.refl s)).withTables _

/-- R81, R99: but for the entry itself, an output entry that is written is block work. -/
theorem work_outputWritten (o : Nat) (new : OutputEntry) (s : State) :
    Work (outputPut o new s) (outputWritten o new s) := by
  have hr : Work (outputPut o new s)
      (onOutput o (fun u => rebuildRecord o (outEntry s o) (putOutput o new u)) s) := by
    have hq := work_requeueStart (work_rebuildRecord (work_putOutput o new s) (o := o) (old := outEntry s o)) (o := o)
    exact work_ite (work_rejudge hq) hq
  exact work_foldl (fun _ hu => work_examineAndWarn hu) (work_ite (work_recompute hr) hr)

/-- The state with a written entry stored and in force. -/
def entryInForce (w : NvWrite) (s : State) : State :=
  { s with nv := putEntry w.ref w.fields s.nv, tables := putEntry w.ref w.fields s.tables }

/-- R174: but for the entry itself, its coming into force is block work. -/
theorem work_bringIntoForce (w : NvWrite) (s : State) : Work (entryInForce w s) (bringIntoForce w s) := by
  unfold bringIntoForce
  dsimp only
  split
  · rename_i hr
    have hp : outputPut w.ref.index (outputOfFields w.fields) { s with nv := putEntry w.ref w.fields s.nv } =
        entryInForce w s := by simp only [entryInForce, outputPut, putEntry, hr]
    exact hp ▸ work_ffEntryWritten (work_outputWritten ..)
  · exact work_boardWritten (.refl _)
  · exact .refl _

/-! ### Modes and test runs (R31, R169, R171) -/

/-- The state in another mode. -/
def inMode (m : Mode) (s : State) : State := { s with mode := m }

theorem work_changeMode (m : Mode) (s : State) : Work (inMode m s) (changeMode m s) := work_raise (.refl _)

theorem work_configInvalid (r : EntryRef) (s : State) : Work { s with failing := some r } (configInvalid r s) :=
  work_raise (.refl _)

/-- R31, R39: but for the new run context a load is block work. -/
theorem work_loadSet_loadRun (test : Bool) (n : Nat) (served : List Nat) (s : State) :
    Work (loadSet test n served s) (loadRun test n served s) := by
  have hb : Work (loadSet test n served s)
      (takeReports (beginFire (raise .runStart n (served.getD 0 0 * 256 + served.getD 1 0) (loadSet test n served s)))) :=
    work_takeReports (work_beginFire (work_raise (.refl _)))
  exact work_advance (work_ite hb (work_setWatches hb))

/-- R171: the zones re-evaluated and the slow ring built, before the mode changes. -/
def zonesJudged (s : State) : State := buildSlowRing (reevaluateZones { s with failing := none })

theorem work_zonesJudged (s : State) : Work { s with failing := none } (zonesJudged s) :=
  work_buildSlowRing (work_reevaluateZones (.refl _))

/-- R171: the entry to NORMAL after the change of mode. -/
theorem work_enterNormalMode (during : List (List IntakeArrival)) (s : State) :
    Work (inMode .normal (zonesJudged s)) (enterNormalMode during s) := by
  have hm := work_changeMode .normal (zonesJudged s)
  exact work_placementDecision (work_drain (work_ite (work_revokeHold hm) hm))

/-! ### Clock and tables (R174, R177) -/

/-- The clock and the tables in force stand. -/
structure Stands (s t : State) : Prop where
  uptime : t.uptime = s.uptime
  tables : t.tables = s.tables

theorem Stands.refl (s : State) : Stands s s := ⟨rfl, rfl⟩

theorem Stands.trans (h : Stands s t) (h' : Stands t u) : Stands s u :=
  ⟨h'.uptime.trans h.uptime, h'.tables.trans h.tables⟩

theorem Work.stands (h : Work s t) : Stands s t := ⟨h.uptime, h.tables⟩

/-- Block work after a change of other parts. -/
theorem Stands.work (h : Stands s t) (w : Work t u) : Stands s u := h.trans w.stands

theorem stands_ite {c : Prop} [Decidable c] {a b : State} (ha : Stands s a) (hb : Stands s b) :
    Stands s (if c then a else b) := by
  split
  · exact ha
  · exact hb

theorem stands_acting {work : State → State} (he : acting work s = .next t) (hw : Stands s (work s)) : Stands s t := by
  cases he
  exact stands_ite hw (.refl s)

theorem stands_serving {row : Instr} {work : State → State} (he : serving row work s = .next t)
    (hw : ∀ u, Stands u (work u)) : Stands s t := by
  have henter : Stands s (enterServing row s) := ⟨rfl, rfl⟩
  exact stands_acting he (stands_ite (henter.trans (hw _)) (.refl s))

theorem stands_answer (q : Requester) (r : Result) (s : State) : Stands s (answer q r s) := (work_answer (.refl s)).stands

theorem stands_interruptWrite (s : State) : Stands s (interruptWrite s) := by
  obtain ⟨nv, n, -, h⟩ := interruptWrite_cutOff s
  rw [h]
  exact ⟨rfl, rfl⟩

theorem stands_headSent (s : State) : Stands s (headSent s) := by
  unfold headSent
  split
  · exact .refl s
  · unfold afterSent
    split
    · exact ⟨rfl, rfl⟩
    · exact stands_ite ⟨rfl, rfl⟩ ⟨rfl, rfl⟩
    · exact ⟨rfl, rfl⟩

theorem stands_serveFaultAck (q : Requester) (n l : Nat) (s : State) : Stands s (serveFaultAck q n l s) := by
  unfold serveFaultAck
  split
  · exact stands_answer q _ s
  · exact stands_ite ⟨rfl, rfl⟩ (stands_answer q _ s)

theorem stands_changeMode (m : Mode) (s : State) : Stands s (changeMode m s) :=
  have h : Stands s (inMode m s) := ⟨rfl, rfl⟩
  h.work (work_changeMode m s)

theorem stands_serveEnterService (q : Requester) (s : State) : Stands s (serveEnterService q s) := by
  unfold serveEnterService
  split
  · exact stands_answer q _ s
  · exact (stands_ite (stands_changeMode .service s) (.refl s)).trans (stands_answer q _ _)

theorem stands_serveEnterNormal (q : Requester) (s : State) : Stands s (serveEnterNormal q s) := by
  unfold serveEnterNormal
  split
  · exact stands_answer q _ s
  · split
    · exact stands_answer q _ s
    · exact ⟨rfl, rfl⟩

theorem stands_configInvalid (r : EntryRef) (s : State) : Stands s (configInvalid r s) :=
  have h : Stands s { s with failing := some r } := ⟨rfl, rfl⟩
  h.work (work_configInvalid r s)

theorem stands_enterNormalMode (during : List (List IntakeArrival)) (s : State) :
    Stands s (enterNormalMode during s) := by
  have hf : Stands s { s with failing := none } := ⟨rfl, rfl⟩
  have hm : Stands (zonesJudged s) (inMode .normal (zonesJudged s)) := ⟨rfl, rfl⟩
  exact ((hf.work (work_zonesJudged s)).trans hm).work (work_enterNormalMode during s)

theorem stands_serveValidation (q : Requester) (s : State) : Stands s (serveValidation q s) := by
  have ht : Stands s { s with validating := none, entryIntake := [] } := ⟨rfl, rfl⟩
  unfold serveValidation
  dsimp only
  split
  · exact (ht.trans (stands_configInvalid _ _)).trans (stands_answer q _ _)
  · exact (ht.trans (stands_enterNormalMode _ _)).work (work_endStep (work_answer (work_drain (.refl _))))

theorem stands_serveTsel (q : Requester) (n i : Nat) (s : State) : Stands s (serveTsel q n i s) := by
  refine stands_ite (stands_answer q _ s) ?_
  split
  · exact stands_answer q _ s
  · exact stands_ite ⟨rfl, rfl⟩ (stands_answer q _ s)

theorem stands_serveTrd (q : Requester) (s : State) : Stands s (serveTrd q s) := by
  refine stands_ite (stands_answer q _ s) ?_
  split
  · exact stands_answer q _ s
  · exact stands_ite (stands_answer q _ s) ⟨rfl, rfl⟩

theorem stands_serveTwr (q : Requester) (i : Nat) (bs : List Byte) (s : State) : Stands s (serveTwr q i bs s) := by
  unfold serveTwr
  split
  · exact (work_answerWrite (.refl s)).stands
  · exact ⟨rfl, rfl⟩

theorem stands_serveTestRun (q : Requester) (n : Nat) (s : State) : Stands s (serveTestRun q n s) := by
  have hl : Stands s (instructTest n s) :=
    have hset : Stands s (loadSet true n [] s) := ⟨rfl, rfl⟩
    stands_ite (.refl s) (hset.work (work_loadSet_loadRun true n [] s))
  unfold serveTestRun
  iterate 5 refine stands_ite (stands_answer q _ s) ?_
  exact hl.work (work_endStep (work_answer (work_drain (.refl _))))

/-- The commands that may move the clock or the tables in force: starts, a tick, and the end of a write. -/
def movesClockOrTables : Instr → Bool
  | .powerUp _ | .resetLineRelease _ | .warmStart _ | .uptimeTick | .nvWriteComplete _ => true
  | _ => false

theorem exec_stands {c : Instr} (hc : movesClockOrTables c = false) (he : exec c s = .next t) : Stands s t := by
  cases c with
  | powerUp | resetLineRelease | warmStart | uptimeTick | nvWriteComplete => cases hc
  | resetLineAssert => cases he; exact (stands_interruptWrite s).trans ⟨rfl, rfl⟩
  | powerFailure => cases he; exact (stands_interruptWrite s).trans ⟨rfl, rfl⟩
  | outboundFrameSent => exact stands_acting he (stands_headSent s)
  | faultAck q n l => exact stands_serving he (stands_serveFaultAck q n l)
  | enterService q => exact stands_serving he (stands_serveEnterService q)
  | enterNormal q => exact stands_serving he (stands_serveEnterNormal q)
  | tsel q n i => exact stands_serving he (stands_serveTsel q n i)
  | trd q => exact stands_serving he (stands_serveTrd q)
  | twr q i bs => exact stands_serving he (stands_serveTwr q i bs)
  | testRun q n => exact stands_serving he (stands_serveTestRun q n)
  | validationComplete =>
    cases he
    refine stands_ite ?_ (.refl s)
    dsimp only
    split
    · exact stands_serveValidation _ s
    · exact .refl s
  | _ => exact (exec_work rfl he).stands

/-! ### A write that ends -/

/-- R174: after an equal read-back the entry is in force; after a differing one the tables in force stand. -/
theorem tables_serveNvWrite (w : NvWrite) (equal : Bool) (s : State) :
    (serveNvWrite w equal s).tables = if equal then putEntry w.ref w.fields s.tables else s.tables := by
  cases equal
  · rfl
  · have hf := work_bringIntoForce w { s with nvWrite := none }
    have hc : Stands (entryInForce w { s with nvWrite := none })
        (stepCursor (drain (bringIntoForce w { s with nvWrite := none }))) := (work_drain hf).stands.trans ⟨rfl, rfl⟩
    exact (hc.work (work_endStep (work_answerWrite (.refl _)))).tables

theorem uptime_serveNvWrite (w : NvWrite) (equal : Bool) (s : State) : (serveNvWrite w equal s).uptime = s.uptime := by
  cases equal
  · rfl
  · have hf := work_bringIntoForce w { s with nvWrite := none }
    exact (work_endStep (work_answerWrite (.refl (stepCursor _)))).uptime.trans (work_drain hf).uptime

/-! ### The statements of the clock and the tables -/

/-- R177: a start with the clock at 0 leaves it there. -/
theorem uptime_leaveStart (bad : List EntryRef) (s : State) : (leaveStart bad s).uptime = s.uptime := by
  unfold leaveStart
  dsimp only
  split
  · have hc := work_configInvalid (‹EntryRef›) (readTables bad s)
    exact (work_startPacer (work_buildSlowRing (.refl _))).uptime.trans ((stands_changeMode .service _).uptime.trans hc.uptime)
  · exact (work_placementDecision (work_startPacer (work_buildSlowRing (.refl _)))).uptime.trans
      (stands_changeMode .normal _).uptime

theorem uptime_warmStart (cause : RestartCause) (bad : List EntryRef) (s : State) :
    (warmStart cause bad s).uptime = s.uptime :=
  (uptime_leaveStart bad _).trans ((work_raise (.refl _)).uptime.trans (stands_interruptWrite s).uptime)

/-- Settles O3: a power-up, a tick, the other starts, the end of a write; no other command moves the clock. -/
theorem uptimeMovesByTickAndPowerUpOnly : Obligations.UptimeMovesByTickAndPowerUpOnly := by
  intro c s t he
  cases c with
  | powerUp bad =>
    cases he
    by_cases hr : s.resetHeld = true
    · rw [if_pos hr]
      rfl
    · rw [if_neg hr]
      exact uptime_leaveStart bad _
  | uptimeTick =>
    cases he
    cases s.powered <;> cases s.resetHeld <;> rfl
  | resetLineRelease bad =>
    cases he
    cases s.resetHeld
    · rfl
    · cases s.powered
      · rfl
      · exact uptime_warmStart .resetLine bad _
  | warmStart bad =>
    cases he
    by_cases ha : awake s = true <;> by_cases hd : s.restartDue = true <;> simp [ha, hd, uptime_warmStart]
  | nvWriteComplete b =>
    refine acting_keeps State.uptime (work := fun s => match s.nvWrite with
      | some w => serveNvWrite w b s
      | none => s) he fun u => ?_
    split
    · exact uptime_serveNvWrite _ b u
    · rfl
  | _ => exact (exec_stands rfl he).uptime

/-- Settles O4: but for starts only the end of a write moves the tables, and a write is guarded (ModesOk). -/
theorem tablesAreWrittenByTwrOnly : Obligations.TablesAreWrittenByTwrOnly := by
  intro c s t hm he hne
  cases c with
  | powerUp | resetLineRelease | warmStart => trivial
  | uptimeTick =>
    cases he
    refine hne ?_
    cases s.powered <;> cases s.resetHeld <;> rfl
  | nvWriteComplete b =>
    cases he
    by_cases ha : awake s = true
    case neg => exact absurd (by rw [if_neg ha]) hne
    rw [if_pos ha] at hne ⊢
    cases hw : s.nvWrite with
    | none => simp [hw] at hne
    | some w =>
      simp only [hw, tables_serveNvWrite] at hne ⊢
      have hb : b = true := by
        by_contra hb
        exact hne (if_neg hb)
      obtain ⟨hmode, -, htest⟩ := hm.write (by rw [hw]; rfl)
      exact ⟨hb, hmode, htest, w, rfl, if_pos hb⟩
  | _ => exact hne (exec_stands rfl he).tables

end Sys2Proof.Machine
end

section
/-! Cold starts (O16): what a power-up leaves, with the reset line released and with it held. -/

namespace Sys2Proof.Machine

variable {s t : State}

/-- R176: step 1 of a cold start. -/
theorem startBegun_coldBlocks (h : awake s = true) (hw : s.nvWrite = none) : StartBegun s.nv (coldBlocks s) where
  awake := h
  nv := rfl
  mode := rfl
  window := rfl
  write := ⟨hw, rfl, rfl⟩
  zones := rfl
  run := rfl
  watches := rfl
  queue := rfl
  boards := rfl
  plant := rfl
  panel := ⟨[], Nat.zero_le 1, rfl⟩
  notices := ⟨rfl, rfl, rfl, rfl⟩

/-- R176, R177: a cold start, with clock, trail and first-fault record begun again. -/
theorem coldStart_starts (h : awake s = true) (bad : List EntryRef) :
    ∃ nv, cutOff s nv ∧ (coldStart bad s).nv = nv ∧ Started bad nv (coldStart bad s) ∧ (coldStart bad s).uptime = 0 ∧
      ∃ u : State, u.uptime = 0 ∧ u.capture = coldCapture ∧
        (coldStart bad s).capture = (recordAll (startEvents (coldStart bad s).failing) u).capture := by
  obtain ⟨nv, n, hcut, hi⟩ := interruptWrite_cutOff s
  have hbegun := startBegun_coldBlocks (s := { s with nvWrite := none, nv := nv, free := n }) h rfl
  obtain ⟨hstarted, hnv, huptime, hcapture⟩ := hbegun.leaveStart bad
  have hstart : coldStart bad s = leaveStart bad (coldBlocks { s with nvWrite := none, nv := nv, free := n }) := by
    rw [coldStart, hi]
  rw [hstart]
  exact ⟨nv, hcut, hnv, hstarted, huptime, _, rfl, rfl, hcapture⟩

/-- R161, R176: the trail of a cold start holds its events, from sequence 0 and uptime 0. -/
theorem capture_startEvents (hu : s.uptime = 0) (hc : s.capture = coldCapture) (failing : Option EntryRef) :
    let c := (recordAll (startEvents failing) s).capture
    c.locked = none ∧ c.lost = false ∧ c.later = 0 ∧
      (match failing with
      | none => c.trail = [⟨0, 0, .modeChange, 0, 2⟩] ∧ c.nextSequence = 1
      | some r =>
        c.trail = [⟨0, 0, .configInvalid, tableCode r.table, r.index⟩, ⟨1, 0, .modeChange, 0, 1⟩] ∧
          c.nextSequence = 2) := by
  have hu' : ∀ a b ev, (recordEntry ev a b s).uptime = 0 := fun a b ev => (captures_recordEntry ev a b s).uptime.trans hu
  cases failing with
  | none =>
    simp [startEvents, recordAll, capture_recordEntry, nextEntry, hu, hc, coldCapture, keepNewest, Config.trailSize]
  | some r =>
    simp [startEvents, recordAll, capture_recordEntry, nextEntry, hu, hu', hc, coldCapture, keepNewest, Config.trailSize]

/-- Settles O16: with the line held the blocks take their values for a start; with it released the start goes on. -/
theorem powerUpIsAColdStart : Obligations.PowerUpIsAColdStart := by
  refine ⟨fun bad s hr => ?_, fun bad s hr => ?_⟩
  · obtain ⟨nv, n, hcut, hi⟩ := interruptWrite_cutOff s
    refine ⟨nv, n, hcut, ?_⟩
    simp only [exec, execPowerUp, if_pos hr, hi]
    rfl
  · have ha : awake { s with powered := true } = true := awake_iff.2 ⟨rfl, hr⟩
    obtain ⟨nv, hcut, hnv, hstarted, huptime, u, hu, hc, hcapture⟩ := coldStart_starts ha bad
    obtain ⟨hlocked, hlost, hlater, hevents⟩ :=
      capture_startEvents hu hc (coldStart bad { s with powered := true }).failing
    rw [← hcapture] at hlocked hlost hlater
    refine ⟨nv, coldStart bad { s with powered := true }, hcut, ?_, hnv, hstarted, huptime, hlocked, hlost, hlater, ?_⟩
    · simp [exec, execPowerUp, hr]
    · rw [hcapture]
      exact hevents

end Sys2Proof.Machine
end

section
/-! Every step keeps the laws of the modes (O5): block work keeps mode, write and validation, only the Selector in NORMAL mode and
the test runs move the run, and a start leaves none. -/

namespace Sys2Proof.Machine

variable {s t u : State}

/-! ### The parts that the laws speak of -/

/-- Mode, write, validation and run stand. -/
theorem ModesOk.of_eq (h : ModesOk s) (hm : t.mode = s.mode) (hw : t.nvWrite = s.nvWrite)
    (hv : t.validating = s.validating) (hf : fireMode t = fireMode s) (ht : t.run.test = s.run.test) : ModesOk t := by
  have htest : testActive t ↔ testActive s := by rw [testActive, testActive, hf, ht]
  refine ⟨fun e => ?_, fun e => ?_, fun e ef => ?_, fun e => ?_, fun e => ?_⟩
  · exact hf.trans (h.start (hm ▸ e))
  · exact mt htest.1 (h.normal (hm ▸ e))
  · exact ht.trans (h.service (hm ▸ e) (hf ▸ ef))
  · obtain ⟨a, b, c⟩ := h.write (hw ▸ e)
    exact ⟨hm.trans a, hv.trans b, mt htest.1 c⟩
  · obtain ⟨a, b⟩ := h.validation (hv ▸ e)
    exact ⟨hm.trans a, mt htest.1 b⟩

/-- Block work keeps the laws where it moves the run in NORMAL mode alone. -/
theorem ModesOk.of_work (h : ModesOk s) (w : Work s t)
    (hr : s.mode ≠ .normal → fireMode t = fireMode s ∧ t.run.test = s.run.test) : ModesOk t := by
  by_cases hn : s.mode = .normal
  · have hm : t.mode = .normal := w.mode.trans hn
    have hnot : ¬ testActive t := mt w.test (h.normal hn)
    have hnone : ∀ m : Mode, m ≠ .normal → t.mode ≠ m := fun m hne e => hne (e.symm.trans hm)
    refine ⟨fun e => absurd e (hnone _ nofun), fun _ => hnot, fun e => absurd e (hnone _ nofun), fun e => ?_, fun e => ?_⟩
    · exact absurd ((h.write (w.nvWrite ▸ e)).1) (by rw [hn]; nofun)
    · exact absurd ((h.validation (w.validating ▸ e)).1) (by rw [hn]; nofun)
  · obtain ⟨hf, ht⟩ := hr hn
    exact h.of_eq w.mode w.nvWrite w.validating hf ht

/-- Without a run, a write and a validation the laws hold in every mode. -/
theorem modesOk_idle (hf : fireMode s = false) (hw : s.nvWrite = none) (hv : s.validating = none) : ModesOk s := by
  have hfire : ¬ fireMode s = true := by simp [hf]
  refine ⟨fun _ => hf, fun _ h => hfire h.1, fun _ h => absurd h hfire, fun h => ?_, fun h => ?_⟩
  · simp [hw] at h
  · simp [hv] at h

theorem Started.modesOk {bad : List EntryRef} {nv : Tables} (h : Started bad nv t) : ModesOk t := by
  obtain ⟨hw, hv, -⟩ := h.write
  exact modesOk_idle (by rw [fireMode, h.run]; rfl) hw hv

/-- A command that moves neither the zone records nor the run keeps the laws with the mode, the write and the validation. -/
theorem ModesOk.of_neither {c : Instr} (h : ModesOk s) (hc : movedBy c = .neither) (he : exec c s = .next t)
    (hm : t.mode = s.mode) (hw : t.nvWrite = s.nvWrite) (hv : t.validating = s.validating) : ModesOk t :=
  h.of_eq hm hw hv (congrArg Prod.fst (exec_standing hc he)) (congrArg (fun x => x.2.2.2) (exec_owned hc he))

/-- Block work that leaves the run alone keeps the laws. -/
theorem ModesOk.of_frame (h : ModesOk s) (w : Work s t) (ho : owned t = owned s) (hs : standing t = standing s) :
    ModesOk t :=
  h.of_work w fun _ => ⟨congrArg Prod.fst hs, congrArg (fun x => x.2.2.2) ho⟩

theorem ModesOk.no_write (h : ModesOk s) (hm : s.mode ≠ .service) : s.nvWrite = none := by
  by_contra hw
  exact hm (h.write (Option.isSome_iff_ne_none.2 hw)).1

theorem ModesOk.no_validation (h : ModesOk s) (hm : s.mode ≠ .service) : s.validating = none := by
  by_contra hv
  exact hm (h.validation (Option.isSome_iff_ne_none.2 hv)).1

theorem modesOk_ite {c : Prop} [Decidable c] {a b : State} (ha : c → ModesOk a) (hb : ¬ c → ModesOk b) :
    ModesOk (if c then a else b) := by
  split
  · exact ha ‹_›
  · exact hb ‹_›

theorem modesOk_answer (h : ModesOk s) (q : Requester) (r : Result) : ModesOk (answer q r s) :=
  h.of_frame (work_answer (.refl s)) (owned_answer s q r) (standing_answer s q r)

theorem modesOk_acting {work : State → State} (h : ModesOk s) (he : acting work s = .next t) (hw : ModesOk (work s)) :
    ModesOk t := by
  cases he
  exact modesOk_ite (fun _ => hw) fun _ => h

/-- R153: a request is served with no write and no validation under way. -/
theorem modesOk_serving {row : Instr} {work : State → State} (h : ModesOk s) (he : serving row work s = .next t)
    (hw : ∀ u, ModesOk u → u.nvWrite = none → u.validating = none → ModesOk (work u)) : ModesOk t := by
  refine modesOk_acting h he (modesOk_ite (fun hs => ?_) fun _ => h)
  simp only [mayServe, Bool.and_eq_true, Option.isNone_iff_eq_none] at hs
  exact hw (enterServing row s) (h.of_eq rfl rfl rfl rfl rfl) hs.1.2 hs.2

/-! ### Modes (R170, R171) -/

/-- R170: in a mode that bars no request of mode, no test run is active, and in NORMAL mode no run. -/
theorem not_barred (hn : modeRefusal s = none) :
    s.mode ≠ .start ∧ ¬ testActive s ∧ (s.mode = .normal → fireMode s = false) := by
  unfold modeRefusal at hn
  split at hn
  · cases hn
  · rename_i hm
    have ht : ¬ testActive s := fun h => by simp [h.1, h.2] at hn
    exact ⟨by rw [hm]; nofun, ht, fun e => by rw [hm] at e; cases e⟩
  · rename_i hm
    have hf : fireMode s = false := by simpa using hn
    exact ⟨by rw [hm]; nofun, fun ⟨h, _⟩ => by simp [hf] at h, fun _ => hf⟩

theorem modesOk_serveEnterService (q : Requester) (h : ModesOk s) : ModesOk (serveEnterService q s) := by
  unfold serveEnterService
  split
  · exact modesOk_answer h q _
  · rename_i hn
    refine modesOk_answer (modesOk_ite (fun hm => ?_) fun _ => h) q _
    have hnormal : s.mode ≠ .service := by rw [hm]; nofun
    have hs : ModesOk (inMode .service s) :=
      modesOk_idle ((not_barred hn).2.2 hm) (h.no_write hnormal) (h.no_validation hnormal)
    exact hs.of_frame (work_changeMode .service s) (owned_raise _ _ _ _) (standing_raise _ _ _ _)

theorem modesOk_serveEnterNormal (q : Requester) (h : ModesOk s) (hw : s.nvWrite = none) :
    ModesOk (serveEnterNormal q s) := by
  refine modesOk_ite (fun _ => modesOk_answer h q _) fun hnormal => ?_
  split
  · exact modesOk_answer h q _
  · rename_i hn
    obtain ⟨hstart, htest, -⟩ := not_barred hn
    have hm : s.mode = .service := by
      cases e : s.mode with
      | start => exact absurd e hstart
      | service => rfl
      | normal => exact absurd e hnormal
    exact ⟨h.start, h.normal, h.service, fun e => by simp [hw] at e, fun _ => ⟨hm, htest⟩⟩

/-- R171: a validation that passes leads to NORMAL mode, without a test run and without a write. -/
theorem modesOk_enterNormalMode (during : List (List IntakeArrival)) (hw : s.nvWrite = none) (hv : s.validating = none)
    (ht : ¬ testActive s) : ModesOk (enterNormalMode during s) := by
  have hj := work_zonesJudged s
  have hn : ModesOk (inMode .normal (zonesJudged s)) := by
    have htest : ¬ testActive (zonesJudged s) := fun h => ht (hj.test h)
    have hwrite : (zonesJudged s).nvWrite = none := hj.nvWrite.trans hw
    have hvalid : (zonesJudged s).validating = none := hj.validating.trans hv
    exact ⟨nofun, fun _ => htest, nofun, fun e => absurd e (by simp [inMode, hwrite]),
      fun e => absurd e (by simp [inMode, hvalid])⟩
  exact hn.of_work (work_enterNormalMode during s) fun h => absurd rfl h

theorem modesOk_serveValidation (q : Requester) (h : ModesOk s) (hv : s.validating.isSome = true) :
    ModesOk (serveValidation q s) := by
  obtain ⟨-, ht⟩ := h.validation hv
  have hw : s.nvWrite = none := by
    by_contra hw
    have hnone := (h.write (Option.isSome_iff_ne_none.2 hw)).2.1
    simp [hnone] at hv
  have hended : ModesOk { s with validating := none, entryIntake := [] } :=
    ⟨h.start, h.normal, h.service, fun e => absurd e (by simp [hw]), nofun⟩
  unfold serveValidation
  dsimp only
  split
  · rename_i r _
    have hf : ModesOk { s with validating := none, entryIntake := [], failing := some r } :=
      hended.of_eq rfl rfl rfl rfl rfl
    exact modesOk_answer (hf.of_frame (work_raise (.refl _)) (owned_raise _ _ _ _) (standing_raise _ _ _ _)) q _
  · have hn := modesOk_enterNormalMode s.entryIntake (s := { s with validating := none, entryIntake := [] }) hw rfl ht
    exact hn.of_frame (work_endStep (work_answer (work_drain (.refl _)))) (by simp) (by simp)

/-! ### Writes and test runs (R31, R173, R174) -/

/-- R173: a TWR is accepted in SERVICE mode with no test run. -/
theorem twrCheck_ok {i : Option Nat} {bs : List Byte} {x : EntryRef × List Nat} (h : twrCheck s i bs = .ok x) :
    s.mode = .service ∧ ¬ testActive s := by
  unfold twrCheck at h
  split at h
  · cases h
  rename_i hm
  split at h
  · cases h
  split at h
  · cases h
  rename_i ht
  exact ⟨not_not.1 hm, by simpa [testActive] using ht⟩

theorem modesOk_serveTwr (q : Requester) (i : Nat) (bs : List Byte) (h : ModesOk s) (hv : s.validating = none) :
    ModesOk (serveTwr q i bs s) := by
  unfold serveTwr
  split
  · exact h.of_frame (work_answerWrite (.refl s)) (owned_answerWrite ..) (standing_answerWrite ..)
  · rename_i hc
    obtain ⟨hm, ht⟩ := twrCheck_ok hc
    exact ⟨h.start, h.normal, h.service, fun _ => ⟨hm, hv, ht⟩, h.validation⟩

/-- R174: a write that ends leaves the mode, and no write. -/
theorem serveNvWrite_parts (w : NvWrite) (equal : Bool) (s : State) :
    (serveNvWrite w equal s).mode = s.mode ∧ (serveNvWrite w equal s).nvWrite = none ∧
      (serveNvWrite w equal s).validating = s.validating := by
  cases equal
  · exact ⟨rfl, rfl, rfl⟩
  · have hd := work_drain (work_bringIntoForce w { s with nvWrite := none })
    have he := work_endStep (work_answerWrite (table := some w.ref.table) (req := w.req) (r := .ok)
      (.refl (stepCursor (drain (bringIntoForce w { s with nvWrite := none })))))
    exact ⟨he.mode.trans hd.mode, he.nvWrite.trans hd.nvWrite, he.validating.trans hd.validating⟩

theorem modesOk_serveNvWrite (w : NvWrite) (equal : Bool) (h : ModesOk s) : ModesOk (serveNvWrite w equal s) := by
  have he : ModesOk { s with nvWrite := none } := ⟨h.start, h.normal, h.service, nofun, h.validation⟩
  obtain ⟨hm, hw, hv⟩ := serveNvWrite_parts w equal s
  exact he.of_eq hm hw hv (congrArg Prod.fst (standing_serveNvWrite s w equal))
    (congrArg (fun x => x.2.2.2) (owned_serveNvWrite s w equal))

/-- R31: a run that a TEST_RUN begins is a test run. -/
theorem modesOk_serveTestRun (q : Requester) (n : Nat) (h : ModesOk s) (hw : s.nvWrite = none)
    (hv : s.validating = none) : ModesOk (serveTestRun q n s) := by
  unfold serveTestRun
  refine modesOk_ite (fun _ => modesOk_answer h q _) fun hm => ?_
  refine modesOk_ite (fun _ => modesOk_answer h q _) fun _ => ?_
  refine modesOk_ite (fun _ => modesOk_answer h q _) fun hf => ?_
  iterate 2 refine modesOk_ite (fun _ => modesOk_answer h q _) fun _ => ?_
  have hl : instructTest n s = loadRun true n [] s := if_neg hf
  have hwork := work_loadSet_loadRun true n [] s
  have hrun : ModesOk (loadRun true n [] s) := by
    have htest : (loadRun true n [] s).run.test = true := congrArg (fun x => x.2.2.2) (owned_loadRun s true n [])
    have hmode : (loadRun true n [] s).mode = .service := hwork.mode.trans (not_not.1 hm)
    have hnot : ∀ {m : Mode}, m ≠ .service → (loadRun true n [] s).mode ≠ m := fun hne e => hne (e.symm.trans hmode)
    refine ⟨fun e => absurd e (hnot nofun), fun e => absurd e (hnot nofun), fun _ _ => htest, fun e => ?_, fun e => ?_⟩
    · rw [hwork.nvWrite] at e
      exact absurd e (by simp [loadSet, hw])
    · rw [hwork.validating] at e
      exact absurd e (by simp [loadSet, hv])
  rw [hl]
  exact hrun.of_frame (work_endStep (work_answer (work_drain (.refl _)))) (by simp) (by simp)

/-- R32: a TEST_END is served in SERVICE mode, and leaves no run there. -/
theorem modesOk_serveTestEnd (q : Requester) (h : ModesOk s) : ModesOk (serveTestEnd q s) := by
  unfold serveTestEnd
  refine modesOk_ite (fun _ => modesOk_answer h q _) fun hm => ?_
  refine modesOk_ite (fun hf => ?_) fun _ => modesOk_answer h q _
  have hl : instructEnd s = endRun s := if_pos hf
  have hwork : Work s (endRun s) := hl ▸ work_instructEnd (.refl s)
  have hidle : fireMode (endRun s) = false := congrArg Prod.fst (standing_endRun s)
  have hfire : ¬ fireMode (endRun s) = true := by simp [hidle]
  have hend : ModesOk (endRun s) := by
    have hmode := hwork.mode.trans (not_not.1 hm)
    refine ⟨fun _ => hidle, fun _ e => hfire e.1, fun _ e => absurd e hfire, fun e => ?_, fun e => ?_⟩
    · obtain ⟨-, hv, -⟩ := h.write (hwork.nvWrite ▸ e)
      exact ⟨hmode, hwork.validating.trans hv, fun e => hfire e.1⟩
    · exact ⟨hmode, fun e => hfire e.1⟩
  rw [hl]
  exact hend.of_frame (work_endStep (work_answer (work_drain (.refl _)))) (by simp) (by simp)

/-- R19: outside NORMAL mode the Selector discards a notice. -/
theorem modesOk_noticeTaken (during : List (List IntakeArrival)) (h : ModesOk s) : ModesOk (noticeTaken during s) := by
  refine h.of_work (work_noticeTaken (.refl s)) fun hm => ?_
  unfold noticeTaken
  split
  · exact ⟨rfl, rfl⟩
  · rw [if_neg hm]
    exact ⟨rfl, rfl⟩

/-! ### Frames sent, acknowledgements and the table window leave the parts that the laws speak of -/

theorem modesOk_headSent (h : ModesOk s) : ModesOk (headSent s) := by
  have hp : ∀ f : Panel → Panel, ModesOk (setPanel f s) := fun _ => h.of_eq rfl rfl rfl rfl rfl
  unfold headSent
  split
  · exact h
  · unfold afterSent
    split
    · exact hp _
    · exact modesOk_ite (fun _ => h.of_eq rfl rfl rfl rfl rfl) fun _ => hp _
    · exact h.of_eq rfl rfl rfl rfl rfl

theorem modesOk_serveFaultAck (q : Requester) (n l : Nat) (h : ModesOk s) : ModesOk (serveFaultAck q n l s) := by
  unfold serveFaultAck
  split
  · exact modesOk_answer h q _
  · exact modesOk_ite (fun _ => h.of_eq rfl rfl rfl rfl rfl) fun _ => modesOk_answer h q _

theorem modesOk_serveTsel (q : Requester) (n i : Nat) (h : ModesOk s) : ModesOk (serveTsel q n i s) := by
  refine modesOk_ite (fun _ => modesOk_answer h q _) fun _ => ?_
  split
  · exact modesOk_answer h q _
  · exact modesOk_ite (fun _ => h.of_eq rfl rfl rfl rfl rfl) fun _ => modesOk_answer h q _

theorem modesOk_serveTrd (q : Requester) (h : ModesOk s) : ModesOk (serveTrd q s) := by
  refine modesOk_ite (fun _ => modesOk_answer h q _) fun _ => ?_
  split
  · exact modesOk_answer h q _
  · exact modesOk_ite (fun _ => modesOk_answer h q _) fun _ => h.of_eq rfl rfl rfl rfl rfl

/-! ### Every command -/

theorem ModesOk.of_activates (h : ModesOk s) (w : Work s t) (a : Activates [] s t) : ModesOk t :=
  h.of_work w fun _ => ⟨a.fire, congrArg (fun k => k.2.2) a.key⟩

theorem modesOk_interruptWrite (h : ModesOk s) : ModesOk (interruptWrite s) := by
  obtain ⟨nv, n, -, hi⟩ := interruptWrite_cutOff s
  rw [hi]
  exact ⟨h.start, h.normal, h.service, nofun, h.validation⟩

theorem exec_modesOk {c : Instr} (h : ModesOk s) (he : exec c s = .next t) : ModesOk t := by
  cases c with
  | powerUp bad =>
    cases he
    refine modesOk_ite (fun _ => ?_) fun hr => ?_
    · obtain ⟨nv, n, -, hi⟩ := interruptWrite_cutOff s
      rw [hi]
      exact modesOk_idle rfl rfl rfl
    · have ha : awake { s with powered := true } = true := awake_iff.2 ⟨rfl, by simpa using hr⟩
      obtain ⟨nv, -, -, hs, -⟩ := coldStart_starts ha bad
      exact hs.modesOk
  | resetLineRelease bad =>
    cases he
    refine modesOk_ite (fun _ => h) fun hr => modesOk_ite (fun hp => ?_) fun _ => h.of_eq rfl rfl rfl rfl rfl
    obtain ⟨nv, -, -, hs, -⟩ := warmStart_starts (s := { s with resetHeld := false }) (awake_iff.2 ⟨hp, rfl⟩) .resetLine bad
    exact hs.modesOk
  | warmStart bad =>
    cases he
    refine modesOk_ite (fun ha => modesOk_ite (fun _ => ?_) fun _ => h) fun _ => h
    obtain ⟨nv, -, -, hs, -⟩ := warmStart_starts ha .modeRestart bad
    exact hs.modesOk
  | resetLineAssert => cases he; exact (modesOk_interruptWrite h).of_eq rfl rfl rfl rfl rfl
  | powerFailure => cases he; exact (modesOk_interruptWrite h).of_eq rfl rfl rfl rfl rfl
  | uptimeTick =>
    have hk : t.mode = s.mode ∧ t.nvWrite = s.nvWrite ∧ t.validating = s.validating := by
      cases he
      cases s.powered <;> cases s.resetHeld <;> exact ⟨rfl, rfl, rfl⟩
    exact h.of_neither rfl he hk.1 hk.2.1 hk.2.2
  | outboundFrameSent => exact modesOk_acting h he (modesOk_headSent h)
  | faultAck q n l => exact modesOk_serving h he fun u hu _ _ => modesOk_serveFaultAck q n l hu
  | tsel q n i => exact modesOk_serving h he fun u hu _ _ => modesOk_serveTsel q n i hu
  | trd q => exact modesOk_serving h he fun u hu _ _ => modesOk_serveTrd q hu
  | enterService q => exact modesOk_serving h he fun u hu _ _ => modesOk_serveEnterService q hu
  | enterNormal q => exact modesOk_serving h he fun u hu hw _ => modesOk_serveEnterNormal q hu hw
  | twr q i bs => exact modesOk_serving h he fun u hu _ hv => modesOk_serveTwr q i bs hu hv
  | testRun q n => exact modesOk_serving h he fun u hu hw hv => modesOk_serveTestRun q n hu hw hv
  | testEnd q => exact modesOk_serving h he fun u hu _ _ => modesOk_serveTestEnd q hu
  | validationComplete =>
    cases he
    refine modesOk_ite (fun _ => ?_) fun _ => h
    dsimp only
    split
    · exact modesOk_serveValidation _ h (by rw [‹s.validating = _›]; rfl)
    · exact h
  | nvWriteComplete b =>
    cases he
    refine modesOk_ite (fun _ => ?_) fun _ => h
    dsimp only
    split
    · exact modesOk_serveNvWrite _ b h
    · exact h
  | placementDecision during =>
    cases he
    have hg : ModesOk (giveForEntry during s) := modesOk_ite (fun _ => h.of_eq rfl rfl rfl rfl rfl) fun _ => h
    exact modesOk_ite (fun _ => modesOk_noticeTaken during hg) fun _ => h
  | panelFrameReceived bs =>
    exact modesOk_acting h he (h.of_activates (work_panelBytes (.refl s)) (activates_panelBytes (.refl s)))
  | zoneEvent z a k =>
    exact modesOk_acting (work := fun s => endStep (zoneEventTaken z a k s)) h he
      (h.of_activates (work_endStep (work_zoneEventTaken (.refl s))) (activates_endStep (activates_zoneEventTaken (.refl s))))
  | zoneReset z =>
    exact modesOk_acting h he (h.of_activates (work_zoneResetTaken (.refl s)) (activates_zoneResetTaken (.refl s)))
  | zoneIsolateOn q z =>
    exact modesOk_serving h he fun u hu _ _ =>
      hu.of_activates work_serveIsolateOn (activates_serveIsolateOn (.refl u))
  | zoneIsolateOff q z =>
    exact modesOk_serving h he fun u hu _ _ =>
      hu.of_activates work_serveIsolateOff (activates_serveIsolateOff (.refl u))
  | _ =>
    have w := exec_work rfl he
    exact h.of_neither rfl he w.mode w.nvWrite w.validating

/-- Settles O5: a step idles or runs a command. -/
theorem modesStayLegal : Obligations.ModesStayLegal := by
  intro s t h he
  rcases step_cases he with rfl | ⟨c, rest, -, he⟩
  · exact h
  · exact exec_modesOk (s := { s with pending := rest }) (h.of_eq rfl rfl rfl rfl rfl) he

end Sys2Proof.Machine
end

section
/-! The MODE requests (O20) and the table window (O22): each is refused by its checks, and else served as its rule says. -/

namespace Sys2Proof.Machine

variable {s : State}

/-! ### MODE (R170, R171) -/

/-- R170: the refusal of a MODE request, by mode and run. -/
theorem modeRefusal_eq (s : State) :
    modeRefusal s = match s.mode with
      | .start => some .wrongMode
      | .service => if fireMode s = true ∧ s.run.test = true then some .runActive else none
      | .normal => if s.run.state = .idle then none else some .runActive := by
  unfold modeRefusal
  cases s.mode with
  | start => rfl
  | service => simp only [Bool.and_eq_true]
  | normal => by_cases h : s.run.state = .idle <;> simp [fireMode, h]

/-- R170: the change to SERVICE mode, with its event. -/
theorem changeMode_service (row : Instr) (hm : s.mode = .normal) :
    changeMode .service (enterServing row s) =
      enterServing row (recordEntry .modeChange 0 (2 * 256 + 1) { s with mode := .service }) := by
  have hmode : (enterServing row s).mode = .normal := hm
  rw [changeMode_eq, hmode]
  exact recordEntry_enterServing row .modeChange 0 (2 * 256 + 1) { s with mode := .service }

theorem serveEnterService_enterServing (req : Requester) (row : Instr) (s : State) :
    serveEnterService req (enterServing row s) =
      match s.mode with
      | .start => answer req .wrongMode s
      | .service => if fireMode s = true ∧ s.run.test = true then answer req .runActive s else answer req .ok s
      | .normal =>
        if s.run.state = .idle then answer req .ok (recordEntry .modeChange 0 (2 * 256 + 1) { s with mode := .service })
        else answer req .runActive s := by
  have hr := (rfl : modeRefusal (enterServing row s) = modeRefusal s).trans (modeRefusal_eq s)
  have hmode : (enterServing row s).mode = s.mode := rfl
  cases hm : s.mode with
  | start => simp only [serveEnterService, hr, hm, answer_enterServing]
  | service =>
    by_cases hf : fireMode s = true ∧ s.run.test = true <;>
      simp [serveEnterService, hr, hmode, hm, hf, answer_enterServing]
  | normal =>
    by_cases hf : s.run.state = .idle <;>
      simp [serveEnterService, hr, hmode, hm, hf, answer_enterServing, changeMode_service row hm]

theorem serveEnterNormal_enterServing (req : Requester) (s : State) :
    serveEnterNormal req (enterServing (.enterNormal req) s) =
      match s.mode with
      | .start => answer req .wrongMode s
      | .service =>
        if fireMode s = true ∧ s.run.test = true then answer req .runActive s
        else { s with panel := { s.panel with inService := some (.enterNormal req) }, validating := some req }
      | .normal => answer req .ok s := by
  have hr := (rfl : modeRefusal (enterServing (.enterNormal req) s) = modeRefusal s).trans (modeRefusal_eq s)
  have hmode : (enterServing (.enterNormal req) s).mode = s.mode := rfl
  cases hm : s.mode with
  | start => simp [serveEnterNormal, hr, hmode, hm, answer_enterServing]
  | service =>
    by_cases hf : fireMode s = true ∧ s.run.test = true
    · simp [serveEnterNormal, hr, hmode, hm, hf, answer_enterServing]
    · simp only [serveEnterNormal, hr, hmode, hm, hf, if_false, reduceCtorEq]
      rw [← hm]
      rfl
  | normal => simp [serveEnterNormal, hmode, hm, answer_enterServing]

theorem serveRestart_enterServing (req : Requester) (row : Instr) (s : State) :
    serveRestart req (enterServing row s) =
      match s.mode with
      | .start => answer req .wrongMode s
      | .service =>
        if fireMode s = true ∧ s.run.test = true then answer req .runActive s
        else answerFrame req 0x40 [0#8] .warmStart s
      | .normal =>
        if s.run.state = .idle then answerFrame req 0x40 [0#8] .warmStart s else answer req .runActive s := by
  have hr := (rfl : modeRefusal (enterServing row s) = modeRefusal s).trans (modeRefusal_eq s)
  have hk : answerFrame req kReply (byte1 (resultCode .ok)) .warmStart (enterServing row s) =
    answerFrame req 0x40 [0#8] .warmStart s := answerFrame_enterServing ..
  cases hm : s.mode with
  | start => simp only [serveRestart, hr, hm, answer_enterServing]
  | service =>
    by_cases hf : fireMode s = true ∧ s.run.test = true <;> simp [serveRestart, hr, hk, hm, hf, answer_enterServing]
  | normal =>
    by_cases hf : s.run.state = .idle <;> simp [serveRestart, hr, hk, hm, hf, answer_enterServing]

/-- Settles O20: each MODE request by the mode and the run. -/
theorem modeRequestsGoByModeAndRun : Obligations.ModeRequestsGoByModeAndRun := by
  intro req s
  refine ⟨fun hs => ?_, fun hs => ?_, fun hs => ?_⟩
  · exact (serving_served hs).trans (congrArg _ (serveEnterService_enterServing req _ s))
  · exact (serving_served hs).trans (congrArg _ (serveEnterNormal_enterServing req s))
  · exact (serving_served hs).trans (congrArg _ (serveRestart_enterServing req _ s))

/-! ### The table window (R172, R173) -/

theorem serveTsel_enterServing (req : Requester) (table index : Nat) (row : Instr) (s : State) :
    serveTsel req table index (enterServing row s) =
      if s.mode = .start then answer req .wrongMode s
      else match tableOf table with
        | none => answer req .badValue s
        | some t =>
          if firstIndex t ≤ index ∧ index ≤ lastIndex t then
            answer req .ok { s with window := { selected := some t, cursor := index } }
          else answer req .badIndex s := by
  have hset : ∀ w, { enterServing row s with window := w } = enterServing row { s with window := w } := fun _ => rfl
  simp only [serveTsel, hset, answer_enterServing]
  rfl

/-- R173: the entry under the cursor is answered, and the cursor rises. -/
theorem stepCursor_answerFrame (req : Requester) (kind : Nat) (payload : List Byte) (s : State) :
    stepCursor (answerFrame req kind payload .nothing s) =
      answerFrame req kind payload .nothing { s with window := { s.window with cursor := s.window.cursor + 1 } } := rfl

theorem serveTrd_enterServing (req : Requester) (row : Instr) (s : State) :
    serveTrd req (enterServing row s) =
      if s.mode = .start then answer req .wrongMode s
      else match s.window.selected with
        | none => answer req .badIndex s
        | some t =>
          if lastIndex t < s.window.cursor then answer req .endOfTable s
          else
            answerFrame req 0x44
              (byte1 (tableCode t) ++ byte2 s.window.cursor
                ++ fieldBytes (fieldWidths t) (entryFields s.tables { table := t, index := s.window.cursor }))
              .nothing { s with window := { s.window with cursor := s.window.cursor + 1 } } := by
  have hw : (enterServing row s).window = s.window := rfl
  have hp : ∀ t i, tablePayload (enterServing row s) t i = tablePayload s t i := fun _ _ => rfl
  simp only [serveTrd, hw, hp, answer_enterServing, answerFrame_enterServing, stepCursor_answerFrame]
  rfl

/-- Settles O22: each request is refused by the first check that fails, or served as R172 and R173 say. -/
theorem tableWindowSelectsAndReads : Obligations.TableWindowSelectsAndReads := by
  intro req table index s
  refine ⟨fun hs => ?_, fun hs => ?_⟩
  · exact (serving_served hs).trans (congrArg _ (serveTsel_enterServing req table index _ s))
  · exact (serving_served hs).trans (congrArg _ (serveTrd_enterServing req _ s))

end Sys2Proof.Machine
end

section
/-! Right after reset the laws hold that every step keeps (O14). -/

namespace Sys2Proof.Machine

/-- The tables of a module as delivered list no entry, so every entry is the blank one, which is in its ranges. -/
theorem tablesInRange_blankTables : TablesInRange blankTables := ⟨nofun, by decide⟩

theorem listsOk_reset : ListsOk State.reset where
  tables := tablesInRange_blankTables
  stored := tablesInRange_blankTables
  writing := nofun
  flight := by decide
  flightOnce := List.nodup_nil
  delay := nofun
  idle _ := ⟨rfl, rfl, rfl⟩
  queueOnce := List.nodup_nil
  queued o := iff_of_false List.not_mem_nil nofun
  atNone o _ := .inr rfl
  timer o h := by cases h
  superseded o := Nat.zero_le _
  fastRing := List.nodup_nil
  slowRing := List.nodup_nil
  misses m := ⟨Nat.zero_le _, fun _ => Nat.zero_le _⟩
  fastCount := Nat.zero_le _
  burst := Nat.zero_le _

theorem boundsOk_reset : BoundsOk State.reset := by constructor <;> decide

theorem canonical_reset : Canonical State.reset := by
  have ht : TablesCanonical blankTables := ⟨rfl, rfl, rfl, rfl, rfl, rfl, rfl⟩
  exact ⟨ht, ht, rfl, rfl, rfl, rfl, rfl, rfl, rfl⟩

/-- Settles O14, law by law: no entry, no record, no run. -/
theorem resetObeysTheLaws : Obligations.ResetObeysTheLaws :=
  ⟨modesOk_idle rfl rfl rfl, ⟨Nat.zero_le _, by decide, nofun⟩, nofun, boundsOk_reset, listsOk_reset, canonical_reset,
    fun _ => ⟨Nat.zero_le _, Nat.zero_le _⟩, nofun, Cold.servedOk ⟨rfl, rfl⟩, ⟨rfl, rfl⟩⟩

end Sys2Proof.Machine
end

section
/-! An entry as its fields and as its bytes (12.6), and what a written entry leaves (O25). -/

namespace Sys2Proof.Machine

/-! ### Numbers and fields as bytes -/

@[simp] theorem length_bytesBE (w n : Nat) : (bytesBE w n).length = w := by
  induction w with
  | zero => rfl
  | succ w ih => exact congrArg (· + 1) ih

/-- The digits of `n` below `256 ^ w`, read after a number. -/
theorem foldl_bytesBE (w n a : Nat) :
    (bytesBE w n).foldl (fun m b => m * 256 + b.toNat) a = a * 256 ^ w + n % 256 ^ w := by
  induction w generalizing a with
  | zero => simp [bytesBE, Nat.mod_one]
  | succ w ih =>
    have hdigit : n % 256 ^ (w + 1) = n % 256 ^ w + 256 ^ w * (n / 256 ^ w % 256) := by
      rw [Nat.pow_succ, Nat.mod_mul]
    rw [bytesBE, List.foldl_cons, ih, BitVec.toNat_ofNat, hdigit, Nat.pow_succ]
    ring

theorem numBE_bytesBE {w n : Nat} (h : n < 256 ^ w) : numBE (bytesBE w n) = n := by
  rw [numBE, foldl_bytesBE, Nat.mod_eq_of_lt h, Nat.zero_mul, Nat.zero_add]

theorem le_of_inIntervals {is : List (Nat × Nat)} {n m : Nat} (h : inIntervals is n = true) (hm : ∀ p ∈ is, p.2 < m) :
    n < m := by
  obtain ⟨p, hp, hn⟩ := List.any_eq_true.mp h
  obtain ⟨-, hle⟩ := (Bool.and_eq_true _ _).mp hn
  exact Nat.lt_of_le_of_lt (of_decide_eq_true hle) (hm p hp)

/-- The ranges of each field fit its width. -/
def WidthsFit (ws : List Nat) (rs : List (List (Nat × Nat))) : Prop :=
  List.Forall₂ (fun w r => ∀ p ∈ r, p.2 < 256 ^ w) ws rs

/-- 12.6: the bytes of fields within their ranges spell the fields. -/
theorem readFields_fieldBytes {ws : List Nat} {rs : List (List (Nat × Nat))} {fs : List Nat} (hw : WidthsFit ws rs)
    (hf : allInRange rs fs = true) : readFields ws (fieldBytes ws fs) = some fs := by
  induction hw generalizing fs with
  | nil =>
    cases fs with
    | nil => rfl
    | cons f fs => cases hf
  | @cons w r ws rs hwr _ ih =>
    cases fs with
    | nil => cases hf
    | cons f fs =>
      obtain ⟨hfirst, hrest⟩ := (Bool.and_eq_true _ _).mp hf
      have hlong : ¬ (bytesBE w f ++ fieldBytes ws fs).length < w := by simp
      rw [fieldBytes, readFields, if_neg hlong, List.drop_left' (length_bytesBE w f), List.take_left' (length_bytesBE w f),
        ih hrest, Option.map_some, numBE_bytesBE (le_of_inIntervals hfirst hwr)]

theorem widthsFit_fields (t : TableId) : WidthsFit (fieldWidths t) (fieldRanges t) := by
  unfold WidthsFit
  cases t <;> decide

/-! ### Entries as fields -/

theorem length_of_allInRange {rs : List (List (Nat × Nat))} {fs : List Nat} (h : allInRange rs fs = true) :
    fs.length = rs.length := by
  induction rs generalizing fs with
  | nil =>
    cases fs with
    | nil => rfl
    | cons f fs => cases h
  | cons r rs ih =>
    cases fs with
    | nil => cases h
    | cons f fs => exact congrArg (· + 1) (ih ((Bool.and_eq_true _ _).mp h).2)

/-- A list of a known length is the list of its places. -/
theorem map_getD_range {f : List Nat} {n : Nat} (h : f.length = n) : (List.range n).map (fun k => f.getD k 0) = f := by
  subst h
  refine List.ext_getElem (by simp) fun k _ hk => ?_
  rw [List.getElem_map, List.getElem_range, List.getD_eq_getElem _ _ hk]

variable {r r' : EntryRef} {f : List Nat} {t : Tables}

/-- 12.6: an entry that is put is got back field by field. -/
theorem entryFields_putEntry (ht : TablesCanonical t) (hf : f.length = (fieldRanges r.table).length) :
    entryFields (putEntry r f t) r = f := by
  obtain ⟨tab, i⟩ := r
  cases tab with
  | output => exact (congrArg outputFields (sget_sput_same ht.outputs)).trans (map_getD_range hf)
  | zone => exact (congrArg zoneFields (sget_sput_same ht.zones)).trans (map_getD_range hf)
  | scenario => exact (congrArg scenarioFields (sget_sput_same ht.scenarios)).trans (map_getD_range hf)
  | joint => exact (congrArg jointFields (sget_sput_same ht.joints)).trans (map_getD_range hf)
  | step => exact (congrArg stepFields (sget_sput_same ht.steps)).trans (map_getD_range hf)
  | board => exact (congrArg boardFields (sget_sput_same ht.boards)).trans (map_getD_range hf)
  | window => exact (congrArg windowFields (sget_sput_same ht.windows)).trans (map_getD_range hf)
  | link => exact map_getD_range hf

theorem tablesCanonical_putEntry (h : TablesCanonical t) : TablesCanonical (putEntry r f t) := by
  obtain ⟨tab, i⟩ := r
  cases tab with
  | output => exact { h with outputs := sparseWf_sput h.outputs }
  | zone => exact { h with zones := sparseWf_sput h.zones }
  | scenario => exact { h with scenarios := sparseWf_sput h.scenarios }
  | joint => exact { h with joints := sparseWf_sput h.joints }
  | step => exact { h with steps := sparseWf_sput h.steps }
  | board => exact { h with boards := sparseWf_sput h.boards }
  | window => exact { h with windows := sparseWf_sput h.windows }
  | link => exact { h with }

/-- An entry of another table stands. -/
theorem entryFields_putEntry_table (h : r'.table ≠ r.table) : entryFields (putEntry r f t) r' = entryFields t r' := by
  obtain ⟨tab, i⟩ := r
  obtain ⟨tab', i'⟩ := r'
  cases tab <;> cases tab' <;> first | rfl | exact absurd rfl h

/-- 11.3: another index of the same table stands; the link record is the one entry of its table. -/
theorem entryFields_putEntry_index (hr : r.wellFormed = true) (hr' : r'.wellFormed = true) (htab : r'.table = r.table)
    (h : r'.index ≠ r.index) : entryFields (putEntry r f t) r' = entryFields t r' := by
  obtain ⟨tab, i⟩ := r
  obtain ⟨tab', i'⟩ := r'
  cases htab
  cases tab with
  | output => exact congrArg outputFields (sget_sput_other h)
  | zone => exact congrArg zoneFields (sget_sput_other h)
  | scenario => exact congrArg scenarioFields (sget_sput_other h)
  | joint => exact congrArg jointFields (sget_sput_other h)
  | step => exact congrArg stepFields (sget_sput_other h)
  | board => exact congrArg boardFields (sget_sput_other h)
  | window => exact congrArg windowFields (sget_sput_other h)
  | link => exact absurd ((of_decide_eq_true hr').trans (of_decide_eq_true hr).symm) h

theorem entryFields_putEntry_other (hr : r.wellFormed = true) (hr' : r'.wellFormed = true) (h : r' ≠ r) :
    entryFields (putEntry r f t) r' = entryFields t r' := by
  by_cases htab : r'.table = r.table
  · exact entryFields_putEntry_index hr hr' htab fun hi => h (by cases r; cases r'; cases htab; cases hi; rfl)
  · exact entryFields_putEntry_table htab

/-- Settles O25: reading back, the canonical form, the other entries, and the bytes. -/
theorem writtenEntryReadsBack : Obligations.WrittenEntryReadsBack := by
  intro t r f ht hf
  exact ⟨entryFields_putEntry ht (length_of_allInRange hf), tablesCanonical_putEntry ht,
    fun _ hr hr' hne => entryFields_putEntry_other hr hr' hne, readFields_fieldBytes (widthsFit_fields r.table) hf⟩

end Sys2Proof.Machine
end

section
/-! TWR's checks in their order, and the write of an entry that passes (O23). -/

namespace Sys2Proof.Machine

variable {s : State}

/-! ### The ranges of fields, and the numbers of fans (R173) -/

theorem inIntervals_iff {is : List (Nat × Nat)} {n : Nat} : inIntervals is n = true ↔ ∃ r ∈ is, r.1 ≤ n ∧ n ≤ r.2 := by
  simp [inIntervals]

theorem allInRange_iff {rs : List (List (Nat × Nat))} {fs : List Nat} :
    allInRange rs fs = true ↔ fs.length = rs.length ∧ ∀ p ∈ rs.zip fs, ∃ r ∈ p.1, r.1 ≤ p.2 ∧ p.2 ≤ r.2 := by
  induction rs generalizing fs with
  | nil => cases fs <;> simp [allInRange]
  | cons r rs ih =>
    cases fs with
    | nil => simp [allInRange]
    | cons f fs =>
      rw [allInRange, Bool.and_eq_true, ih, inIntervals_iff, List.zip_cons_cons, List.forall_mem_cons, List.length_cons,
        List.length_cons, Nat.succ_inj]
      exact and_left_comm

theorem fanCountsOk_iff {t : Tables} {board : Nat} :
    fanCountsOk t board = true ↔
      ((tableFans t).filter (fun o => (outputOf t o).board == board)).length ≤ 16 ∧ (tableFans t).length ≤ 32 := by
  rw [fanCountsOk, Bool.and_eq_true, decide_eq_true_iff, decide_eq_true_iff]

/-! ### TWR -/

/-- R173, checks 6 and 7. -/
theorem entryAccepted_eq (s : State) (t : TableId) (index : Nat) (entry : List Byte) :
    entryAccepted s t index entry =
      (readFields (fieldWidths t) entry).bind fun f =>
        if fieldsInRange t f = false then none
        else if t = .output ∧ isFan (outputOfFields f) = true ∧
            fanCountsOk (putEntry { table := t, index := index } f s.tables) (outputOfFields f).board = false then none
        else some f := by
  unfold entryAccepted
  cases readFields (fieldWidths t) entry with
  | none => rfl
  | some f => simp only [Option.bind_some, Bool.not_eq_true']

/-- R173: a TWR is refused by the first check that fails, and else is being written. -/
theorem serveTwr_enterServing (req : Requester) (index : Nat) (entry : List Byte) (row : Instr) (s : State) :
    serveTwr req index entry (enterServing row s) =
      (let refuse := fun (r : Result) => answerWrite s.window.selected req r s
      if s.mode ≠ .service then refuse .wrongMode
      else match s.window.selected with
        | none => refuse .badIndex
        | some t =>
          if fireMode s = true ∧ s.run.test = true then refuse .busy
          else if lastIndex t < s.window.cursor then refuse .endOfTable
          else if index ≠ s.window.cursor then refuse .badIndex
          else match readFields (fieldWidths t) entry with
            | none => refuse .badValue
            | some f =>
              if fieldsInRange t f = false then refuse .badValue
              else if t = .output ∧ isFan (outputOfFields f) = true ∧
                  fanCountsOk (putEntry { table := t, index := index } f s.tables) (outputOfFields f).board = false then
                refuse .badValue
              else { enterServing row s with
                nvWrite := some { req := req, ref := { table := t, index := index }, fields := f } }) := by
  have hrefuse : ∀ r, answerWrite s.window.selected req r (enterServing row s) = answerWrite s.window.selected req r s :=
    fun r => congrArg (fun p => setPanel (fun _ => p) s) (offerFrame_leave _ .nothing s.panel (some row))
  have hcheck : twrCheck (enterServing row s) (some index) entry = twrCheck s (some index) entry := rfl
  have hwindow : (enterServing row s).window = s.window := rfl
  dsimp only
  rw [serveTwr, hcheck, hwindow, twrCheck]
  by_cases hm : s.mode ≠ .service
  · rw [if_pos hm, if_pos hm]
    exact hrefuse _
  rw [if_neg hm, if_neg hm]
  cases hsel : s.window.selected with
  | none =>
    rw [hsel] at hrefuse
    exact hrefuse _
  | some t =>
    rw [hsel] at hrefuse
    dsimp only
    by_cases hrun : fireMode s = true ∧ s.run.test = true
    · rw [if_pos hrun, if_pos (Bool.and_eq_true_iff.2 hrun)]
      exact hrefuse _
    rw [if_neg hrun, if_neg (mt Bool.and_eq_true_iff.1 hrun)]
    by_cases hend : lastIndex t < s.window.cursor
    · rw [if_pos hend, if_pos hend]
      exact hrefuse _
    rw [if_neg hend, if_neg hend]
    by_cases hindex : index ≠ s.window.cursor
    · rw [if_pos hindex, if_pos hindex]
      exact hrefuse _
    rw [if_neg hindex, if_neg hindex, entryAccepted_eq]
    cases readFields (fieldWidths t) entry with
    | none => exact hrefuse _
    | some f =>
      dsimp only [Option.bind_some]
      by_cases hf : fieldsInRange t f = false
      · rw [if_pos hf, if_pos hf]
        exact hrefuse _
      rw [if_neg hf, if_neg hf]
      by_cases hc : t = .output ∧ isFan (outputOfFields f) = true ∧
          fanCountsOk (putEntry { table := t, index := index } f s.tables) (outputOfFields f).board = false
      · rw [if_pos hc, if_pos hc]
        exact hrefuse _
      · rw [if_neg hc, if_neg hc]

/-- Settles O23: check 6 field by field, check 7 by its counts, and the request by its checks. -/
theorem twrIsCheckedInOrder : Obligations.TwrIsCheckedInOrder := by
  refine ⟨fun t f => ?_, fun t board => fanCountsOk_iff, fun req index entry s hs => ?_⟩
  · cases t <;> exact allInRange_iff
  · exact (serving_served hs).trans (congrArg _ (serveTwr_enterServing req index entry _ s))

end Sys2Proof.Machine
end

section
/-! The stores' canonical form (O10) through the operations of the blocks, in the order of the model: every write of a store
goes through `sput`, which keeps the form. -/

namespace Sys2Proof.Machine

-- Elaborated one after another: the check bounds Lean's threads.
set_option Elab.async false

variable {s t : State} {o d f m b z n x : Nat} {c : Cmd}

/-! ### The writes of the state -/

/-- A change of parts that are no addressed store. -/
theorem Canonical.of_eq (h : Canonical s) (htables : t.tables = s.tables := by rfl) (hnv : t.nv = s.nv := by rfl)
    (hzones : t.zones = s.zones := by rfl) (houts : t.outs = s.outs := by rfl) (hboards : t.boards = s.boards := by rfl)
    (hmodules : t.plant.modules = s.plant.modules := by rfl)
    (hzs : t.ff.zoneSwitches = s.ff.zoneSwitches := by rfl) (hos : t.ff.outputSwitches = s.ff.outputSwitches := by rfl)
    (hissued : t.run.lastIssued = s.run.lastIssued := by rfl) : Canonical t := by
  constructor
  · exact htables ▸ h.tables
  · exact hnv ▸ h.nv
  · exact hzones ▸ h.zones
  · exact houts ▸ h.outs
  · exact hboards ▸ h.boards
  · exact hmodules ▸ h.modules
  · exact hzs ▸ h.zoneSwitches
  · exact hos ▸ h.outputSwitches
  · exact hissued ▸ h.lastIssued

theorem canonical_ite {p : Prop} [Decidable p] {u v : State} (hu : Canonical u) (hv : Canonical v) :
    Canonical (if p then u else v) := by
  split
  · exact hu
  · exact hv

theorem canonical_foldl {α : Type} {g : State → α → State} (hg : ∀ {u : State} (x : α), Canonical u → Canonical (g u x))
    {xs : List α} (h : Canonical s) : Canonical (xs.foldl g s) := by
  induction xs generalizing s with
  | nil => exact h
  | cons x xs ih => exact ih (hg x h)

theorem canonical_modOut {g : OutRec → OutRec} (h : Canonical s) : Canonical (modOut o g s) :=
  { h with outs := sparseWf_sput h.outs }

theorem canonical_setZone {r : ZoneRec} (h : Canonical s) : Canonical (setZone z r s) :=
  { h with zones := sparseWf_sput h.zones }

theorem canonical_setModule {r : ModuleRec} (h : Canonical s) : Canonical (setModule m r s) :=
  { h with modules := sparseWf_sput h.modules }

theorem canonical_setBoardSource {src : BoardSource} (h : Canonical s) : Canonical (setBoardSource b src s) :=
  { h with boards := sparseWf_sput h.boards }

theorem canonical_setPlant {g : Plant → Plant} (h : Canonical s) (hm : (g s.plant).modules = s.plant.modules := by rfl) :
    Canonical (setPlant g s) := h.of_eq (hmodules := hm)

theorem canonical_setQueue {g : List QueueEntry → List QueueEntry} (h : Canonical s) : Canonical (setQueue g s) := h.of_eq

theorem canonical_setWatches {g : List Watch → List Watch} (h : Canonical s) : Canonical (setWatches g s) := h.of_eq

theorem canonical_setPanel {g : Panel → Panel} (h : Canonical s) : Canonical (setPanel g s) := h.of_eq

theorem canonical_setCapture {g : Capture → Capture} (h : Canonical s) : Canonical (setCapture g s) := h.of_eq

theorem canonical_tellRunner {k : RunnerNotice} (h : Canonical s) : Canonical (tellRunner k s) := h.of_eq

theorem canonical_tellMonitor {k : MonitorNotice} (h : Canonical s) : Canonical (tellMonitor k s) := h.of_eq

theorem canonical_recordEntry {ev : Ev} {subject detail : Nat} (h : Canonical s) :
    Canonical (recordEntry ev subject detail s) := by
  rw [recordEntry_eq]
  exact h.of_eq

theorem canonical_report {r : Report} (h : Canonical s) : Canonical (report r s) :=
  have ht := canonical_recordEntry h
  canonical_ite (canonical_ite (canonical_recordEntry (canonical_setCapture ht)) (canonical_setCapture ht)) ht

theorem canonical_raise {ev : Ev} {subject detail : Nat} (h : Canonical s) : Canonical (raise ev subject detail s) :=
  canonical_report h

/-! ### The Output Resolver and the Start Scheduler -/

theorem modules_ringJoin (p : Plant) : (ringJoin m p).modules = p.modules := by
  unfold ringJoin
  split <;> rfl

theorem canonical_setAct {a : Act} (h : Canonical s) : Canonical (setAct o a s) :=
  have ht := canonical_modOut h
  canonical_ite ht (canonical_ite (canonical_setPlant ht (modules_ringJoin _)) (canonical_setPlant ht))

theorem canonical_dequeue (h : Canonical s) : Canonical (dequeue o s) := canonical_setQueue h

theorem canonical_enqueue (h : Canonical s) : Canonical (enqueue o c s) := canonical_setAct (canonical_setQueue h)

theorem canonical_tellReserve (h : Canonical s) : Canonical (tellReserve o s) := by
  unfold tellReserve
  split
  · exact canonical_tellMonitor h
  · exact h

theorem canonical_tellSettled (h : Canonical s) : Canonical (tellSettled o s) :=
  canonical_tellReserve (canonical_tellRunner h)

theorem canonical_settleRecord (h : Canonical s) : Canonical (settleRecord o s) :=
  have ht := canonical_setAct (canonical_modOut h)
  canonical_ite ht (canonical_tellSettled ht)

theorem canonical_admitFan (h : Canonical s) : Canonical (admitFan f s) := by
  unfold admitFan
  split
  · exact h
  · exact canonical_ite (canonical_settleRecord (canonical_modOut h)) (canonical_enqueue (canonical_modOut h))

theorem canonical_examineTimes (h : Canonical s) : Canonical (examineTimes n b s) := by
  induction n generalizing s with
  | zero => exact h
  | succ n ih =>
    unfold examineTimes
    split
    · exact h
    · exact canonical_ite (ih (canonical_admitFan h)) h

theorem canonical_examine (h : Canonical s) : Canonical (examine b s) := canonical_examineTimes h

theorem canonical_examineFor (h : Canonical s) : Canonical (examineFor o s) := canonical_ite (canonical_examine h) h

theorem canonical_releaseSlot (h : Canonical s) : Canonical (releaseSlot o s) :=
  canonical_ite (canonical_examineFor (canonical_modOut h)) h

theorem canonical_forgetWait (h : Canonical s) : Canonical (forgetWait o s) := canonical_modOut h

theorem canonical_resumeWait (h : Canonical s) : Canonical (resumeWait o s) := canonical_ite h (canonical_forgetWait h)

theorem canonical_warnHeld (h : Canonical s) : Canonical (warnHeld f s) :=
  canonical_ite (canonical_raise (canonical_modOut h)) h

theorem canonical_toFault {code : FaultCode} {cause : Cause} (h : Canonical s) : Canonical (toFault o code cause s) :=
  have hr : Canonical (faultRecord o code cause s) :=
    canonical_setAct (canonical_dequeue (canonical_modOut (canonical_modOut h)))
  canonical_tellReserve (canonical_tellRunner (canonical_examineFor (canonical_modOut (canonical_report hr))))

theorem canonical_joinWait (h : Canonical s) : Canonical (joinWait f s) :=
  canonical_warnHeld (canonical_examineFor (canonical_setAct (canonical_modOut h)))

theorem canonical_judgePath (h : Canonical s) : Canonical (judgePath f s) :=
  canonical_ite h (canonical_ite (canonical_joinWait h) (canonical_ite (canonical_toFault h) h))

theorem canonical_rejudge (h : Canonical s) : Canonical (rejudge d s) :=
  canonical_foldl (fun _ hu => canonical_judgePath hu) h

theorem canonical_settle (h : Canonical s) : Canonical (settle o s) :=
  canonical_ite (canonical_examineFor (canonical_settleRecord h)) (canonical_settleRecord h)

theorem canonical_placeStart (h : Canonical s) : Canonical (placeStart o c s) :=
  canonical_ite (canonical_judgePath (canonical_setAct h)) (canonical_joinWait h)

theorem canonical_place (h : Canonical s) : Canonical (place o s) := by
  unfold place
  dsimp only
  split
  · exact h
  · refine canonical_ite (canonical_ite (canonical_toFault h) (canonical_setAct h)) ?_
    iterate 3 refine canonical_ite (canonical_toFault h) ?_
    exact canonical_ite (canonical_settle h)
      (canonical_ite (canonical_placeStart (canonical_resumeWait h)) (canonical_enqueue h))

theorem canonical_placeFromWait (h : Canonical s) : Canonical (placeFromWait o s) :=
  canonical_ite (canonical_examineFor (canonical_place h)) (canonical_place h)

theorem canonical_newAttempt {way : Way} (h : Canonical s) : Canonical (newAttempt o way s) :=
  canonical_place (canonical_raise (canonical_modOut h))

theorem canonical_requeueStart (h : Canonical s) : Canonical (requeueStart o s) := by
  unfold requeueStart
  dsimp only
  split
  · exact canonical_ite (canonical_place (canonical_dequeue h)) h
  · exact h

/-- What follows the work done for an output keeps the form that the work keeps. -/
theorem canonical_onOutput {work : State → State} (h : Canonical (work s)) : Canonical (onOutput o work s) :=
  canonical_ite (canonical_rejudge (canonical_requeueStart h)) (canonical_requeueStart h)

theorem canonical_supersede (h : Canonical s) : Canonical (supersede o c s) := by
  have ht : ∀ {p : Prop} [Decidable p] {u : State}, Canonical u → Canonical (if p then examineFor o u else u) :=
    fun hu => canonical_ite (canonical_examineFor hu) hu
  have hs : ∀ {g : OutRec → OutRec}, Canonical (modOut o g s) := canonical_modOut h
  exact canonical_ite (canonical_placeStart (canonical_forgetWait (canonical_dequeue (ht hs))))
    (canonical_ite (canonical_setQueue (ht hs)) (canonical_enqueue (ht hs)))

theorem canonical_toNone {was : Act} (h : Canonical s) : Canonical (toNone was o s) := by
  have ht : ∀ {g : OutRec → OutRec}, Canonical (modOut o g (dequeue o s)) := canonical_modOut (canonical_dequeue h)
  have hr : ∀ {p : Prop} [Decidable p] {ev : Ev} {k n : Nat} {g : OutRec → OutRec},
      Canonical (if p then raise ev k n (modOut o g (dequeue o s)) else modOut o g (dequeue o s)) :=
    canonical_ite (canonical_raise ht) ht
  have hu : ∀ {p : Prop} [Decidable p] {u : State}, Canonical u →
      Canonical (if p then settleRecord o u else setAct o .unknown u) :=
    fun hu => canonical_ite (canonical_settleRecord hu) (canonical_setAct hu)
  exact canonical_ite (canonical_examineFor (hu hr)) (hu hr)

theorem canonical_takeCommand (h : Canonical s) : Canonical (takeCommand o s) := canonical_modOut (canonical_modOut h)

theorem canonical_actOnCommand {was : Act} (h : Canonical s) : Canonical (actOnCommand was o s) := by
  unfold actOnCommand
  split
  · exact canonical_toNone h
  · split
    · exact canonical_newAttempt h
    iterate 5 exact canonical_supersede h
    · exact canonical_examineFor (canonical_place h)
    iterate 3 exact canonical_place h

theorem canonical_recomputeAll {os : List Nat} (h : Canonical s) : Canonical (recomputeAll os s) :=
  canonical_foldl (fun _ hu =>
    canonical_ite (canonical_onOutput (canonical_actOnCommand hu)) (canonical_ite (canonical_examineFor hu) hu))
    (canonical_foldl (fun _ hu => canonical_takeCommand hu) h)

theorem canonical_recompute (h : Canonical s) : Canonical (recompute o s) := canonical_recomputeAll h

theorem canonical_changeLayers {w : Nat → OutRec → OutRec} {os : List Nat} (h : Canonical s) :
    Canonical (changeLayers w os s) :=
  canonical_recomputeAll (canonical_foldl (fun _ hu => canonical_modOut hu) h)

theorem canonical_writeFire {c : Option Cmd} (h : Canonical s) : Canonical (writeFire o c s) :=
  canonical_ite (canonical_changeLayers h) h

theorem canonical_beginFire (h : Canonical s) : Canonical (beginFire s) := canonical_changeLayers h

theorem canonical_endFire (h : Canonical s) : Canonical (endFire s) := canonical_changeLayers h

theorem canonical_acceptCommand (h : Canonical s) : Canonical (acceptCommand o c s) := by
  unfold acceptCommand
  dsimp only
  have ht : ∀ {a : Act} {g : OutRec → OutRec}, Canonical (setAct o a (modOut o g s)) :=
    canonical_setAct (canonical_modOut h)
  split
  · exact canonical_ite (canonical_releaseSlot ht) ht
  · exact ht

theorem canonical_sentEnding {a : Ack} (h : Canonical s) : Canonical (sentEnding o a s) := by
  unfold sentEnding
  dsimp only
  split
  · exact h
  · split
    · exact canonical_acceptCommand h
    · exact canonical_ite (canonical_toFault (canonical_modOut h)) (canonical_enqueue (canonical_modOut h))
    · exact canonical_toFault (canonical_modOut h)
    · exact canonical_toFault h

theorem canonical_supersededEnding {a : Ack} (h : Canonical s) : Canonical (supersededEnding o a s) := by
  unfold supersededEnding
  split
  · exact h
  · split
    · exact canonical_releaseSlot h
    · exact canonical_modOut h

theorem canonical_exchangeEnded {a : Ack} (h : Canonical s) : Canonical (exchangeEnded o a s) := by
  unfold exchangeEnded
  split
  · exact canonical_onOutput (canonical_sentEnding h)
  · exact canonical_onOutput (canonical_supersededEnding h)

theorem canonical_proofExpired (h : Canonical s) : Canonical (proofExpired o s) := by
  unfold proofExpired
  dsimp only
  refine canonical_onOutput ?_
  split
  · exact canonical_enqueue (canonical_modOut h)
  · exact canonical_toFault h

theorem canonical_takeView {v : View} {valid unusable : Bool} (h : Canonical s) :
    Canonical (takeView o v valid unusable s) :=
  canonical_ite (canonical_tellMonitor (canonical_modOut h)) (canonical_modOut h)

theorem canonical_readInFault {old : OutRec} (h : Canonical s) : Canonical (readInFault o old c s) :=
  canonical_ite h (canonical_ite (canonical_settle (canonical_raise (canonical_modOut h)))
    (canonical_ite (canonical_newAttempt h) h))

theorem canonical_depart (h : Canonical s) : Canonical (depart o c s) :=
  canonical_ite (canonical_enqueue h) (canonical_ite (canonical_enqueue (canonical_modOut h)) (canonical_toFault h))

theorem canonical_readInState {old : OutRec} (h : Canonical s) : Canonical (readInState o old c s) := by
  unfold readInState
  dsimp only
  split
  iterate 3 exact canonical_ite (canonical_settle h) (canonical_ite (canonical_modOut h) h)
  · exact canonical_ite h (canonical_depart h)
  iterate 2 exact canonical_ite (canonical_placeFromWait h) h
  · exact h

theorem canonical_afterReading {old : OutRec} (h : Canonical s) : Canonical (afterReading o old s) := by
  unfold afterReading
  split
  · exact canonical_settle h
  · exact canonical_place h
  · exact h
  · exact canonical_readInFault h
  · split
    · exact canonical_ite (canonical_toFault h) (canonical_readInState h)
    · exact canonical_readInState h

theorem canonical_examineIfFallen (h : Canonical s) : Canonical (examineIfFallen o n s) :=
  canonical_ite (canonical_examineFor h) h

theorem canonical_takeReading (h : Canonical s) : Canonical (takeReading o b s) :=
  canonical_examineIfFallen (canonical_onOutput (canonical_afterReading (canonical_takeView h)))

theorem canonical_takeUnusable (h : Canonical s) : Canonical (takeUnusable o s) :=
  canonical_examineIfFallen (canonical_onOutput (canonical_ite (canonical_setAct (canonical_takeView h))
    (canonical_ite (canonical_takeView h) (canonical_toFault (canonical_takeView h)))))

theorem canonical_outputLost (h : Canonical s) : Canonical (outputLost o s) :=
  canonical_onOutput (canonical_ite (canonical_takeView h)
    (canonical_ite (canonical_setAct (canonical_takeView h)) (canonical_toFault (canonical_takeView h))))

theorem canonical_outputsLost (h : Canonical s) : Canonical (outputsLost m s) :=
  canonical_foldl (fun _ hu => canonical_outputLost hu) h

theorem canonical_outputReturned (h : Canonical s) : Canonical (outputReturned o s) :=
  canonical_ite (canonical_onOutput (canonical_newAttempt h)) h

theorem canonical_outputsReturned (h : Canonical s) : Canonical (outputsReturned m s) :=
  canonical_foldl (fun _ hu => canonical_outputReturned hu) h

theorem canonical_takeReadings {bs : List Byte} (h : Canonical s) : Canonical (takeReadings m bs s) :=
  canonical_foldl (fun _ hu => canonical_ite (canonical_takeReading hu) (canonical_takeUnusable hu)) h

theorem canonical_returnToWait (h : Canonical s) : Canonical (returnToWait f s) :=
  canonical_setAct (canonical_dequeue (canonical_modOut h))

theorem canonical_restageBoard (h : Canonical s) : Canonical (restageBoard b s) :=
  canonical_foldl (fun _ hu => canonical_returnToWait hu) (canonical_foldl (fun _ hu => canonical_modOut hu) h)

theorem canonical_examineAndWarn (h : Canonical s) : Canonical (examineAndWarn b s) :=
  canonical_foldl (fun _ hu => canonical_warnHeld hu) (canonical_examine h)

theorem canonical_sourceChange {src : BoardSource} (h : Canonical s) : Canonical (sourceChange b src s) :=
  canonical_examineAndWarn (canonical_raise (canonical_restageBoard (canonical_setBoardSource h)))

theorem canonical_replaceQueued (h : Canonical s) : Canonical (replaceQueued o s) := by
  unfold replaceQueued
  dsimp only
  split
  · exact canonical_ite (canonical_onOutput (canonical_place (canonical_dequeue h))) h
  · exact h

theorem canonical_reassertOutput (h : Canonical s) : Canonical (reassertOutput o s) := by
  unfold reassertOutput
  dsimp only
  split
  · exact canonical_ite (canonical_onOutput (canonical_place h)) h
  · exact h

theorem canonical_reassert (h : Canonical s) : Canonical (reassert s) :=
  canonical_foldl (fun _ hu => canonical_reassertOutput hu) (canonical_foldl (fun _ hu => canonical_replaceQueued hu) h)

theorem canonical_boardWritten (h : Canonical s) : Canonical (boardWritten b s) :=
  canonical_examineAndWarn (canonical_restageBoard h)

theorem canonical_rebuildRecord {old : OutputEntry} (h : Canonical s) : Canonical (rebuildRecord o old s) :=
  canonical_ite (canonical_modOut (canonical_dequeue h)) (canonical_ite
    (canonical_recompute (canonical_modOut (canonical_dequeue h)))
    (canonical_ite (canonical_ite (canonical_returnToWait (canonical_modOut h)) (canonical_modOut h)) h))

theorem canonical_putTables {tb : Tables} (h : Canonical s) (ht : TablesCanonical tb) : Canonical { s with tables := tb } :=
  { h with tables := ht }

theorem canonical_putOutput {new : OutputEntry} (h : Canonical s) : Canonical (putOutput o new s) := by
  have ht : Canonical (if samePlace (outEntry s o) new then s else setAct o .unknown s) :=
    canonical_ite h (canonical_setAct h)
  exact canonical_putTables ht { ht.tables with outputs := sparseWf_sput ht.tables.outputs }

theorem canonical_outputWritten {new : OutputEntry} (h : Canonical s) : Canonical (outputWritten o new s) := by
  have ht : Canonical (onOutput o (fun u => rebuildRecord o (outEntry s o) (putOutput o new u)) s) :=
    canonical_onOutput (canonical_rebuildRecord (canonical_putOutput h))
  exact canonical_foldl (fun _ hu => canonical_examineAndWarn hu) (canonical_ite (canonical_recompute ht) ht)

end Sys2Proof.Machine
end

section
/-! The stores' canonical form (O10) through the Runner, the Extract Monitor and the Plant Link Controller, to the end of a
command. -/

namespace Sys2Proof.Machine

-- Elaborated one after another: the check bounds Lean's threads.
set_option Elab.async false

variable {s : State} {o m z n : Nat} {c : Cmd}

/-! ### The Runner -/

/-- R41: of the run only the last issued steps are a store. -/
theorem canonical_setRun {g : Run → Run} (h : Canonical s) (hi : (g s.run).lastIssued = s.run.lastIssued := by rfl) :
    Canonical (setRun g s) := h.of_eq (hissued := hi)

/-- R39, R48: a load and a switch begin the last issued steps again. -/
theorem canonical_setRun_issueless {g : Run → Run} (h : Canonical s) (hi : (g s.run).lastIssued = [] := by rfl) :
    Canonical (setRun g s) :=
  ⟨h.tables, h.nv, h.zones, h.outs, h.boards, h.modules, h.zoneSwitches, h.outputSwitches, by
    rw [show (setRun g s).run.lastIssued = [] from hi]
    rfl⟩

theorem canonical_noted {i : Nat} (h : Canonical s) : Canonical (noted i s) :=
  { h with lastIssued := sparseWf_sput h.lastIssued }

theorem canonical_tellStandby (h : Canonical s) : Canonical (tellStandby o s) :=
  canonical_foldl (fun _ hu => canonical_tellMonitor hu) h

theorem canonical_engageStandby {d : Nat} (h : Canonical s) : Canonical (engageStandby o d c s) :=
  canonical_tellStandby (canonical_raise (canonical_modOut (canonical_writeFire h)))

theorem canonical_substitute {code : FaultCode} (h : Canonical s) : Canonical (substitute o code s) := by
  unfold substitute
  dsimp only
  split
  · exact canonical_ite (canonical_ite (canonical_report h) (canonical_engageStandby h)) h
  · exact h

theorem canonical_standbyFaulted (h : Canonical s) : Canonical (standbyFaulted o s) := by
  unfold standbyFaulted
  split
  · exact canonical_report h
  · exact h

theorem canonical_recordRunFault (h : Canonical s) : Canonical (recordRunFault o s) :=
  canonical_ite h (canonical_ite (canonical_setRun h) (canonical_setRun h))

theorem canonical_takeFault {code : FaultCode} (h : Canonical s) : Canonical (takeFault o code s) :=
  canonical_ite (canonical_substitute (canonical_standbyFaulted (canonical_recordRunFault h))) h

theorem canonical_takeReport {k : RunnerNotice} (h : Canonical s) : Canonical (takeReport k s) := by
  have hl : Canonical (leaveFlight (reportedOutput k) s) := canonical_setRun h
  cases k with
  | settled o => exact hl
  | fault o code => exact canonical_takeFault hl

theorem canonical_takeReportsTimes (h : Canonical s) : Canonical (takeReportsTimes n s) := by
  induction n generalizing s with
  | zero => exact h
  | succ n ih =>
    unfold takeReportsTimes
    split
    · exact ih (canonical_takeReport h.of_eq)
    · exact h

theorem canonical_takeReports (h : Canonical s) : Canonical (takeReports s) := canonical_takeReportsTimes h

theorem canonical_followStep (h : Canonical s) : Canonical (followStep o c s) :=
  canonical_foldl (fun _ hu => canonical_ite (canonical_tellStandby (canonical_modOut (canonical_writeFire hu)))
    (canonical_writeFire hu)) h

theorem canonical_placeStep {i : Nat} {r : OutRec} (h : Canonical s) : Canonical (placeStep i n r s) := by
  unfold placeStep
  dsimp only
  split
  · exact h
  · exact canonical_ite (canonical_takeReports h) (canonical_takeFault h)
  · exact canonical_setRun (canonical_setRun h : Canonical (leaveFlight _ s))

theorem canonical_issueStep {i : Nat} (h : Canonical s) : Canonical (issueStep i s) := by
  have hp : Canonical (stepPlaced i s) := canonical_placeStep (canonical_writeFire (canonical_noted h))
  rw [issueStep_eq]
  split
  · exact canonical_followStep hp
  · exact hp

theorem canonical_issueAtCursor (h : Canonical s) : Canonical (issueAtCursor s) :=
  canonical_setRun (canonical_issueStep h)

theorem canonical_establish (h : Canonical s) : Canonical (establish s) :=
  canonical_ite (canonical_tellMonitor (canonical_raise (canonical_setRun h))) (canonical_raise (canonical_setRun h))

theorem canonical_advanceTimes (h : Canonical s) : Canonical (advanceTimes n s) := by
  induction n generalizing s with
  | zero => exact h
  | succ n ih =>
    have hr := canonical_takeReports h
    exact canonical_ite (canonical_ite (canonical_establish hr) hr)
      (canonical_ite (canonical_ite hr (canonical_setRun hr)) (canonical_ite hr (ih (canonical_issueAtCursor hr))))

theorem canonical_advance (h : Canonical s) : Canonical (advance s) := canonical_ite (canonical_advanceTimes h) h

theorem canonical_takeRunner {k : RunnerNotice} (h : Canonical s) : Canonical (takeRunner k s) :=
  canonical_ite (canonical_takeReport h) (canonical_advance (canonical_takeReport h))

theorem canonical_delayExpired (h : Canonical s) : Canonical (delayExpired s) :=
  canonical_advance (canonical_issueAtCursor (canonical_setRun h))

theorem canonical_deadlineExpired (h : Canonical s) : Canonical (deadlineExpired s) :=
  canonical_ite (canonical_report (canonical_setRun h)) (canonical_tellMonitor (canonical_report (canonical_setRun h)))

theorem canonical_loadRun {test : Bool} {served : List Nat} (h : Canonical s) : Canonical (loadRun test n served s) := by
  have ht : Canonical (loadSet test n served s) := canonical_setRun_issueless h
  have hb := canonical_takeReports (canonical_beginFire (canonical_raise ht (ev := .runStart) (subject := n)
    (detail := served.getD 0 0 * 256 + served.getD 1 0)))
  exact canonical_advance (canonical_ite hb (canonical_setWatches hb))

theorem canonical_releaseFans {fs : List Nat} (h : Canonical s) : Canonical (releaseFans fs s) :=
  canonical_foldl (fun _ hu => canonical_modOut hu) h

theorem canonical_switchRun {served : List Nat} (h : Canonical s) : Canonical (switchRun n served s) := by
  have hu : ∀ {u : State}, Canonical u → Canonical (if s.run.test then u else
      setWatches (watchesFor served (scenarioOf s.tables n)) u) := fun hu => canonical_ite hu (canonical_setWatches hu)
  exact canonical_advance (hu (canonical_raise (canonical_setRun_issueless (canonical_takeReports
    (canonical_changeLayers (canonical_releaseFans h))))))

theorem canonical_endRun (h : Canonical s) : Canonical (endRun s) := by
  have hs : Canonical (stopping s) := canonical_setRun h
  have hc := canonical_takeReports (canonical_endFire (canonical_releaseFans (fs := fans (stopping s)) hs))
  have hr := canonical_raise hc (ev := .runEnd) (subject := s.run.scenario)
    (detail := (takeReports (endCleared s)).run.faults.length +
      if (takeReports (endCleared s)).run.overflow then 256 else 0)
  exact canonical_setRun (g := fun r =>
    { r with state := .idle, scenario := 0, served := [], cursor := 0, test := false, late := false })
    (canonical_ite (p := s.run.test = true) hr (canonical_setWatches (g := fun _ => []) hr))

theorem canonical_instructRun {served : List Nat} (h : Canonical s) :
    Canonical (if fireMode s then switchRun n served s else loadRun false n served s) :=
  canonical_ite (canonical_switchRun h) (canonical_loadRun h)

theorem canonical_instructTest (h : Canonical s) : Canonical (instructTest n s) := canonical_ite h (canonical_loadRun h)

theorem canonical_instructEnd (h : Canonical s) : Canonical (instructEnd s) := canonical_ite (canonical_endRun h) h

theorem canonical_engageReserve (h : Canonical s) : Canonical (engageReserve o z s) :=
  canonical_raise (canonical_modOut (canonical_writeFire h))

/-! ### The Extract Monitor -/

theorem canonical_modWatch {g : Watch → Watch} (h : Canonical s) : Canonical (modWatch z g s) := canonical_setWatches h

theorem canonical_deficitEnds (h : Canonical s) : Canonical (deficitEnds z s) := canonical_raise (canonical_modWatch h)

theorem canonical_engageTimes (h : Canonical s) : Canonical (engageTimes n z s) := by
  induction n generalizing s with
  | zero => exact h
  | succ n ih =>
    unfold engageTimes
    split
    · exact h
    · have ht := canonical_tellMonitor (k := .testZone z)
        (canonical_modWatch (z := z) (g := fun w => { w with cursor := w.cursor + 1 }) h)
      have hu := canonical_engageReserve (o := reserveAt s ‹Watch›) (z := z) ht
      exact canonical_ite (canonical_raise (canonical_modWatch h)) (canonical_ite (ih ht)
        (canonical_ite (canonical_modWatch hu) (canonical_ite (canonical_deficitEnds hu) (ih hu))))

theorem canonical_engagementStep (h : Canonical s) : Canonical (engagementStep z s) := canonical_engageTimes h

theorem canonical_deficitBegins {w : Watch} (h : Canonical s) : Canonical (deficitBegins w s) :=
  have ht := canonical_raise (canonical_modWatch h)
  canonical_ite (canonical_engagementStep ht) ht

theorem canonical_deficitTest (h : Canonical s) : Canonical (deficitTest z s) := by
  unfold deficitTest
  split
  · exact h
  · exact canonical_ite h (canonical_ite (canonical_ite (canonical_deficitEnds h) h)
      (canonical_ite (canonical_deficitBegins h) h))

theorem canonical_reserveSettled (h : Canonical s) : Canonical (reserveSettled o s) := by
  unfold reserveSettled
  split
  · exact h
  · have ht := canonical_modWatch (z := (‹Watch›).zone) (g := fun w => { w with pending := none }) h
    exact canonical_ite (canonical_ite (canonical_deficitEnds ht) (canonical_engagementStep ht)) ht

theorem canonical_takeMonitor {k : MonitorNotice} (h : Canonical s) : Canonical (takeMonitor k s) := by
  cases k with
  | startWatching => exact canonical_foldl (fun _ hu => canonical_deficitTest hu) (canonical_setWatches h)
  | extractChanged f => exact canonical_foldl (fun _ hu => canonical_deficitTest hu) h
  | testZone z => exact canonical_deficitTest h
  | reserveOutcome f => exact canonical_reserveSettled h

theorem canonical_drainTimes (h : Canonical s) : Canonical (drainTimes n s) := by
  induction n generalizing s with
  | zero => exact h
  | succ n ih =>
    unfold drainTimes
    split
    · exact ih (canonical_takeRunner h.of_eq)
    · split
      · exact ih (canonical_takeMonitor h.of_eq)
      · exact h

theorem canonical_drain (h : Canonical s) : Canonical (drain s) := canonical_drainTimes h

/-! ### The Plant Link Controller -/

theorem canonical_sendFail {a b k : Nat} {r : FailReason} (h : Canonical s) : Canonical (sendFail a b k r s) :=
  canonical_setPanel h

theorem canonical_grantCommand (h : Canonical s) : Canonical (grantCommand s) := by
  unfold grantCommand
  split
  · exact h
  · exact canonical_setPlant (canonical_setPlant
      (canonical_onOutput (canonical_setAct (canonical_modOut (canonical_setQueue h)))))

/-- R138: the choice of a module to poll moves the rings and the count alone. -/
theorem modules_choosePoll {p : Plant} (h : choosePoll s = some (m, p)) : p.modules = s.plant.modules := by
  unfold choosePoll at h
  dsimp only at h
  split at h
  · split at h
    · cases h
      rfl
    · split at h <;> cases h <;> rfl
  · cases h
    rfl
  · cases h

theorem canonical_grantPoll (h : Canonical s) : Canonical (grantPoll s) := by
  unfold grantPoll
  split
  · exact h
  · rename_i hp
    exact canonical_setPlant (canonical_setPlant (canonical_setPlant (canonical_setPlant h (modules_choosePoll hp))))

theorem canonical_grantForward (h : Canonical s) : Canonical (grantForward s) := by
  unfold grantForward
  split
  · exact h
  · exact canonical_setPlant (canonical_setPlant h)

theorem canonical_arbitrate (h : Canonical s) : Canonical (arbitrate s) :=
  canonical_ite h (canonical_ite (canonical_grantPoll (canonical_setPlant h))
    (canonical_ite (canonical_grantCommand (canonical_setPlant h))
      (canonical_ite (canonical_grantPoll (canonical_setPlant h)) (canonical_grantForward h))))

theorem canonical_moduleMissing (h : Canonical s) : Canonical (moduleMissing m s) :=
  canonical_outputsLost (canonical_raise (canonical_setModule h))

theorem canonical_pollMissed (h : Canonical s) : Canonical (pollMissed m s) :=
  canonical_ite h (canonical_ite (canonical_moduleMissing (canonical_setModule h)) (canonical_setModule h))

theorem canonical_clearMisses (h : Canonical s) : Canonical (clearMisses m s) := canonical_setModule h

theorem canonical_modulePresent (h : Canonical s) : Canonical (modulePresent m s) :=
  canonical_ite (canonical_raise (canonical_setModule h)) (canonical_setModule h)

theorem canonical_stateDecoded {bs : List Byte} (h : Canonical s) : Canonical (stateDecoded m bs s) :=
  have ht := canonical_takeReadings (bs := bs) (m := m) (canonical_clearMisses (m := m) (canonical_modulePresent (m := m) h))
  canonical_ite (canonical_outputsReturned ht) ht

theorem canonical_endExchange (h : Canonical s) : Canonical (endExchange s) := canonical_setPlant h

theorem canonical_commandAnswered {a : Ack} (h : Canonical s) : Canonical (commandAnswered o m a s) :=
  canonical_exchangeEnded (canonical_clearMisses (canonical_endExchange h))

theorem canonical_pollAnswered {bs : List Byte} (h : Canonical s) : Canonical (pollAnswered m bs s) :=
  canonical_stateDecoded (canonical_endExchange h)

theorem canonical_forwardAnswered {x : Exchange} {a b d k : Nat} {p : List Byte} (h : Canonical s) :
    Canonical (forwardAnswered x a b d k p s) :=
  have he := canonical_endExchange h
  canonical_setPanel (canonical_ite (p := k = kState) (canonical_stateDecoded he)
    (canonical_ite (p := k = kCmdAck) (canonical_clearMisses he) he))

theorem canonical_windowExpired {x : Exchange} (h : Canonical s) : Canonical (windowExpired x s) := by
  unfold windowExpired
  split
  · exact canonical_ite (canonical_setPlant h) (canonical_moduleMissing (canonical_endExchange h))
  · exact canonical_pollMissed (canonical_endExchange h)
  · exact canonical_sendFail (canonical_endExchange h)

theorem canonical_offerForward {e : ForwardEntry} (h : Canonical s) : Canonical (offerForward e s) :=
  canonical_ite (canonical_sendFail h) (canonical_ite (canonical_sendFail h) (canonical_setPlant h))

theorem canonical_refuseEntries {es : List ForwardEntry} {r : FailReason} (h : Canonical s) :
    Canonical (refuseEntries es r s) :=
  canonical_foldl (fun _ hu => canonical_sendFail hu) h

theorem canonical_answerAsk {r : Result} (h : Canonical s) : Canonical (answerAsk r s) := by
  unfold answerAsk
  split
  · exact canonical_setPanel (canonical_setPlant h)
  · exact h

theorem canonical_grantHold (h : Canonical s) : Canonical (grantHold s) :=
  canonical_answerAsk (canonical_raise (canonical_refuseEntries (canonical_setPlant h)))

theorem canonical_freeHold (h : Canonical s) : Canonical (freeHold s) :=
  canonical_reassert (canonical_raise (canonical_refuseEntries (canonical_setPlant h)))

theorem canonical_holdProgress (h : Canonical s) : Canonical (holdProgress s) := by
  unfold holdProgress
  split
  · exact h
  split
  · exact canonical_grantHold h
  · exact canonical_freeHold h
  · exact h

theorem canonical_releaseHold {r : ReleaseReason} (h : Canonical s) : Canonical (releaseHold r s) := h.of_eq

theorem canonical_refuseHold (h : Canonical s) : Canonical (refuseHold s) := canonical_answerAsk (canonical_setPlant h)

theorem canonical_revokeHold (h : Canonical s) : Canonical (revokeHold s) := by
  unfold revokeHold
  split
  · exact canonical_refuseHold h
  · exact canonical_holdProgress (canonical_releaseHold h)
  · exact h

theorem canonical_endStep (h : Canonical s) : Canonical (endStep s) :=
  canonical_drain (canonical_arbitrate (canonical_drain (canonical_holdProgress (canonical_drain h))))

end Sys2Proof.Machine
end

section
/-! The stores' canonical form (O10) through Zone Intake, the Selector, the Firefighter Control Unit, the links' frames, the
starts, the tables and the requests, and O10 itself. -/

namespace Sys2Proof.Machine

-- Elaborated one after another: the check bounds Lean's threads.
set_option Elab.async false

variable {s t : State} {o m z n : Nat}

/-! ### Zone Intake -/

theorem canonical_unmapped {a b : Nat} (h : Canonical s) : Canonical (unmapped a b s) := canonical_raise h

theorem canonical_tellConfirmed (h : Canonical s) : Canonical (tellConfirmed z s) :=
  canonical_ite (canonical_revokeHold h).of_eq (canonical_revokeHold h)

theorem canonical_tellReset (h : Canonical s) : Canonical (tellReset z s) := canonical_ite h.of_eq h

theorem canonical_confirmZone {a : AlarmSource} {set : List AlarmSource} (h : Canonical s) :
    Canonical (confirmZone z a set s) := canonical_tellConfirmed (canonical_raise (canonical_setZone h))

theorem canonical_alarmArrival {a : AlarmSource} (h : Canonical s) : Canonical (alarmArrival z a s) := by
  unfold alarmArrival
  dsimp only
  split
  case h_5 => exact canonical_ite (canonical_confirmZone h) (canonical_raise (canonical_setZone h))
  case h_6 => exact canonical_ite (canonical_confirmZone h) (canonical_setZone h)
  all_goals exact canonical_setZone h

theorem canonical_zoneEventTaken {a k : Nat} (h : Canonical s) : Canonical (zoneEventTaken z a k s) := by
  unfold zoneEventTaken
  split
  · exact canonical_ite (canonical_alarmArrival h) (canonical_unmapped h)
  · exact canonical_unmapped h

theorem canonical_zoneResetTaken (h : Canonical s) : Canonical (zoneResetTaken z s) :=
  canonical_ite (canonical_unmapped h) (canonical_ite (canonical_raise (canonical_setZone h))
    (canonical_ite (canonical_tellReset (canonical_raise (canonical_setZone h))) (canonical_raise (canonical_setZone h))))

theorem canonical_zoneRequest {want : ZoneState} {ev : Ev} {d : Nat} (h : Canonical s) :
    Canonical (zoneRequest z want ev d s).1 := by
  unfold zoneRequest
  dsimp only
  split
  · exact h
  split
  · exact h
  · exact canonical_raise (canonical_setZone h)

theorem canonical_isolateZone (h : Canonical s) : Canonical (isolateZone z s).1 := by
  have hi : ∀ {k : Nat} {r : ZoneRec}, Canonical (raise .zoneIsolated z k (setZone z r s)) :=
    canonical_raise (canonical_setZone h)
  unfold isolateZone
  dsimp only
  split
  case h_1 | h_2 => exact hi
  all_goals exact h

theorem canonical_deisolateZone (h : Canonical s) : Canonical (deisolateZone z s) :=
  have ht : ∀ {r : ZoneRec} {k : Nat}, Canonical (raise .zoneDeisolated z k (setZone z r s)) :=
    canonical_raise (canonical_setZone h)
  canonical_ite h (canonical_ite (canonical_tellConfirmed (canonical_raise ht)) (canonical_ite (canonical_raise ht) ht))

theorem canonical_reevaluateZone (h : Canonical s) : Canonical (reevaluateZone z s) :=
  canonical_ite (canonical_ite h (canonical_raise (canonical_setZone h)))
    (canonical_ite (canonical_raise (canonical_setZone h)) h)

theorem canonical_reevaluateZones (h : Canonical s) : Canonical (reevaluateZones s) :=
  canonical_foldl (fun _ hu => canonical_tellConfirmed hu) (canonical_foldl (fun _ hu => canonical_reevaluateZone hu) h)

/-! ### The Scenario Selector -/

theorem canonical_takeIntakes {as : List IntakeArrival} (h : Canonical s) :
    Canonical (as.foldl (fun t a => takeIntake a t) s) := by
  refine canonical_foldl (fun a hu => ?_) h
  cases a with
  | event z a k => exact canonical_zoneEventTaken hu
  | reset z => exact canonical_zoneResetTaken hu

variable {p : Placing}

theorem canonical_takeGroup (h : Canonical p.state) : Canonical (takeGroup p).state := by
  unfold takeGroup
  split
  · exact h
  · exact canonical_takeIntakes h

theorem canonical_askActive {zs : List Nat} (h : Canonical p.state) : Canonical (askActive n zs p).1.state := by
  induction zs generalizing p with
  | nil => exact h
  | cons z zs ih =>
    have hz := canonical_zoneRequest (z := z) (want := .active) (ev := .zoneActive) (d := n) (canonical_takeGroup h)
    unfold askActive
    dsimp only
    split <;> rename_i u he <;> rw [he] at hz
    · exact ih (p := { takeGroup p with made := (takeGroup p).made ++ [z], state := u }) hz
    · exact hz

theorem canonical_askSecondary {zs : List Nat} (h : Canonical p.state) : Canonical (askSecondary zs p).state := by
  induction zs generalizing p with
  | nil => exact h
  | cons z zs ih =>
    exact ih (p := { takeGroup p with
      state := (zoneRequest z .secondary .zoneSecondary 0 (takeGroup p).state).1 })
      (canonical_zoneRequest (canonical_takeGroup h))

theorem canonical_instruct {zs : List Nat} (h : Canonical s) : Canonical (instruct zs n s) :=
  canonical_ite (canonical_ite h (canonical_instructRun h))
    (canonical_ite (canonical_instructEnd h) (canonical_ite h (canonical_instructRun h)))

theorem canonical_decisionTimes (h : Canonical p.state) : Canonical (decisionTimes n p).state := by
  induction n generalizing p with
  | zero => exact h
  | succ n ih =>
    have ha := canonical_askActive (n := (newServed p.state p.made (waitingSet p.state p.made)).2)
      (zs := (newServed p.state p.made (waitingSet p.state p.made)).1.filter
        (fun z => (zoneRec p.state z).state != .active)) h
    unfold decisionTimes
    dsimp only
    split <;> rename_i q he <;> rw [he] at ha
    · exact ih (canonical_takeGroup ha)
    · exact canonical_instruct (canonical_takeIntakes (canonical_askSecondary ha))

theorem canonical_placementDecision {during : List (List IntakeArrival)} (h : Canonical s) :
    Canonical (placementDecision during s) :=
  canonical_decisionTimes (p := { during := during, made := [], state := s }) h

/-! ### The Firefighter Control Unit -/

/-- A change of the unit that leaves its switch positions. -/
theorem canonical_setFf {g : FfUnit → FfUnit} (h : Canonical s)
    (hz : (g s.ff).zoneSwitches = s.ff.zoneSwitches := by rfl)
    (ho : (g s.ff).outputSwitches = s.ff.outputSwitches := by rfl) : Canonical (setFf g s) :=
  h.of_eq (hzs := hz) (hos := ho)

theorem canonical_handFf (h : Canonical s) : Canonical (handFf s) := canonical_changeLayers h

theorem canonical_superviseFrame (h : Canonical s) : Canonical (superviseFrame s) := by
  unfold superviseFrame
  dsimp only
  split
  · exact canonical_raise (canonical_setFf h)
  · exact canonical_setFf h
  · exact canonical_raise (canonical_setFf h)

theorem canonical_takeAllStop {b : Bool} (h : Canonical s) : Canonical (takeAllStop b s) :=
  canonical_ite h (canonical_ite (canonical_raise (canonical_setFf h)) (canonical_raise (canonical_setFf h)))

theorem canonical_takeZoneSwitch {p : ZoneSwitch} (h : Canonical s) : Canonical (takeZoneSwitch z p s) :=
  canonical_ite h { h with zoneSwitches := sparseWf_sput h.zoneSwitches }

theorem canonical_takeOutputSwitch {p : OutputSwitch} (h : Canonical s) : Canonical (takeOutputSwitch o p s) :=
  canonical_ite h { h with outputSwitches := sparseWf_sput h.outputSwitches }

theorem canonical_takeSwitch {a b k : Nat} (h : Canonical s) : Canonical (takeSwitch a b k s) := by
  have hu : Canonical (unmapped b k s) := canonical_unmapped h
  refine canonical_ite ?_ (canonical_ite ?_ hu)
  · split
    · exact canonical_ite (canonical_takeZoneSwitch h) hu
    · exact hu
  · split
    · exact canonical_ite (canonical_takeOutputSwitch h) hu
    · exact hu

theorem canonical_takeSwitches {bs : List Byte} (h : Canonical s) : Canonical (takeSwitches bs s) := by
  induction bs, s using takeSwitches.induct with
  | case1 s a b c rest ih => exact ih (canonical_takeSwitch h)
  | case2 s bs hn =>
    unfold takeSwitches
    split
    · exact absurd rfl (hn _ _ _ _)
    · exact h

theorem canonical_takeFfContent {bs : List Byte} (h : Canonical s) : Canonical (takeFfContent bs s) := by
  unfold takeFfContent
  split
  · exact canonical_unmapped h
  · exact canonical_ite (canonical_unmapped h) (canonical_handFf (canonical_takeSwitches (canonical_takeAllStop h)))

theorem canonical_ffStateTaken {a : Nat} {bs : List Byte} (h : Canonical s) : Canonical (ffStateTaken a bs s) :=
  canonical_takeFfContent (canonical_ite (canonical_superviseFrame h) h)

theorem canonical_panelLost (h : Canonical s) : Canonical (panelLost s) := canonical_raise (canonical_setFf h)

theorem canonical_ffEntryWritten (h : Canonical s) : Canonical (ffEntryWritten o s) := by
  refine canonical_handFf { h with outputSwitches := ?_ }
  change sparseWf OutputSwitch.auto (ite _ _ _) = true
  split
  · exact h.outputSwitches
  · exact sparseWf_sput h.outputSwitches

/-! ### The panel link -/

theorem canonical_unmappedOpen {a b : Option Nat} (h : Canonical s) : Canonical (unmappedOpen a b s) :=
  have hf : Canonical (useFree (useFree s)) := h.of_eq
  canonical_unmapped hf

theorem canonical_supplyStateTaken {b : Nat} (h : Canonical s) : Canonical (supplyStateTaken b n s) := by
  unfold supplyStateTaken
  split
  · exact canonical_ite (canonical_ite h (canonical_sourceChange h)) (canonical_unmappedOpen h)
  · exact canonical_unmappedOpen h

theorem canonical_readBld {bs : List Byte} {acc : List (Nat × Option Cmd)} (h : Canonical s) :
    Canonical (readBld bs acc s).2 := by
  induction bs, acc, s using readBld.induct with
  | case1 s acc a b rest hf ih =>
    rw [readBld, if_pos hf]
    exact ih h
  | case2 s acc a b rest hf ih =>
    rw [readBld, if_neg hf]
    exact ih (canonical_unmapped h)
  | case3 s acc bs hn =>
    unfold readBld
    split
    · exact absurd rfl (hn _ _ _)
    · exact h

theorem canonical_bldCmdTaken {a : Nat} {bs : List Byte} (h : Canonical s) : Canonical (bldCmdTaken a bs s) :=
  canonical_ite (canonical_unmapped h) (canonical_changeLayers (canonical_readBld h))

theorem canonical_takeArrival {f : Frame} (h : Canonical s) : Canonical (takeArrival f s) :=
  canonical_ite (canonical_ite (canonical_endStep (canonical_zoneEventTaken h)) (canonical_unmappedOpen h))
    (canonical_ite (canonical_ite (canonical_zoneResetTaken h) (canonical_unmappedOpen h))
      (canonical_ite (canonical_ite (canonical_endStep (canonical_supplyStateTaken h)) (canonical_unmappedOpen h))
        (canonical_ite (canonical_endStep (canonical_ffStateTaken h)) (canonical_endStep (canonical_bldCmdTaken h)))))

theorem canonical_mapFrame {f : Frame} (h : Canonical s) : Canonical (mapFrame f s) := by
  unfold mapFrame
  split
  · exact canonical_sendFail h
  · split
    · exact canonical_sendFail h
    · exact canonical_offerForward h

theorem canonical_candidateTaken {f : Frame} (h : Canonical s) : Canonical (candidateTaken f s) :=
  canonical_ite h (canonical_ite (canonical_unmapped h) (canonical_endStep (canonical_mapFrame h)))

theorem canonical_sortFrame {f : Frame} (h : Canonical s) : Canonical (sortFrame f s) :=
  canonical_ite h (canonical_ite (canonical_candidateTaken h) (canonical_ite (canonical_setPanel h)
    (canonical_ite (canonical_takeArrival h) (canonical_unmapped h))))

theorem canonical_panelBytes {bs : List Byte} (h : Canonical s) : Canonical (panelBytes bs s) := by
  unfold panelBytes
  split
  · exact h
  · exact canonical_setPanel h
  · exact canonical_sortFrame h

theorem canonical_headSent (h : Canonical s) : Canonical (headSent s) := by
  unfold headSent
  split
  · exact h
  · unfold afterSent
    split
    · exact canonical_setPanel h
    · exact canonical_ite (canonical_setPanel (canonical_setPanel h)) (canonical_setPanel h)
    · exact h.of_eq

/-! ### The plant link's receiver -/

theorem canonical_countError (h : Canonical s) : Canonical (countError s) := canonical_setPlant h

theorem canonical_countStray (h : Canonical s) : Canonical (countStray s) := canonical_setPlant h

theorem canonical_takeReply {x : Exchange} {k : Nat} {bs : List Byte} (h : Canonical s) :
    Canonical (takeReply x k bs s) := by
  refine canonical_ite (canonical_countError h) ?_
  split
  · split
    · exact canonical_endStep (canonical_commandAnswered h)
    · exact canonical_countError h
  · exact canonical_endStep (canonical_pollAnswered h)
  · exact canonical_endStep (canonical_forwardAnswered h)

theorem canonical_plantBytes {bs : List Byte} (h : Canonical s) : Canonical (plantBytes bs s) := by
  unfold plantBytes
  split
  · exact h
  · exact canonical_countError h
  · split
    · exact canonical_countStray h
    · exact canonical_ite (canonical_takeReply h) (canonical_countStray h)

theorem canonical_sendComplete (h : Canonical s) : Canonical (sendComplete s) := by
  unfold sendComplete
  split
  · exact canonical_ite (canonical_setPlant h) h
  · exact h

theorem canonical_ackTaken (h : Canonical s) : Canonical (ackTaken n s) := by
  unfold ackTaken
  split
  · split
    · exact canonical_endStep (canonical_commandAnswered h)
    · exact canonical_countError h
  · exact canonical_countStray h

theorem canonical_stateTaken {bs : List Byte} (h : Canonical s) : Canonical (stateTaken bs s) := by
  unfold stateTaken
  split
  · exact canonical_ite (canonical_endStep (canonical_pollAnswered h)) (canonical_countError h)
  · exact canonical_countStray h

theorem canonical_forwardTaken {k : Nat} {bs : List Byte} (h : Canonical s) : Canonical (forwardTaken k bs s) := by
  unfold forwardTaken
  split
  · split
    · exact canonical_ite (canonical_countError h) (canonical_endStep (canonical_forwardAnswered h))
    · exact canonical_countStray h
  · exact canonical_countStray h

theorem canonical_forwardWaited (h : Canonical s) : Canonical (forwardWaited n s) := by
  unfold forwardWaited
  split
  · exact canonical_endStep (canonical_sendFail (canonical_setPlant h))
  · exact h

/-! ### Starts -/

theorem canonical_putNv {tb : Tables} (h : Canonical s) (ht : TablesCanonical tb) : Canonical { s with nv := tb } :=
  { h with nv := ht }

/-- R174: a write that is cut off leaves the stored tables canonical. -/
theorem TablesCanonical.of_cutOff {nv : Tables} (h : TablesCanonical s.nv) (hc : cutOff s nv) : TablesCanonical nv := by
  rcases hc with rfl | ⟨w, -, rfl⟩
  · exact h
  · exact tablesCanonical_putEntry h

theorem canonical_interruptWrite (h : Canonical s) : Canonical (interruptWrite s) := by
  obtain ⟨nv, k, hc, he⟩ := interruptWrite_cutOff s
  rw [he]
  exact (canonical_putNv h (h.nv.of_cutOff hc)).of_eq

theorem canonical_startBlocks (h : Canonical s) : Canonical (startBlocks s) :=
  ⟨h.tables, h.nv, rfl, rfl, rfl, rfl, rfl, rfl, rfl⟩

theorem tablesCanonical_read {bad : List EntryRef} {tb : Tables} (h : TablesCanonical tb) :
    TablesCanonical (bad.foldl (fun t r => blankEntry r t) tb) :=
  List.foldlRecOn (motive := TablesCanonical) bad _ h fun _ ht _ _ => tablesCanonical_putEntry ht

theorem canonical_readTables {bad : List EntryRef} (h : Canonical s) : Canonical (readTables bad s) :=
  have ht : TablesCanonical (readTables bad s).tables := tablesCanonical_read h.nv
  ⟨ht, h.nv, h.zones, sparseWf_coldOuts (readTables bad s) ht.outputs, h.boards, h.modules, rfl, rfl, h.lastIssued⟩

theorem canonical_changeMode {md : Mode} (h : Canonical s) : Canonical (changeMode md s) :=
  have ht : Canonical (inMode md s) := h.of_eq
  canonical_raise ht

theorem canonical_buildSlowRing (h : Canonical s) : Canonical (buildSlowRing s) := canonical_setPlant h

theorem canonical_startPacer (h : Canonical s) : Canonical (startPacer s) := canonical_setPlant h

theorem canonical_setFailing {x : Option EntryRef} (h : Canonical s) : Canonical { s with failing := x } := h.of_eq

theorem canonical_leaveStart {bad : List EntryRef} (h : Canonical s) : Canonical (leaveStart bad s) := by
  have hr : Canonical (readTables bad s) := canonical_readTables h
  unfold leaveStart
  dsimp only
  split
  · exact canonical_startPacer (canonical_buildSlowRing (canonical_changeMode (canonical_raise (canonical_setFailing hr))))
  · exact canonical_placementDecision
      (canonical_startPacer (canonical_buildSlowRing (canonical_changeMode (canonical_setFailing hr))))

theorem canonical_coldBlocks (h : Canonical s) : Canonical (coldBlocks s) := (canonical_startBlocks h).of_eq

theorem canonical_coldStart {bad : List EntryRef} (h : Canonical s) : Canonical (coldStart bad s) :=
  canonical_leaveStart (canonical_coldBlocks (canonical_interruptWrite h))

theorem canonical_warmStart {cause : RestartCause} {bad : List EntryRef} (h : Canonical s) :
    Canonical (warmStart cause bad s) :=
  canonical_leaveStart (canonical_raise (canonical_startBlocks (canonical_interruptWrite h)))

/-! ### A tick -/

theorem canonical_tickTimers (h : Canonical s) : Canonical (tickTimers s) :=
  { h with outs := outsWf_tickTimers h.outs }

/-! ### Table writes and the entry to NORMAL -/

theorem canonical_bringIntoForce {w : NvWrite} (h : Canonical s) : Canonical (bringIntoForce w s) := by
  have hn : Canonical { s with nv := putEntry w.ref w.fields s.nv } := canonical_putNv h (tablesCanonical_putEntry h.nv)
  have hf := canonical_putTables hn (tablesCanonical_putEntry (r := w.ref) (f := w.fields) hn.tables)
  unfold bringIntoForce
  dsimp only
  split
  · exact canonical_ffEntryWritten (canonical_outputWritten hn)
  · exact canonical_boardWritten hf
  · exact hf

theorem canonical_enterNormalMode {during : List (List IntakeArrival)} (h : Canonical s) :
    Canonical (enterNormalMode during s) :=
  have ht := canonical_changeMode (md := .normal)
    (canonical_buildSlowRing (canonical_reevaluateZones (canonical_setFailing (x := none) h)))
  canonical_placementDecision (canonical_drain (canonical_ite (canonical_revokeHold ht) ht))

/-! ### Requests -/

variable {q : Requester}

theorem canonical_leaveService (h : Canonical s) : Canonical (leaveService s) := canonical_setPanel h

theorem canonical_answerFrame {k : Nat} {bs : List Byte} {a : AfterSent} (h : Canonical s) :
    Canonical (answerFrame q k bs a s) := canonical_leaveService (canonical_setPanel h)

theorem canonical_answer {x : Result} (h : Canonical s) : Canonical (answer q x s) :=
  canonical_leaveService (canonical_setPanel h : Canonical (sendReply q x s))

theorem canonical_answerWrite {x : Option TableId} {y : Result} (h : Canonical s) : Canonical (answerWrite x q y s) :=
  canonical_leaveService (canonical_setPanel h)

theorem canonical_answerStatus {a b k : Nat} {d : Bool} {bs : List Byte} (h : Canonical s) :
    Canonical (answerStatus q a b k d bs s) :=
  canonical_ite (canonical_answer h) (canonical_ite (canonical_answer h)
    (canonical_answerFrame (canonical_ite (canonical_setPanel h) h)))

theorem canonical_serveIsolateOn (h : Canonical s) : Canonical (serveIsolateOn q z s) := by
  unfold serveIsolateOn
  split
  · exact canonical_answer h
  · exact canonical_answer (canonical_isolateZone h)

theorem canonical_serveIsolateOff (h : Canonical s) : Canonical (serveIsolateOff q z s) := by
  unfold serveIsolateOff
  split
  · exact canonical_answer h
  · exact canonical_endStep (canonical_answer (canonical_deisolateZone h))

theorem canonical_serveOutputReset (h : Canonical s) : Canonical (serveOutputReset q o s) :=
  canonical_ite (canonical_answer h) (canonical_ite (canonical_answer h) (canonical_ite
    (canonical_endStep (canonical_answer (canonical_drain (canonical_onOutput (canonical_newAttempt h)))))
    (canonical_answer h)))

theorem canonical_serveFaultAck {k l : Nat} (h : Canonical s) : Canonical (serveFaultAck q k l s) := by
  unfold serveFaultAck
  split
  · exact canonical_answer h
  · exact canonical_ite (canonical_answer (canonical_setCapture h)) (canonical_answer h)

theorem canonical_serveTrailRead {k l : Nat} (h : Canonical s) : Canonical (serveTrailRead q k l s) :=
  canonical_ite (canonical_answer h) (canonical_answerFrame h)

theorem canonical_serveEnterService (h : Canonical s) : Canonical (serveEnterService q s) := by
  unfold serveEnterService
  split
  · exact canonical_answer h
  · exact canonical_answer (canonical_ite (canonical_changeMode h) h)

theorem canonical_serveEnterNormal (h : Canonical s) : Canonical (serveEnterNormal q s) := by
  refine canonical_ite (canonical_answer h) ?_
  split
  · exact canonical_answer h
  · exact h.of_eq

theorem canonical_serveValidation (h : Canonical s) : Canonical (serveValidation q s) := by
  have ht : Canonical { s with validating := none, entryIntake := [] } := h.of_eq
  unfold serveValidation
  dsimp only
  split
  · exact canonical_answer (canonical_raise (canonical_setFailing ht))
  · exact canonical_endStep (canonical_answer (canonical_drain (canonical_enterNormalMode ht)))

theorem canonical_serveRestart (h : Canonical s) : Canonical (serveRestart q s) := by
  unfold serveRestart
  split
  · exact canonical_answer h
  · exact canonical_answerFrame h

theorem canonical_setWindow {w : TableWindow} (h : Canonical s) : Canonical { s with window := w } := h.of_eq

theorem canonical_serveTsel {x i : Nat} (h : Canonical s) : Canonical (serveTsel q x i s) := by
  refine canonical_ite (canonical_answer h) ?_
  split
  · exact canonical_answer h
  · exact canonical_ite (canonical_answer (canonical_setWindow h)) (canonical_answer h)

theorem canonical_stepCursor (h : Canonical s) : Canonical (stepCursor s) := canonical_setWindow h

theorem canonical_serveTrd (h : Canonical s) : Canonical (serveTrd q s) := by
  refine canonical_ite (canonical_answer h) ?_
  split
  · exact canonical_answer h
  · exact canonical_ite (canonical_answer h) (canonical_stepCursor (canonical_answerFrame h))

theorem canonical_serveTwr {i : Nat} {bs : List Byte} (h : Canonical s) : Canonical (serveTwr q i bs s) := by
  unfold serveTwr
  split
  · exact canonical_answerWrite h
  · exact h.of_eq

/-- R174: the stored entry is as it was or as written, whether it comes into force or not. -/
theorem canonical_serveNvWrite {w : NvWrite} {b : Bool} (h : Canonical s) : Canonical (serveNvWrite w b s) := by
  have ht : Canonical { s with nvWrite := none } := h.of_eq
  refine canonical_ite
    (canonical_endStep (canonical_answerWrite (canonical_stepCursor (canonical_drain (canonical_bringIntoForce ht))))) ?_
  have hnv : TablesCanonical (if Config.failedWriteStored s.free then putEntry w.ref w.fields s.nv else s.nv) := by
    split
    · exact tablesCanonical_putEntry h.nv
    · exact h.nv
  have hu : Canonical (useFree { s with
      nvWrite := none, nv := if Config.failedWriteStored s.free then putEntry w.ref w.fields s.nv else s.nv }) :=
    (canonical_putNv ht hnv).of_eq
  exact canonical_answerWrite hu

theorem canonical_serveTestRun (h : Canonical s) : Canonical (serveTestRun q n s) := by
  unfold serveTestRun
  iterate 5 refine canonical_ite (canonical_answer h) ?_
  exact canonical_endStep (canonical_answer (canonical_drain (canonical_instructTest h)))

theorem canonical_serveTestEnd (h : Canonical s) : Canonical (serveTestEnd q s) :=
  canonical_ite (canonical_answer h) (canonical_ite
    (canonical_endStep (canonical_answer (canonical_drain (canonical_instructEnd h)))) (canonical_answer h))

theorem canonical_serveHoldAsk (h : Canonical s) : Canonical (serveHoldAsk q s) := by
  unfold serveHoldAsk
  split
  · exact canonical_answer h
  · exact canonical_endStep (canonical_setPanel (canonical_setPlant h))

theorem canonical_serveHoldEnd (h : Canonical s) : Canonical (serveHoldEnd q s) := by
  have he : Canonical (holdEnded s) := by
    unfold holdEnded
    split
    · exact canonical_refuseHold h
    · exact canonical_drain (canonical_holdProgress (canonical_releaseHold h))
    · exact h
  exact canonical_ite (canonical_answer h) (canonical_endStep (canonical_answer he))

theorem canonical_refuseRequest {f : Frame} {x : Result} (h : Canonical s) : Canonical (refuseRequest f x s) :=
  canonical_ite (canonical_answerWrite h) (canonical_answer h)

theorem canonical_takeHead (h : Canonical s) : Canonical (takeHead s) := by
  unfold takeHead
  split
  · exact h
  · have hp : ∀ {rest}, Canonical (setPanel (fun p => { p with inbound := rest }) s) := canonical_setPanel h
    refine canonical_ite (canonical_ite (canonical_refuseRequest hp) ?_) h
    split
    · exact canonical_refuseRequest hp
    · exact canonical_setPanel hp

theorem canonical_noticeTaken {during : List (List IntakeArrival)} (h : Canonical s) :
    Canonical (noticeTaken during s) := by
  unfold noticeTaken
  split
  · exact h
  · exact canonical_ite (canonical_endStep (canonical_placementDecision h.of_eq)) h.of_eq

/-! ### Every command -/

theorem canonical_acting {work : State → State} (h : Canonical s) (he : acting work s = .next t)
    (hw : Canonical (work s)) : Canonical t := by
  cases he
  exact canonical_ite hw h

theorem canonical_serving {row : Instr} {work : State → State} (h : Canonical s) (he : serving row work s = .next t)
    (hw : ∀ {u}, Canonical u → Canonical (work u)) : Canonical t :=
  canonical_acting h he (canonical_ite (hw (canonical_setPanel h)) h)

/-- R155: a STATUS_ASK only answers. -/
theorem canonical_statusAsk {row : Instr} {a i p : Nat} {d : Bool} {bs : State → List Byte} (h : Canonical s)
    (he : serving row (fun u => answerStatus q a i p d (bs u) u) s = .next t) : Canonical t :=
  canonical_serving h he canonical_answerStatus

theorem exec_canonical {c : Instr} (h : Canonical s) (he : exec c s = .next t) : Canonical t := by
  cases c with
  | powerUp bad =>
    cases he
    have hp : Canonical { s with powered := true } := h.of_eq
    exact canonical_ite (canonical_coldBlocks (canonical_interruptWrite h)).of_eq (canonical_coldStart hp)
  | resetLineAssert => cases he; exact (canonical_interruptWrite h).of_eq
  | powerFailure => cases he; exact (canonical_interruptWrite h).of_eq
  | resetLineRelease bad =>
    cases he
    have hr : Canonical { s with resetHeld := false } := h.of_eq
    exact canonical_ite h (canonical_ite (canonical_warmStart hr) hr)
  | warmStart bad => exact canonical_acting h he (canonical_ite (canonical_warmStart h) h)
  | uptimeTick =>
    cases he
    have ht : Canonical (tickUptime s) := h.of_eq
    exact canonical_ite h (canonical_ite ht (canonical_tickTimers ht))
  | panelFrameReceived bs => exact canonical_acting h he (canonical_panelBytes h)
  | requestArrival f => exact canonical_acting h he (canonical_setPanel h)
  | requestTaken => exact canonical_acting h he (canonical_takeHead h)
  | outboundFrameSent => exact canonical_acting h he (canonical_headSent h)
  | zoneEvent z a k => cases he; exact canonical_ite (canonical_endStep (canonical_zoneEventTaken h)) h
  | zoneReset z => exact canonical_acting h he (canonical_zoneResetTaken h)
  | supplyState b x => cases he; exact canonical_ite (canonical_endStep (canonical_supplyStateTaken h)) h
  | ffState x p => cases he; exact canonical_ite (canonical_endStep (canonical_ffStateTaken h)) h
  | bldCmd x p => cases he; exact canonical_ite (canonical_endStep (canonical_bldCmdTaken h)) h
  | zoneIsolateOn q z => exact canonical_serving h he canonical_serveIsolateOn
  | zoneIsolateOff q z => exact canonical_serving h he canonical_serveIsolateOff
  | outputReset q o => exact canonical_serving h he canonical_serveOutputReset
  | faultAck q n l => exact canonical_serving h he canonical_serveFaultAck
  | trailRead q n k => exact canonical_serving h he canonical_serveTrailRead
  | statusAskSummary q i p => exact canonical_statusAsk (bs := summaryReport) h he
  | statusAskZone q i p => exact canonical_statusAsk (bs := fun u => zoneReport u i) h he
  | statusAskOutput q i p => exact canonical_statusAsk (bs := fun u => outputReport u i) h he
  | statusAskRun q i p => exact canonical_statusAsk (bs := runReport) h he
  | statusAskBoard q i p => exact canonical_statusAsk (bs := fun u => boardReport u i) h he
  | statusAskFirstFault q i p => exact canonical_statusAsk (bs := firstFaultReport) h he
  | enterService q => exact canonical_serving h he canonical_serveEnterService
  | enterNormal q => exact canonical_serving h he canonical_serveEnterNormal
  | modeRestart q => exact canonical_serving h he canonical_serveRestart
  | tsel q x i => exact canonical_serving h he canonical_serveTsel
  | trd q => exact canonical_serving h he canonical_serveTrd
  | twr q i bs => exact canonical_serving h he canonical_serveTwr
  | testRun q n => exact canonical_serving h he canonical_serveTestRun
  | testEnd q => exact canonical_serving h he canonical_serveTestEnd
  | holdAsk q => exact canonical_serving h he canonical_serveHoldAsk
  | holdEnd q => exact canonical_serving h he canonical_serveHoldEnd
  | validationComplete =>
    cases he
    refine canonical_ite ?_ h
    dsimp only
    split
    · exact canonical_serveValidation h
    · exact h
  | nvWriteComplete b =>
    cases he
    refine canonical_ite ?_ h
    dsimp only
    split
    · exact canonical_serveNvWrite h
    · exact h
  | forwardCandidate f => exact canonical_acting h he (canonical_candidateTaken h)
  | placementDecision during =>
    have hg : Canonical (giveForEntry during s) := canonical_ite h.of_eq h
    cases he
    exact canonical_ite (canonical_noticeTaken hg) h
  | delayTimerExpiry => exact canonical_acting h he (canonical_ite (canonical_endStep (canonical_delayExpired h)) h)
  | establishDeadlineExpiry =>
    exact canonical_acting h he (canonical_ite (canonical_endStep (canonical_deadlineExpired h)) h)
  | plantSendComplete => exact canonical_acting h he (canonical_sendComplete h)
  | plantFrameReceived bs => exact canonical_acting h he (canonical_plantBytes h)
  | cmdAck ch r => exact canonical_acting h he (canonical_ackTaken h)
  | stateReply bs => exact canonical_acting h he (canonical_stateTaken h)
  | forwardReply k p => exact canonical_acting h he (canonical_forwardTaken h)
  | proofTimerExpiry o => exact canonical_acting h he (canonical_ite (canonical_endStep (canonical_proofExpired h)) h)
  | replyWindowExpiry =>
    cases he
    refine canonical_ite ?_ h
    dsimp only
    split
    · exact canonical_ite (canonical_endStep (canonical_windowExpired h)) h
    · exact h
  | pacerTimerExpiry => exact canonical_acting h he (canonical_ite (canonical_endStep (canonical_setPlant h)) h)
  | forwardWaitExpiry n => exact canonical_acting h he (canonical_forwardWaited h)
  | holdTimerExpiry => exact canonical_acting h he (canonical_ite (canonical_endStep (canonical_releaseHold h)) h)
  | startHeld f => exact canonical_acting h he (canonical_warnHeld h)
  | supervisionTimerExpiry => exact canonical_acting h he (canonical_ite (canonical_panelLost h) h)

/-- Settles O10: a step idles or runs a command, and every command keeps the form. -/
theorem storesStayCanonical : Obligations.StoresStayCanonical := by
  intro s t h he
  rcases step_cases he with rfl | ⟨c, rest, -, he⟩
  · exact h
  · have hp : Canonical { s with pending := rest } := h.of_eq
    exact exec_canonical hp he

end Sys2Proof.Machine
end

section
/-! The end of a non-volatile write (O24): the answer, and what a board and an output entry rebuild. -/

namespace Sys2Proof.Machine

variable {s t : State} {o f b : Nat} {old new : OutputEntry}

/-! ### The end of the write (R174) -/

/-- R174: the REPLY of a write, by the table written. -/
theorem answerWrite_eq (tab : TableId) (q : Requester) (r : Result) (s : State) :
    answerWrite (some tab) q r s = { s with panel :=
      { offerFrame { dest := q.station, src := if tab = .link then q.own else s.tables.link.own, kind := 0x40,
                     tag := q.tag, payload := byte1 (resultCode r) } .nothing s.panel with inService := none } } := by
  simp only [answerWrite, Option.some_inj]
  rfl

theorem exec_nvWriteComplete {w : NvWrite} (ha : awake s = true) (hw : s.nvWrite = some w) (equal : Bool) :
    exec (.nvWriteComplete equal) s = .next (serveNvWrite w equal s) := by
  refine (acting_awake (work := fun s => match s.nvWrite with
    | some w => serveNvWrite w equal s
    | none => s) ha).trans ?_
  rw [hw]

/-- R174: after an equal read-back the entry comes into force, the cursor rises, and the answer is OK. -/
theorem serveNvWrite_true (w : NvWrite) (s : State) :
    serveNvWrite w true s =
      endStep (answerWrite (some w.ref.table) w.req .ok (stepCursor (drain (bringIntoForce w { s with nvWrite := none })))) :=
  rfl

/-- R174: after a differing read-back the entry in force stands, and what is stored is as it was or as written. -/
theorem serveNvWrite_false {w : NvWrite} (hw : s.nvWrite = some w) :
    ∃ (nv : Tables) (n : Nat), cutOff s nv ∧ serveNvWrite w false s =
      answerWrite (some w.ref.table) w.req .storeFailed { s with nvWrite := none, nv := nv, free := n } := by
  refine ⟨if Config.failedWriteStored s.free then putEntry w.ref w.fields s.nv else s.nv, s.free + 1, ?_, rfl⟩
  split
  · exact .inr ⟨w, hw, rfl⟩
  · exact .inl rfl

/-- R81, R99, R125, R174: the blocks that an entry's coming into force concerns, by its table. -/
theorem bringIntoForce_eq (w : NvWrite) (s : State) :
    bringIntoForce w s =
      match w.ref.table with
      | .output => ffEntryWritten w.ref.index
          (outputWritten w.ref.index (outputOfFields w.fields) { s with nv := putEntry w.ref w.fields s.nv })
      | .board => boardWritten w.ref.index
          { s with nv := putEntry w.ref w.fields s.nv, tables := putEntry w.ref w.fields s.tables }
      | _ => { s with nv := putEntry w.ref w.fields s.nv, tables := putEntry w.ref w.fields s.tables } := rfl

/-! ### Warnings (R98) -/

/-- R98: a waiting fan is warned of once, when it has waited longer than hold_warn. -/
theorem warnHeld_eq (s : State) (f : Nat) :
    warnHeld f s =
      if isFan (outEntry s f) = true ∧ (outRec s f).act = .waitStart ∧ (outRec s f).heldWarned = false ∧
          (boardEntry s (outEntry s f).board).holdWarn <
            (s.uptime + 4294967296 - (outRec s f).joinTime.getD s.uptime) % 4294967296 then
        raise .startHeld f ((outEntry s f).board * 256 + ((waitList s (outEntry s f).board).idxOf f + 1))
          (modOut f (fun r => { r with heldWarned := true }) s)
      else s := by
  refine if_congr ((warnDue_iff s f).trans ?_) rfl rfl
  rw [and_assoc, and_assoc]
  rfl

/-- R99: a board's list is examined, and those who still wait are warned of. -/
theorem examineAndWarn_eq (b : Nat) (s : State) :
    examineAndWarn b s = (waitList (examine b s) b).foldl (fun u f =>
      let e := outEntry u f
      let r := outRec u f
      let waited := (u.uptime + 4294967296 - r.joinTime.getD u.uptime) % 4294967296
      if isFan e = true ∧ r.act = .waitStart ∧ r.heldWarned = false ∧ (boardEntry u e.board).holdWarn < waited then
        raise .startHeld f (e.board * 256 + ((waitList u e.board).idxOf f + 1))
          (modOut f (fun r => { r with heldWarned := true }) u)
      else u) (examine b s) :=
  congrArg (fun g => (waitList (examine b s) b).foldl g (examine b s)) (funext fun u => funext fun f => warnHeld_eq u f)

/-! ### The record of an output whose entry is written (R81, R99) -/

theorem samePlace_iff : samePlace old new = true ↔
    new.kind = old.kind ∧ new.module = old.module ∧ new.channel = old.channel := by
  simp only [samePlace, Bool.and_eq_true, beq_iff_eq, and_assoc]
  exact and_congr eq_comm (and_congr eq_comm eq_comm)

theorem loadsChanged_iff : loadsChanged old new = true ↔
    new.board ≠ old.board ∨ new.startLoad ≠ old.startLoad ∨ new.runLow ≠ old.runLow ∨
      new.runHigh ≠ old.runHigh ∨ new.stepLoad ≠ old.stepLoad := by
  simp only [loadsChanged, Bool.or_eq_true, bne_iff_ne, or_assoc]
  exact or_congr ne_comm (or_congr ne_comm (or_congr ne_comm (or_congr ne_comm ne_comm)))

/-- R95, step 3, R99: the states from which a fan is returned to WAIT_START. -/
theorem returnable_or_waiting_iff {r : OutRec} : (returnable r || r.act == .waitStart) = true ↔
    ((r.resolved = some .low ∨ r.resolved = some .high) ∧
      (r.act = .queued ∨ r.act = .sent ∨ r.act = .starting ∨ r.act = .settled)) ∨ r.act = .waitStart := by
  simp only [returnable, Bool.or_eq_true, Bool.and_eq_true, beq_iff_eq, or_assoc]

/-- R81: the rebuilt record, field by field (log entry 35). -/
theorem rebuiltRecord_eq (e : OutputEntry) (r : OutRec) :
    rebuiltRecord e r =
      { ff := keepFitting e r.ff, fire := keepFitting e r.fire, safe := keepFitting e r.safe, bld := keepFitting e r.bld,
        resolved := r.resolved, lastSent := r.lastSent, engaged := r.engaged, act := .unknown, fault := none,
        view := if isFan e = true then .fan .stopped false false else .none, valid := false, unusable := false,
        origin := none, timer := none, clean := false, retried := false, busy := 0, superseded := 0, slot := none,
        joinTime := none, heldWarned := false, waitOpen := false } := by
  unfold rebuiltRecord coldOutFor
  split <;> rfl

/-- R81: the entry in force after the write of an output entry. -/
theorem outEntry_written (hs : Canonical s) : outEntry (putOutput o new s) o = new := by
  rw [putOutput_eq]
  split <;> exact sget_sput_same hs.tables.outputs

theorem putOutput_same (h : samePlace (outEntry s o) new = true) :
    putOutput o new s = { s with tables := { s.tables with outputs := sput blankOutput o new s.tables.outputs } } := by
  rw [putOutput_eq, if_pos h]

/-- R81, R99: what becomes of the record, by the entry before and after. -/
theorem rebuildRecord_putOutput (hs : Canonical s) :
    rebuildRecord o (outEntry s o) (putOutput o new s) =
      if isConfigured new = false then modOut o (fun _ => coldOut) (dequeue o (putOutput o new s))
      else if ¬ samePlace (outEntry s o) new = true then
        recompute o (modOut o (rebuiltRecord new) (dequeue o (putOutput o new s)))
      else if isFan new = true ∧ loadsChanged (outEntry s o) new = true then
        if (returnable (outRec s o) || (outRec s o).act == .waitStart) = true then
          returnToWait o (modOut o (fun r => { r with slot := none }) (putOutput o new s))
        else modOut o (fun r => { r with slot := none }) (putOutput o new s)
      else putOutput o new s := by
  unfold rebuildRecord
  rw [outEntry_written hs]
  simp only [Bool.not_eq_true', Bool.and_eq_true, Bool.not_eq_true]
  by_cases hp : samePlace (outEntry s o) new = true
  · have hr : outRec (putOutput o new s) o = outRec s o := outRec_congr (by rw [putOutput_same hp]) o
    simp only [hr]
  · simp only [Bool.not_eq_true] at hp
    simp only [hp, if_true]

/-- R99: a fan is returned to WAIT_START with its join time, or with the uptime. -/
theorem returnToWait_eq (h : t.uptime = s.uptime) :
    returnToWait f t = setAct f .waitStart (dequeue f (modOut f (fun r =>
      { r with
        retried := false, busy := 0, origin := none, timer := none, clean := false
        joinTime := some (r.joinTime.getD s.uptime), waitOpen := true }) t)) := by
  rw [← h]
  rfl

/-- R99: the old board and the new one are examined, a board that stays once. -/
theorem foldl_boards (x y : Nat) (g : Nat → State → State) (u : State) :
    [x, y].dedup.foldl (fun t b => g b t) u = g y (if y = x then u else g x u) := by
  by_cases h : y = x
  · subst h
    rw [List.dedup_cons_of_mem List.mem_cons_self, List.dedup_cons_of_notMem List.not_mem_nil, if_pos rfl]
    rfl
  · rw [List.dedup_cons_of_notMem (by simpa using Ne.symm h), List.dedup_cons_of_notMem List.not_mem_nil, if_neg h]
    rfl

theorem outputWritten_eq (o : Nat) (new : OutputEntry) (s : State) :
    outputWritten o new s =
      (let t := onOutput o (fun u => rebuildRecord o (outEntry s o) (putOutput o new u)) s
      let u := if samePlace (outEntry s o) new = true then recompute o t else t
      examineAndWarn new.board
        (if new.board = (outEntry s o).board then u else examineAndWarn (outEntry s o).board u)) :=
  foldl_boards (outEntry s o).board new.board examineAndWarn _

/-! ### The firefighter unit (R125) -/

/-- R117, R125: a switch position fits the kind. -/
theorem fitsSwitch_eq (e : OutputEntry) (p : OutputSwitch) :
    fitsSwitch e p = match p with
      | .auto => isConfigured e
      | .opn | .cls => isDamper e
      | .off | .low | .on => isFan e := by
  cases p <;> rfl

theorem ffEntryWritten_eq (o : Nat) (s : State) :
    ffEntryWritten o s = handFf { s with ff := { s.ff with
      outputSwitches :=
        if fitsSwitch (outEntry s o) (sget .auto s.ff.outputSwitches o) = true then s.ff.outputSwitches
        else sput .auto o .auto s.ff.outputSwitches
      marks := if isFan (outEntry s o) = true then s.ff.marks else s.ff.marks.filter (fun x => x != o) } } := rfl

/-- Settles O24, part by part. -/
theorem writeEndsInForceOrFailed : Obligations.WriteEndsInForceOrFailed := by
  refine ⟨fun w s ha hw => ⟨?_, ?_⟩, fun b s => ?_, fun o new s hs => ?_, fun o s => ?_⟩
  · rw [exec_nvWriteComplete ha hw, serveNvWrite_true, bringIntoForce_eq, answerWrite_eq]
    rfl
  · obtain ⟨nv, n, hc, he⟩ := serveNvWrite_false hw
    refine ⟨nv, n, hc, ?_⟩
    rw [exec_nvWriteComplete ha hw, he, answerWrite_eq]
  · exact examineAndWarn_eq b (restageBoard b s)
  · intro old same loads dropped kept stored r keep unslotted rebuilt t u
    have hkept : (if samePlace old new = true then s else setAct o .unknown s) = kept := if_congr samePlace_iff rfl rfl
    have hput : putOutput o new s = stored :=
      congrArg (fun k : State => { k with tables := { k.tables with outputs := sput blankOutput o new k.tables.outputs } })
        hkept
    have huptime : stored.uptime = s.uptime := hput ▸ (work_putOutput o new s).uptime
    have hrebuilt : rebuildRecord o old (putOutput o new s) = rebuilt := by
      refine (rebuildRecord_putOutput hs).trans ?_
      rw [hput]
      refine if_congr Iff.rfl rfl (if_congr (not_congr samePlace_iff) ?_
        (if_congr (and_congr_right fun _ => loadsChanged_iff) (if_congr returnable_or_waiting_iff ?_ rfl) rfl))
      · exact congrArg (fun g => recompute o (modOut o g (dropped stored))) (funext (rebuiltRecord_eq new))
      · exact returnToWait_eq huptime
    have ht : onOutput o (fun u => rebuildRecord o old (putOutput o new u)) s = t := onOutput_congr hrebuilt
    have hu : (if samePlace old new = true then recompute o t else t) = u := if_congr samePlace_iff rfl rfl
    rw [outputWritten_eq]
    dsimp only
    rw [ht, hu, examineAndWarn_eq, examineAndWarn_eq]
  · rw [ffEntryWritten_eq, fitsSwitch_eq]
    rfl

end Sys2Proof.Machine
end

section
/-! What a validation checks (R175), item by item, and the first entry that it names (O21). -/

namespace Sys2Proof.Machine

variable {s : State} {tb : Tables} {e : OutputEntry} {c n o z : Nat}

/-! ### Kinds and lists -/

theorem isDamper_iff : isDamper e = true ↔ e.kind = 1 := beq_iff_eq

theorem isFanTwo_iff : isFanTwo e = true ↔ e.kind = 3 := beq_iff_eq

theorem isFan_iff : isFan e = true ↔ e.kind = 2 ∨ e.kind = 3 := by
  rw [isFan, Bool.or_eq_true]
  exact or_congr beq_iff_eq beq_iff_eq

/-- 4.1: the command of this code fits the kind. -/
def CodeFits (e : OutputEntry) (c : Nat) : Prop :=
  (e.kind = 1 ∧ (c = 1 ∨ c = 2)) ∨ ((e.kind = 2 ∨ e.kind = 3) ∧ (c = 3 ∨ c = 5)) ∨ (e.kind = 3 ∧ c = 4)

theorem targetFits_iff : targetFits e c = true ↔ CodeFits e c := by
  simp only [targetFits, Bool.or_eq_true, Bool.and_eq_true, isDamper_iff, isFan_iff, isFanTwo_iff, beq_iff_eq, or_assoc]
  rfl

theorem safeFits_iff : safeFits e = true ↔ e.safeDefault = 0 ∨ CodeFits e e.safeDefault := by
  simp only [safeFits, Bool.or_eq_true, Bool.and_eq_true, isDamper_iff, isFan_iff, isFanTwo_iff, beq_iff_eq, or_assoc]
  rfl

theorem all_listed {p : Nat → Bool} {xs : List Nat} : (listed xs).all p = true ↔ ∀ x ∈ xs, x ≠ 0 → p x = true := by
  simp [listed, List.all_eq_true, or_iff_not_imp_left]

theorem mem_listed {x : Nat} {xs : List Nat} : x ∈ listed xs ↔ x ∈ xs ∧ x ≠ 0 := by
  simp [listed]

theorem all_upTo {p : Nat → Bool} {low high : Nat} :
    (upTo low high).all p = true ↔ ∀ k < high + 1 - low, p (low + k) = true := by
  simp [upTo, List.all_eq_true]

/-- The numbers from 1, counted from 0. -/
theorem all_upTo_one {p : Nat → Bool} {high : Nat} : (upTo 1 high).all p = true ↔ ∀ k < high, p (k + 1) = true := by
  simp only [all_upTo, Nat.add_sub_cancel, Nat.add_comm 1]

/-! ### The items (R175) -/

theorem linkOk_iff {l : LinkRecord} : linkOk l = true ↔ fieldsInRange .link (linkFields l) = true ∧
    ∀ a ∈ [l.firePanel, l.ffPanel, l.building, l.commissioning], a ≠ l.own := by
  simp only [linkOk, Bool.and_eq_true, List.all_eq_true, bne_iff_ne]

theorem standbyOk_iff : standbyOk tb n e = true ↔
    (e.standby ≠ 0 → e.standby ≠ n ∧ ((outputOf tb e.standby).kind = 2 ∨ (outputOf tb e.standby).kind = 3) ∧
      (outputOf tb e.standby).standby = 0 ∧
      (∀ x ∈ configuredOutputs tb, ((outputOf tb x).kind = 2 ∨ (outputOf tb x).kind = 3) → x ≠ n →
        (outputOf tb x).standby ≠ e.standby) ∧
      ∀ k < 32, e.standby ∉ (zoneOf tb (k + 1)).extract ∧ e.standby ∉ (zoneOf tb (k + 1)).reserve) := by
  have hfans : (tableFans tb).all (fun x => x == n || (outputOf tb x).standby != e.standby) = true ↔
      ∀ x ∈ configuredOutputs tb, ((outputOf tb x).kind = 2 ∨ (outputOf tb x).kind = 3) → x ≠ n →
        (outputOf tb x).standby ≠ e.standby := by
    simp only [tableFans, List.all_eq_true, List.mem_filter, and_imp, isFan_iff, Bool.or_eq_true, beq_iff_eq, bne_iff_ne,
      or_iff_not_imp_left, ne_eq]
  simp only [standbyOk, Bool.or_eq_true, Bool.and_eq_true, hfans, all_upTo_one, Bool.not_eq_true', isFan_iff, beq_iff_eq,
    bne_iff_ne, and_assoc, or_iff_not_imp_left, List.contains_eq_mem, decide_eq_false_iff_not, ne_eq]

theorem loadsOk_iff {b : BoardEntry} : loadsOk e b = true ↔
    (e.runHigh ≤ e.startLoad ∧ e.startLoad ≤ b.capStandby ∧ e.startLoad ≤ b.capMains) ∧
      (e.kind = 3 → e.runLow ≤ e.runHigh ∧ e.runHigh ≤ e.runLow + e.stepLoad ∧
        e.runLow + e.stepLoad ≤ b.capStandby ∧ e.runLow + e.stepLoad ≤ b.capMains) := by
  have htwo : isFanTwo e = false ↔ ¬ e.kind = 3 := by rw [← isFanTwo_iff, Bool.not_eq_true]
  simp only [loadsOk, Bool.or_eq_true, Bool.and_eq_true, Bool.not_eq_true', decide_eq_true_eq, htwo, and_assoc,
    or_iff_not_imp_left, not_not]

/-- R175, 2: no other configured output has the channel. -/
theorem channelAlone_iff :
    (configuredOutputs tb).all (fun x =>
      x == n || (outputOf tb x).module != e.module || (outputOf tb x).channel != e.channel) = true ↔
      ∀ x ∈ configuredOutputs tb, x ≠ n → ¬ ((outputOf tb x).module = e.module ∧ (outputOf tb x).channel = e.channel) := by
  simp only [List.all_eq_true, Bool.or_eq_true, beq_iff_eq, bne_iff_ne, or_assoc, ne_eq, ← not_and_or]
  simp only [or_iff_not_imp_left]

/-- R175, 2: what a damper and a fan need besides. -/
theorem kindOk_iff {b : BoardEntry} :
    (if isDamper e then e.tDown == 0 && e.board == 0 && e.standby == 0 && (listed e.path).isEmpty
      else e.role != 2 && decide (5 ≤ e.tDown) && decide (1 ≤ e.board) && loadsOk e b) = true ↔
      (e.kind = 1 → e.tDown = 0 ∧ e.board = 0 ∧ e.standby = 0 ∧ ∀ d ∈ e.path, d = 0) ∧
      (e.kind ≠ 1 → e.role ≠ 2 ∧ 5 ≤ e.tDown ∧ 1 ≤ e.board ∧
        e.runHigh ≤ e.startLoad ∧ e.startLoad ≤ b.capStandby ∧ e.startLoad ≤ b.capMains) ∧
      (e.kind = 3 → e.runLow ≤ e.runHigh ∧ e.runHigh ≤ e.runLow + e.stepLoad ∧
        e.runLow + e.stepLoad ≤ b.capStandby ∧ e.runLow + e.stepLoad ≤ b.capMains) := by
  have hpath : (listed e.path).isEmpty = true ↔ ∀ d ∈ e.path, d = 0 := by
    simp [listed, List.isEmpty_iff, List.filter_eq_nil_iff]
  by_cases hd : e.kind = 1
  · have hthree : e.kind ≠ 3 := by omega
    rw [if_pos (isDamper_iff.2 hd)]
    simp only [Bool.and_eq_true, beq_iff_eq, hpath, hd, and_assoc]
    simp
  · rw [if_neg (mt isDamper_iff.1 hd)]
    simp only [Bool.and_eq_true, bne_iff_ne, decide_eq_true_eq, loadsOk_iff, and_assoc]
    simp [hd, and_assoc]

theorem outputOk_iff :
    outputOk tb n = true ↔ fieldsInRange .output (outputFields (outputOf tb n)) = true ∧
      ((outputOf tb n).safeDefault = 0 ∨ CodeFits (outputOf tb n) (outputOf tb n).safeDefault) ∧
      (∀ x ∈ configuredOutputs tb, x ≠ n →
        ¬ ((outputOf tb x).module = (outputOf tb n).module ∧ (outputOf tb x).channel = (outputOf tb n).channel)) ∧
      (∀ d ∈ (outputOf tb n).path, d ≠ 0 → (outputOf tb d).kind = 1) ∧
      standbyOk tb n (outputOf tb n) = true ∧
      (if isDamper (outputOf tb n) then
          (outputOf tb n).tDown == 0 && (outputOf tb n).board == 0 && (outputOf tb n).standby == 0 &&
            (listed (outputOf tb n).path).isEmpty
        else (outputOf tb n).role != 2 && decide (5 ≤ (outputOf tb n).tDown) && decide (1 ≤ (outputOf tb n).board) &&
          loadsOk (outputOf tb n) (boardOf tb (outputOf tb n).board)) = true := by
  simp only [outputOk, Bool.and_eq_true, safeFits_iff, channelAlone_iff, all_listed, isDamper_iff, and_assoc]

theorem fanBeyond_iff :
    fanBeyond tb n = true ↔ 32 < ((tableFans tb).filter (fun x => decide (x ≤ n))).length ∨
      16 < (((tableFans tb).filter (fun x => decide (x ≤ n))).filter
        (fun x => (outputOf tb x).board == (outputOf tb n).board)).length := by
  rw [fanBeyond, Bool.or_eq_true, decide_eq_true_iff, decide_eq_true_iff]
  exact or_comm

theorem zoneOk_iff :
    zoneOk tb n = true ↔ fieldsInRange .zone (zoneFields (zoneOf tb n)) = true ∧
      (∀ f ∈ (zoneOf tb n).extract ++ (zoneOf tb n).reserve, f ≠ 0 →
        (outputOf tb f).kind = 2 ∨ (outputOf tb f).kind = 3) ∧
      (((zoneOf tb n).extract ++ (zoneOf tb n).reserve).filter (fun f => f != 0)).Nodup ∧
      (∀ x ∈ enabledZones tb, x ≠ n → ∀ f ∈ (zoneOf tb n).extract, f ≠ 0 → f ∉ (zoneOf tb x).extract) ∧
      (∀ x ∈ enabledZones tb, ∀ f ∈ (zoneOf tb n).reserve, f ≠ 0 → f ∉ (zoneOf tb x).extract) ∧
      (∀ f ∈ (zoneOf tb n).reserve, f ≠ 0 → (outputOf tb f).standby = 0) ∧ scenarioOk tb (zoneOf tb n).scenario = true := by
  have happ : listed (zoneOf tb n).extract ++ listed (zoneOf tb n).reserve =
      listed ((zoneOf tb n).extract ++ (zoneOf tb n).reserve) := (List.filter_append _ _).symm
  simp only [zoneOk, happ, Bool.and_eq_true, all_listed, isFan_iff, decide_eq_true_eq, List.all_eq_true (l := enabledZones tb),
    Bool.or_eq_true, beq_iff_eq, Bool.not_eq_true', List.contains_eq_mem, decide_eq_false_iff_not, and_assoc,
    or_iff_not_imp_left, ne_eq]
  rfl

theorem stepOk_iff :
    stepOk tb n = true ↔ CodeFits (outputOf tb (stepOf tb n).output) (stepOf tb n).target ∧
      ((stepOf tb n).gate = 2 → 1 ≤ (stepOf tb n).delay ∧ (stepOf tb n).delay ≤ 255) := by
  simp only [stepOk, Bool.and_eq_true, Bool.or_eq_true, targetFits_iff, bne_iff_ne, decide_eq_true_eq, ne_eq,
    or_iff_not_imp_left, not_not]

theorem scenarioEntryOk_iff :
    scenarioEntryOk tb n = true ↔ fieldsInRange .scenario (scenarioFields (scenarioOf tb n)) = true ∧
      (scenarioOf tb n).firstStep + (scenarioOf tb n).stepCount ≤ 1024 := by
  rw [scenarioEntryOk, Bool.and_eq_true, decide_eq_true_iff]

theorem scenarioOk_iff :
    scenarioOk tb n = true ↔ scenarioEntryOk tb n = true ∧
      ∀ k < (scenarioOf tb n).stepCount, stepOk tb ((scenarioOf tb n).firstStep + k) = true := by
  simp [scenarioOk, scenarioSteps, List.all_eq_true]

theorem scenarioNamed_iff :
    scenarioNamed tb n = true ↔ (∃ x ∈ enabledZones tb, (zoneOf tb x).scenario = n) ∨
      ∃ p ∈ tb.joints, p.2.zoneA ≠ 0 ∧ p.2.scenario = n := by
  simp only [scenarioNamed, Bool.or_eq_true, List.any_eq_true, Bool.and_eq_true, beq_iff_eq, bne_iff_ne]

theorem samePair_iff {a b : JointEntry} :
    samePair a b = true ↔ (a.zoneA = b.zoneA ∧ a.zoneB = b.zoneB) ∨ (a.zoneA = b.zoneB ∧ a.zoneB = b.zoneA) := by
  simp only [samePair, Bool.or_eq_true, Bool.and_eq_true, beq_iff_eq]

theorem tablesInService_iff : inService tb z = true ↔ 1 ≤ z ∧ z ≤ 32 ∧ (zoneOf tb z).enabled = 1 := by
  simp only [inService, Bool.and_eq_true, decide_eq_true_eq, beq_iff_eq, and_assoc]

theorem jointOk_iff :
    jointOk tb n = true ↔ (jointOf tb n).zoneA ≠ (jointOf tb n).zoneB ∧
      (1 ≤ (jointOf tb n).zoneA ∧ (jointOf tb n).zoneA ≤ 32 ∧ (zoneOf tb (jointOf tb n).zoneA).enabled = 1) ∧
      (1 ≤ (jointOf tb n).zoneB ∧ (jointOf tb n).zoneB ≤ 32 ∧ (zoneOf tb (jointOf tb n).zoneB).enabled = 1) ∧
      (∀ k < n - 1, (jointOf tb (k + 1)).zoneA ≠ 0 →
        ¬ (((jointOf tb (k + 1)).zoneA = (jointOf tb n).zoneA ∧ (jointOf tb (k + 1)).zoneB = (jointOf tb n).zoneB) ∨
          ((jointOf tb (k + 1)).zoneA = (jointOf tb n).zoneB ∧ (jointOf tb (k + 1)).zoneB = (jointOf tb n).zoneA))) ∧
      1 ≤ (jointOf tb n).scenario ∧ (jointOf tb n).scenario ≤ 48 ∧ scenarioOk tb (jointOf tb n).scenario = true := by
  have hpairs : (upTo 1 (n - 1)).all (fun k => (jointOf tb k).zoneA == 0 || !samePair (jointOf tb k) (jointOf tb n)) = true ↔
      ∀ k < n - 1, (jointOf tb (k + 1)).zoneA ≠ 0 →
        ¬ (((jointOf tb (k + 1)).zoneA = (jointOf tb n).zoneA ∧ (jointOf tb (k + 1)).zoneB = (jointOf tb n).zoneB) ∨
          ((jointOf tb (k + 1)).zoneA = (jointOf tb n).zoneB ∧ (jointOf tb (k + 1)).zoneB = (jointOf tb n).zoneA)) := by
    rw [all_upTo_one]
    refine forall₂_congr fun k _ => ?_
    rw [Bool.or_eq_true, beq_iff_eq, Bool.not_eq_true', ← Bool.not_eq_true, samePair_iff, or_iff_not_imp_left]
  simp only [jointOk, Bool.and_eq_true, bne_iff_ne, tablesInService_iff, hpairs, decide_eq_true_eq, and_assoc]

/-- R156: a window that covers no station has none at these places. -/
theorem covers_iff {w : WindowEntry} : covers w n = true ↔ w.panelBase ≤ n ∧ n < w.panelBase + w.count := by
  simp only [covers, Bool.and_eq_true, bne_iff_ne, decide_eq_true_eq]
  omega

theorem windowOk_iff (hc : (windowOf tb n).count ≠ 0) :
    windowOk tb n = true ↔ (windowOf tb n).panelBase + (windowOf tb n).count ≤ 255 ∧
      (windowOf tb n).plantBase + (windowOf tb n).count ≤ 101 ∧
      ∀ k < n - 1, ∀ j < (windowOf tb n).count,
        ¬ ((windowOf tb (k + 1)).panelBase ≤ (windowOf tb n).panelBase + j ∧
          (windowOf tb n).panelBase + j < (windowOf tb (k + 1)).panelBase + (windowOf tb (k + 1)).count) := by
  have hlast : (windowOf tb n).panelBase + (windowOf tb n).count - 1 + 1 - (windowOf tb n).panelBase =
      (windowOf tb n).count := by omega
  have hcovers : (upTo 1 (n - 1)).all (fun k => (upTo (windowOf tb n).panelBase
        ((windowOf tb n).panelBase + (windowOf tb n).count - 1)).all (fun d => !covers (windowOf tb k) d)) = true ↔
      ∀ k < n - 1, ∀ j < (windowOf tb n).count,
        ¬ ((windowOf tb (k + 1)).panelBase ≤ (windowOf tb n).panelBase + j ∧
          (windowOf tb n).panelBase + j < (windowOf tb (k + 1)).panelBase + (windowOf tb (k + 1)).count) := by
    rw [all_upTo_one]
    refine forall₂_congr fun k _ => ?_
    rw [all_upTo, hlast]
    refine forall₂_congr fun j _ => ?_
    rw [Bool.not_eq_true', ← Bool.not_eq_true, covers_iff]
  simp only [windowOk, Bool.and_eq_true, decide_eq_true_eq, hcovers, and_assoc]

/-! ### The entry that a validation names -/

theorem findSome_cons_id {α : Type} (x : Option α) (xs : List (Option α)) :
    (x :: xs).findSome? id = (x <|> xs.findSome? id) := by
  cases x <;> rfl

/-- R175: the first of the items, in the order of the tables. -/
theorem validate_eq (tb : Tables) (bad : List EntryRef) :
    validate tb bad = List.findSome? id
      [firstFailing bad .link (fun _ => linkOk tb.link),
        firstFailing bad .output (fun o => !isConfigured (outputOf tb o) || outputOk tb o),
        ((tableFans tb).find? (fanBeyond tb)).map (fun o => ⟨.output, o⟩),
        firstFailing bad .board (fun b => fieldsInRange .board (boardFields (boardOf tb b))),
        firstFailing bad .zone (fun z => (zoneOf tb z).enabled != 1 || zoneOk tb z),
        firstFailing bad .scenario (fun n => scenarioEntryOk tb n && (!scenarioNamed tb n || scenarioOk tb n)),
        firstFailing bad .step (fun _ => true),
        firstFailing bad .joint (fun n => (jointOf tb n).zoneA == 0 || jointOk tb n),
        firstFailing bad .window (fun n => (windowOf tb n).count == 0 || windowOk tb n)] := by
  have hnone : ∀ x : Option EntryRef, (x <|> none) = x := fun x => by cases x <;> rfl
  simp only [findSome_cons_id, List.findSome?_nil, hnone]
  rfl

end Sys2Proof.Machine
end

section
/-! The end of a validation (O21): the outcome, the zones judged again, and the slow ring. -/

namespace Sys2Proof.Machine

variable {s : State} {z m : Nat}

/-! ### The outcome (R171) -/

theorem exec_validationComplete {req : Requester} (ha : awake s = true) (hv : s.validating = some req) :
    exec .validationComplete s = .next (serveValidation req s) := by
  refine (acting_awake (work := fun s => match s.validating with
    | some req => serveValidation req s
    | none => s) ha).trans ?_
  rw [hv]

/-- R171: the entry to NORMAL, step by step. -/
theorem enterNormalMode_eq (during : List (List IntakeArrival)) (s : State) :
    enterNormalMode during s =
      (let u := buildSlowRing (reevaluateZones { s with failing := none })
      let v := recordEntry .modeChange 0 (modeCode u.mode * 256 + 2) { u with mode := .normal }
      placementDecision during (drain
        (if zoneNumbers.any (fun z => (zoneRec v z).state == .confirmed || (zoneRec v z).state == .secondary)
          then revokeHold v else v))) := by
  unfold enterNormalMode
  rw [changeMode_eq]
  rfl

theorem serveValidation_eq (req : Requester) (s : State) :
    serveValidation req s = match validate s.tables [] with
      | some r =>
        answer req .invalid (configInvalid r { s with validating := none, entryIntake := [] })
      | none =>
        endStep (answer req .ok (drain (enterNormalMode s.entryIntake { s with validating := none, entryIntake := [] }))) :=
  rfl

/-! ### The zones (R16, R17) -/

/-- R16: a zone in service in PREALARM that meets its threshold is confirmed. -/
theorem reconfirmed_of_mem (h : z ∈ zoneNumbers) :
    reconfirmed s z = (decide ((zoneEntry s z).enabled = 1) && (zoneRec s z).state == .prealarm &&
      decide ((zoneEntry s z).threshold ≤ (zoneRec s z).sources.length)) := by
  obtain ⟨hlow, hhigh⟩ := mem_zoneNumbers.1 h
  rw [reconfirmed, inService, decide_eq_true hlow, decide_eq_true hhigh]
  rfl

theorem reconfirmed_iff :
    reconfirmed s z = true ↔ (1 ≤ z ∧ z ≤ 32 ∧ (zoneEntry s z).enabled = 1) ∧
      (zoneRec s z).state = .prealarm ∧ (zoneEntry s z).threshold ≤ (zoneRec s z).sources.length := by
  simp only [reconfirmed, Bool.and_eq_true, inService_iff, beq_iff_eq, decide_eq_true_eq, and_assoc]

theorem reevaluateZones_eq (s : State) :
    reevaluateZones s =
      (zoneNumbers.filter (fun z => decide ((zoneEntry s z).enabled = 1) && (zoneRec s z).state == .prealarm &&
        decide ((zoneEntry s z).threshold ≤ (zoneRec s z).sources.length))).foldl (fun t z => tellConfirmed z t)
      (zoneNumbers.foldl (fun t z => reevaluateZone z t) s) := by
  rw [reevaluateZones, List.filter_congr fun z hz => reconfirmed_of_mem hz]

/-- R16: a zone out of service becomes NORMAL. -/
theorem reevaluateZone_outOfService (h : ¬ inService s.tables z = true) :
    reevaluateZone z s = if (zoneRec s z).state = .normal then s
      else recordEntry .zoneReset z (zoneStateCode (zoneRec s z).state) (setZone z coldZone s) := by
  rw [← raise_plain rfl, reevaluateZone]
  exact if_pos (by simpa using h)

/-- R16: a zone in service is confirmed, or stands. -/
theorem reevaluateZone_inService (h : inService s.tables z = true) :
    reevaluateZone z s = if reconfirmed s z = true then recordEntry .zoneConfirmed z 0 (setZone z
        { zoneRec s z with state := .confirmed, confirmation := some { reason := .coincidence, stamp := s.uptime } } s)
      else s := by
  rw [← raise_plain rfl, reevaluateZone]
  exact if_neg (by simp [h])

/-! ### The slow ring (R129) -/

theorem slowMembers_pairwise (s : State) : (slowMembers s).Pairwise (fun x y => x < y) := by
  refine (sortBy_pairwise (fun x y w hxy hyw => ?_) (fun x y hxy => ?_) (List.nodup_dedup _)).imp of_decide_eq_true
  · exact decide_eq_true ((of_decide_eq_true hxy).trans (of_decide_eq_true hyw))
  · exact (Nat.lt_or_gt_of_ne hxy).imp decide_eq_true decide_eq_true

theorem mem_slowMembers : m ∈ slowMembers s ↔ ∃ o ∈ configured s, (outEntry s o).module = m := by
  rw [slowMembers, mem_sortBy, List.mem_dedup, List.mem_map]

/-! ### The statement -/

/-- Settles O21: the outcome, the zones, the slow ring, the first failing entry, and the items. -/
theorem validationEndsInItsOutcome : Obligations.ValidationEndsInItsOutcome := by
  refine ⟨fun req s ha hv => ?_, reevaluateZones_eq, fun s => ⟨rfl, slowMembers_pairwise s, fun m => mem_slowMembers⟩,
    fun z s => ?_, validate_eq, fun t n => ⟨linkOk_iff, fun _ => ?_, ⟨rfl, fanBeyond_iff⟩, zoneOk_iff,
      ⟨scenarioEntryOk_iff, ?_, scenarioNamed_iff⟩, jointOk_iff, windowOk_iff⟩⟩
  · rw [exec_validationComplete ha hv, serveValidation_eq]
    cases validate s.tables [] with
    | some r => exact congrArg _ (congrArg (answer req .invalid) (configInvalid_eq r _))
    | none => exact congrArg (fun u => Host.Outcome.next (endStep (answer req .ok (drain u)))) (enterNormalMode_eq _ _)
  · have hin := inService_iff s z
    refine ⟨fun hn hr => ?_, fun hn hr => ?_, fun he hp hl => ?_, fun he hn => ?_⟩
    · rw [reevaluateZone_outOfService (mt hin.1 hn), if_pos hr]
    · rw [reevaluateZone_outOfService (mt hin.1 hn), if_neg hr]
    · rw [reevaluateZone_inService (hin.2 he), if_pos (reconfirmed_iff.2 ⟨he, hp, hl⟩)]
    · rw [reevaluateZone_inService (hin.2 he), if_neg fun hc => hn (reconfirmed_iff.1 hc).2]
  · rw [outputOk_iff, standbyOk_iff, kindOk_iff]
    rfl
  · rw [scenarioOk_iff]
    exact and_congr_right fun _ => forall₂_congr fun _ _ => stepOk_iff

end Sys2Proof.Machine
end
